-- ==== Sys2Proof/Word.lean ====
section
/-! DEFINITION. The words that the FG-2 treats as bits: bytes of its frames, card IDs, check codes and keys. -/

namespace Sys2Proof

/-- One byte of a host frame, of a card area or of a journal record (spec/11_formats.md, R184). -/
abbrev Byte := BitVec 8

/-- A card ID, "56-bit value" (R17). -/
abbrev CardId := BitVec 56

/-- A check code, "the 32-bit value that the keyed check function computes" (spec/00_scope.md, R84). -/
abbrev CheckCode := BitVec 32

/-- A key of the key table, 128 bits (R83). -/
abbrev Key := BitVec 128

end Sys2Proof
end

