-- ==== Sys2Proof/Syntax.lean ====
section
/-! DEFINITION. The commands of the FG-2, one constructor of `Instr` for each row of spec/opcode_table.json, and the plain data that their operands are made of. -/

namespace Sys2Proof

/-- One of the two ends of the aisle: side A faces the unpaid area, side B the paid area (spec/00_scope.md, Terms). -/
inductive Side where
  | a
  | b
deriving DecidableEq, Repr

/-- The three occupancy zones (R118). -/
inductive Zone where
  | za
  | zm
  | zb
deriving DecidableEq, Repr

/-- The seven discrete inputs (R118), in the order of the input codes of section 11.1. -/
inductive Input where
  | za
  | zm
  | zb
  | openLimit
  | closedLimit
  | driveFault
  | emergency
deriving DecidableEq, Repr

/-- A card's two record slots (R18). -/
inductive SlotNo where
  | zero
  | one
deriving DecidableEq, Repr

/-- What DEBOUNCE_EXPIRY says has expired: one input's timer, or the timers of several zones at one instant of the tick (R125). -/
inductive DebounceGroup where
  | single (i : Input)
  | zones (za zm zb : Bool)
deriving DecidableEq, Repr

/-- A card's static area as CLAIMED carries it (R17, R188): each field at the size of its layout. -/
structure StaticArea where
  cardId : CardId
  issuer : BitVec 16
  keyVersion : BitVec 8
  productCode : BitVec 8
  passFrom : BitVec 16
  passTo : BitVec 16
  zoneLow : BitVec 8
  zoneHigh : BitVec 8
  code : CheckCode
deriving DecidableEq, Repr

/-- The 30 bytes of a record slot as SLOT carries them, unverified (R15, R188): each field at the size of its layout. -/
structure RawRecord where
  counter : BitVec 24
  purse : BitVec 32
  journey : BitVec 8
  origin : BitVec 8
  start : BitVec 32
  paid : BitVec 16
  legs : BitVec 8
  lastStation : BitVec 8
  lastKind : BitVec 8
  lastMinute : BitVec 32
  capDay : BitVec 16
  capAcc : BitVec 16
  code : CheckCode
deriving DecidableEq, Repr

/-- The fields of a SIGHTING request (R113, R186), as read from its payload and not yet judged. -/
structure SightingFields where
  cardId : CardId
  counter : Nat
  purse : Int
  kind : Nat
  second : Nat
  station : Nat
  gate : Nat
  passage : Nat
deriving DecidableEq, Repr

/-- The date and time that SET_CLOCK carries (R87), not yet judged. -/
structure DateTime where
  year : Nat
  month : Nat
  day : Nat
  hour : Nat
  minute : Nat
  second : Nat
deriving DecidableEq, Repr

/-- The commands. A request command carries its tag and the fields of its payload (section 11.3) as unsigned numbers; a field's range
is judged by the rule that owns the request (R184), so an operand may hold a value that the rule refuses. -/
inductive Instr where
  /-- POWER_ON (R182). -/
  | powerOn
  /-- RESET_PIN (R182). -/
  | resetPin
  /-- SUPPLY_DIP (R182). -/
  | supplyDip
  /-- SETTLE_TIMER_EXPIRY (R2). -/
  | settleTimerExpiry (side : Side)
  /-- SUMMONS_TIMER_EXPIRY (R3). -/
  | summonsTimerExpiry (side : Side)
  /-- HAIL (R4): an answer in the hail window, clean with its card ID, or garbled. -/
  | hail (side : Side) (clean : Bool) (card : CardId)
  /-- HAIL_WINDOW_CLOSE (R4). -/
  | hailWindowClose (side : Side)
  /-- IDLE_TIMER_EXPIRY (R3). -/
  | idleTimerExpiry (side : Side)
  /-- HOLDOFF_TIMER_EXPIRY (R5). -/
  | holdoffTimerExpiry (side : Side)
  /-- SAME_CARD_HOLD_EXPIRY (R6). -/
  | sameCardHoldExpiry (side : Side)
  /-- CARRIER_LOSS (R7). -/
  | carrierLoss (side : Side)
  /-- CARRIER_RETURN (R7). -/
  | carrierReturn (side : Side)
  /-- CLAIMED (R11): whether its frame check passes, the static area and whether the block flag is SET. -/
  | claimed (side : Side) (frameOk : Bool) (area : StaticArea) (blocked : Bool)
  /-- SLOT (R15): whether its frame check passes, the echoed turn bit, the slot number and the slot's contents. -/
  | slot (side : Side) (frameOk : Bool) (turn : Bool) (no : SlotNo) (contents : RawRecord)
  /-- DONE (R15): whether its frame check passes and the echoed turn bit. -/
  | done (side : Side) (frameOk : Bool) (turn : Bool)
  /-- ANSWER_TIMER_EXPIRY (R14). -/
  | answerTimerExpiry (side : Side)
  /-- GUARD_TIMER_EXPIRY (R29). -/
  | guardTimerExpiry (side : Side)
  /-- SCREENING (R94). -/
  | screening (side : Side)
  /-- PRICING_COMPLETE (R49). -/
  | pricingComplete
  /-- IN_DOUBT_DEADLINE_EXPIRY (R43): the entry is named by its card ID, of which the table holds one entry at most. -/
  | inDoubtDeadlineExpiry (card : CardId)
  /-- TARIFF_LOAD (R75): section number and the bytes of its contents. -/
  | tariffLoad (tag : Byte) (sect : Nat) (contents : List Byte)
  /-- TARIFF_ACTIVATE (R77). -/
  | tariffActivate (tag : Byte) (version day : Nat)
  /-- TARIFF_DISCARD (R80). -/
  | tariffDiscard (tag : Byte)
  /-- KEY_LOAD (R83). -/
  | keyLoad (tag : Byte) (slot : Nat) (key : Key)
  /-- KEY_ERASE (R83). -/
  | keyErase (tag : Byte) (slot : Nat)
  /-- CLOCK_ADVANCE (R85). -/
  | clockAdvance
  /-- SET_CLOCK (R88): the date and time and the force flag. -/
  | setClock (tag : Byte) (at_ : DateTime) (force : Nat)
  /-- GET_CLOCK (R89). -/
  | getClock (tag : Byte)
  /-- STATION_FREE_PERIOD (R92). -/
  | stationFreePeriod (tag : Byte) (start stop : Nat)
  /-- HOLD_RELEASE (R99). -/
  | holdRelease (tag : Byte) (card : CardId)
  /-- HOLD_LIST_READ (R99). -/
  | holdListRead (tag : Byte) (start : Nat)
  /-- DENYLIST_ADD (R101). -/
  | denylistAdd (tag : Byte) (card : CardId)
  /-- DENYLIST_REMOVE (R101). -/
  | denylistRemove (tag : Byte) (card : CardId)
  /-- DENYLIST_APPLY_BEGIN (R102). -/
  | denylistApplyBegin
  /-- DENYLIST_APPLY_COMPLETE (R102). -/
  | denylistApplyComplete
  /-- DENYLIST_BEGIN (R105). -/
  | denylistBegin (tag : Byte) (version : Nat)
  /-- DENYLIST_PAGE (R105). -/
  | denylistPage (tag : Byte) (cards : List CardId)
  /-- DENYLIST_END (R106). -/
  | denylistEnd (tag : Byte)
  /-- DENYLIST_SWAP (R106). -/
  | denylistSwap
  /-- DENYLIST_QUERY (R107). -/
  | denylistQuery (tag : Byte) (card : CardId)
  /-- SIGHTING (R113). -/
  | sighting (tag : Byte) (fields : SightingFields)
  /-- RAW_INPUT_CHANGE (R119): the input and its new raw level (HIGH is true). -/
  | rawInputChange (input : Input) (high : Bool)
  /-- DEBOUNCE_EXPIRY (R119). -/
  | debounceExpiry (group : DebounceGroup)
  /-- STUCK_TIMER_EXPIRY (R122). -/
  | stuckTimerExpiry (zone : Zone)
  /-- SET_PARAMETER (R181): parameter code, input code and value. -/
  | setParameter (tag : Byte) (param input value : Nat)
  /-- TRAVEL_TIMER_EXPIRY (R136). -/
  | travelTimerExpiry
  /-- PASSAGE_DEADLINE_EXPIRY (R137). -/
  | passageDeadlineExpiry
  /-- CLOSE_DELAY_EXPIRY (R138). -/
  | closeDelayExpiry
  /-- ALARM_TIMER_EXPIRY (R147). -/
  | alarmTimerExpiry (side : Side)
  /-- SET_AISLE_MODE (R152). -/
  | setAisleMode (tag : Byte) (mode : Nat)
  /-- SET_DIRECTION_TABLE (R142): the side code of each entry. -/
  | setDirectionTable (tag : Byte) (entries : List Nat)
  /-- FREE_OPEN (R153), GATE_COMMAND with code 1. -/
  | freeOpen (tag : Byte)
  /-- RESUME (R153), GATE_COMMAND with code 2. -/
  | resume (tag : Byte)
  /-- GRANT_A (R153), GATE_COMMAND with code 3. -/
  | grantA (tag : Byte)
  /-- GRANT_B (R153), GATE_COMMAND with code 4. -/
  | grantB (tag : Byte)
  /-- CANCEL_GRANTS (R153), GATE_COMMAND with code 5. -/
  | cancelGrants (tag : Byte)
  /-- SET_FAULT_RESPONSE (R157): class code and response code. -/
  | setFaultResponse (tag : Byte) (cls response : Nat)
  /-- CLEAR_FAULT (R158): class code. -/
  | clearFault (tag : Byte) (cls : Nat)
  /-- SERVICE_HOLD_BARRIER_ENTER (R160). -/
  | serviceHoldBarrierEnter (tag : Byte)
  /-- SERVICE_HOLD_BARRIER_LEAVE (R160). -/
  | serviceHoldBarrierLeave (tag : Byte)
  /-- SERVICE_HOLD_READER_ENTER (R161): the side whose reader is held. -/
  | serviceHoldReaderEnter (tag : Byte) (side : Side)
  /-- SERVICE_HOLD_READER_LEAVE (R161). -/
  | serviceHoldReaderLeave (tag : Byte) (side : Side)
  /-- REFUSAL_TIMER_EXPIRY (R162). -/
  | refusalTimerExpiry (side : Side)
  /-- SET_LAMP_PRIORITY (R163): seven condition codes, highest first. -/
  | setLampPriority (tag : Byte) (order : List Nat)
  /-- JOURNAL_READ (R170). -/
  | journalRead (tag : Byte) (start count : Nat)
  /-- JOURNAL_RELEASE (R171). -/
  | journalRelease (tag : Byte) (seq : Nat)
  /-- RX_BYTE (R173): the byte and whether its stop bit was present. -/
  | rxByte (byte : Byte) (stopBit : Bool)
  /-- GAP_TIMER_EXPIRY (R173). -/
  | gapTimerExpiry
  /-- UNKNOWN_KIND (R174): the kind byte received, which is no request kind. -/
  | unknownKind (tag : Byte) (kind : Byte)
  /-- BAD_LENGTH (R174): a request kind whose payload length it does not allow. -/
  | badLength (tag : Byte) (kind : Byte)
  /-- FRAME_SENT (R176). -/
  | frameSent
  /-- SET_NOTICE_MASK (R178): a mask code for each of the seven classes. -/
  | setNoticeMask (tag : Byte) (masks : List Nat)
  /-- GET_STATUS (R179): part number. -/
  | getStatus (tag : Byte) (part : Nat)
  /-- SET_IDENTITY (R180). -/
  | setIdentity (tag : Byte) (station gate : Nat)
  /-- RESTART (R183). -/
  | restart (tag : Byte)
  /-- BACKUP_SUPPLY_FAILURE (R182). -/
  | backupSupplyFailure
deriving DecidableEq, Repr

end Sys2Proof
end

