-- ==== Sys2Proof/Machine/Types.lean ====
section
/-! DEFINITION. The values that the pieces of state take: the named states, modes and codes, and the records, notices and requests that queues and tables hold. -/

namespace Sys2Proof.Machine

/-- A tick timer: absent when not running, else the milliseconds it still has to run (spec/00_scope.md, Two kinds of time; log 2). -/
abbrev Timer := Option Nat

/-- One value for each side. -/
structure PerSide (α : Type) where
  a : α
  b : α
deriving DecidableEq, Repr

/-- One value for each occupancy zone. -/
structure PerZone (α : Type) where
  za : α
  zm : α
  zb : α
deriving DecidableEq, Repr

/-- One value for each of the seven inputs (R118). -/
structure PerInput (α : Type) where
  za : α
  zm : α
  zb : α
  openLimit : α
  closedLimit : α
  driveFault : α
  emergency : α
deriving DecidableEq, Repr

/-! Readers and the card link. -/

/-- Link state (R1). -/
inductive LinkState where
  | settling
  | searching
  | bound
  | down
deriving DecidableEq, Repr

/-- Cadence state (R3). -/
inductive Cadence where
  | active
  | idle
  | quiet
deriving DecidableEq, Repr

/-- ENTRY or EXIT, a tap kind, a sighting kind or a last tap kind. -/
inductive TapKind where
  | entry
  | exit
deriving DecidableEq, Repr

/-- Journey state of a card record (R18). -/
inductive JourneyState where
  | none
  | opened
  | closed
deriving DecidableEq, Repr

/-- A complete card record with every field in its range (R18). -/
structure CardRecord where
  counter : Nat
  purse : Int
  journey : JourneyState
  origin : Nat
  start : Nat
  paid : Nat
  legs : Nat
  lastStation : Nat
  lastKind : TapKind
  lastMinute : Nat
  capDay : Nat
  capAcc : Nat
  code : CheckCode
deriving DecidableEq, Repr

/-- A frame that the side sends to a card (R9, R11, R12, R16). The turn bit is carried by every frame after the claim. -/
inductive LinkFrame where
  | summon
  | claim (card : CardId)
  | fetch (turn : Bool) (no : SlotNo)
  | store (turn : Bool) (no : SlotNo) (record : CardRecord)
  | mark (turn : Bool)
  | part (turn : Bool)
deriving DecidableEq, Repr

/-- The exchange in progress (R1, R14). -/
structure Exchange where
  frame : LinkFrame
  attempt : Nat
  answer : Timer
deriving DecidableEq, Repr

/-- The same-card hold (R6). -/
structure SameCardHold where
  card : CardId
  absence : Nat
deriving DecidableEq, Repr

/-- What has been heard in the open hail window (R4). -/
structure HailWindow where
  ids : List CardId
  garbled : Bool
  timer : Nat
deriving DecidableEq, Repr

/-- One reader side (R1), with its carrier pin (R7), the settle that R8 asks for when a hold ends, and the frame last sent (log 30). -/
structure Reader where
  link : LinkState
  cadence : Cadence
  settle : Timer
  summons : Timer
  idle : Timer
  holdoff : Timer
  hold : Option SameCardHold
  claimed : Option CardId
  turn : Bool
  exchange : Option Exchange
  window : Option HailWindow
  carrier : Bool
  needsSettle : Bool
  lastFrame : Option LinkFrame
deriving DecidableEq, Repr

/-! The card transaction. -/

/-- The ten states of a transaction context (R22). -/
inductive CtxState where
  | polling
  | claiming
  | reading
  | screening
  | pricing
  | writing
  | marking
  | finishing
  | holdoff
  | outOfService
deriving DecidableEq, Repr

/-- Outcome codes (R48, section 11.1). -/
inductive TapOutcome where
  | accepted
  | repeated
  | resolved
  | retap
  | outOfService
  | freeOpen
  | noTariff
  | clockUnset
  | sideFull
  | journalFull
  | timeout
  | cardLost
  | multipleCards
  | checkFailed
  | keyUnknown
  | productUnknown
  | stationClosed
  | directionClosed
  | inDoubtOtherSide
  | inDoubtFull
  | held
  | denylisted
  | cardBlocked
  | cloneSuspect
  | passback
  | passInvalid
  | insufficient
  | cardExhausted
deriving DecidableEq, Repr

/-- Clone reasons (R48). -/
inductive CloneReason where
  | bothSides
  | slotConflict
  | counter
  | conflictFlag
deriving DecidableEq, Repr

/-- Capture result (R31). -/
inductive CaptureResult where
  | done
  | failed
deriving DecidableEq, Repr

/-- The grant field of a TAP_RESULT (R48). -/
inductive Grant where
  | none
  | queued
  | discarded
  | cancelled
deriving DecidableEq, Repr

/-- A denylist mark while it is open (R103). -/
structure DenyMark where
  arrival : Nat
  afterSwap : Bool
deriving DecidableEq, Repr

/-- Product kind (R76 section 7). -/
inductive ProductKind where
  | unmapped
  | storedValue
  | periodPass
  | staff
deriving DecidableEq, Repr

/-- Fare record kinds (R166). -/
inductive FareKind where
  | entry
  | exitCharge
  | incompleteCharge
  | unenteredCharge
  | freeExit
  | passUse
deriving DecidableEq, Repr

/-- A fare record (R73, R166): what the calculator returns, with the card ID, side and transaction instant that the context adds. -/
structure FareRecord where
  kind : FareKind
  charge : Nat
  counterBefore : Nat
  counterAfter : Nat
  purseAfter : Int
  tariff : Nat
  origin : Nat
  station : Nat
  profile : Nat
  card : CardId
  side : Side
  instant : Nat
deriving DecidableEq, Repr

/-- The key table: 8 slots, each empty or loaded (R83). -/
abbrev KeyTable := List (Option Key)

/-- The fields of a context that are present from the start of a transaction, or as each arrives (R21). The authorisation reservation
is the passage controller's reservation of this side (R131). -/
structure Transaction where
  card : CardId
  instant : Nat
  tariff : Nat
  keys : Option KeyTable
  mark : Option DenyMark
  journalHeld : Bool
  area : Option StaticArea
  blocked : Bool
  slot0 : Option RawRecord
  slot1 : Option RawRecord
  current : Option SlotNo
  product : Option (ProductKind × Nat)
  attached : Option CardId
  intended : Option CardRecord
  fare : Option FareRecord
  verdict : Option (TapOutcome × Option CloneReason)
  guard : Timer
  waitsForSwap : Bool
deriving DecidableEq, Repr

/-- A transaction context: its state, and the transaction's fields, which are absent in POLLING, HOLDOFF and OUT_OF_SERVICE (R21, R37). -/
structure Context where
  state : CtxState
  tx : Option Transaction
deriving DecidableEq, Repr

/-- An in-doubt entry (R38). `passed` says that the deadline went by while the entry was attached (R39). -/
structure InDoubt where
  card : CardId
  side : Side
  oldCounter : Nat
  target : SlotNo
  record : CardRecord
  fare : FareRecord
  tariff : Nat
  deadline : Timer
  passed : Bool
  attached : Bool
deriving DecidableEq, Repr

/-! Tariffs, keys and clock. -/

/-- Day type (R86). -/
inductive DayType where
  | weekday
  | saturday
  | sundayHoliday
deriving DecidableEq, Repr

/-- Section 2 of a tariff (R76). -/
structure BandTable where
  fares : List Nat
  peak : Nat
  offPeak : Nat
  unit : Nat
deriving DecidableEq, Repr

/-- Section 3 of a tariff: the windows of each day type, each a start and an end minute (R76). -/
structure PeakWindows where
  weekday : List (Nat × Nat)
  saturday : List (Nat × Nat)
  sundayHoliday : List (Nat × Nat)
deriving DecidableEq, Repr

/-- One profile of section 4 (R76). -/
structure Profile where
  discount : Nat
  cap : Nat
  entryMinimum : Nat
deriving DecidableEq, Repr

/-- Section 5 of a tariff (R76). -/
structure Rules where
  transferWindow : Nat
  reentryGrace : Nat
  sameStationWindow : Nat
  sameStationCharge : Nat
  incompleteCharge : Nat
  unenteredCharge : Nat
  freeExitWindow : Nat
  overdraft : Nat
  boundary : Nat
deriving DecidableEq, Repr

/-- A tariff bank (R74): seven sections, each present or absent, a version and a validity flag. -/
structure Bank where
  stations : Option (List Nat)
  bands : Option BandTable
  peaks : Option PeakWindows
  profiles : Option (List Profile)
  rules : Option Rules
  holidays : Option (List Nat)
  products : Option (List (ProductKind × Nat))
  version : Option Nat
  valid : Bool
deriving DecidableEq, Repr

/-- Origin of a free period (R90). -/
inductive PeriodOrigin where
  | local
  | station
deriving DecidableEq, Repr

/-- The free period record (R90); its end is absent while a local free-open is in force. -/
structure FreePeriod where
  start : Nat
  stop : Option Nat
  origin : PeriodOrigin
deriving DecidableEq, Repr

/-- A pricing in progress (R49): the side whose request it is, and the free period record as it stood when the pricing was taken. -/
structure Pricing where
  side : Side
  period : Option FreePeriod
deriving DecidableEq, Repr

/-! Screening. -/

/-- A hold list entry (R95); `joined` orders entries of equal hold-until (log 29). -/
structure HoldEntry where
  card : CardId
  until_ : Nat
  joined : Nat
deriving DecidableEq, Repr

/-- An update of the denylist in the update queue (R100). -/
structure DenyUpdate where
  add : Bool
  card : CardId
  arrival : Nat
deriving DecidableEq, Repr

/-- Build state of a bulk replace (R100). -/
inductive BuildState where
  | idle
  | building
  | ending
deriving DecidableEq, Repr

/-- Source of a sighting (R109). -/
inductive SightingSource where
  | local
  | peer
deriving DecidableEq, Repr

/-- Passage state of a sighting (R109). -/
inductive PassageState where
  | none
  | pending
  | taken
  | notTaken
deriving DecidableEq, Repr

/-- A sighting (R109); `joined` orders entries of equal second (log 29). -/
structure Sighting where
  card : CardId
  counter : Nat
  purse : Int
  alternate : Option Nat
  kind : TapKind
  second : Nat
  station : Nat
  gate : Nat
  source : SightingSource
  passage : PassageState
  conflict : Bool
  joined : Nat
deriving DecidableEq, Repr

/-! Aisle sensing. -/

/-- One input's filter: filtered state (ACTIVE is true) and debounce timer (R118). -/
structure Filter where
  filtered : Bool
  debounce : Timer
deriving DecidableEq, Repr

/-- One input's retained parameters (R120). -/
structure InputParam where
  activeHigh : Bool
  debounceMs : Nat
deriving DecidableEq, Repr

/-- One zone's stuck timer and mark (R122). -/
structure StuckMonitor where
  timer : Timer
  stuck : Bool
deriving DecidableEq, Repr

/-- Tracker state (R124); the B states mirror the A states. -/
inductive TrackerState where
  | empty
  | a1
  | a2
  | a3
  | b1
  | b2
  | b3
deriving DecidableEq, Repr

/-- The occupancy tracker (R124). -/
structure Tracker where
  state : TrackerState
  resync : Bool
  behind : Bool
  byFollower : Bool
  pattern : PerZone Bool
deriving DecidableEq, Repr

/-- A report of the tracker (R130). The direction of a PASSAGE or COUNTERFLOW is named by the side at which it starts: A for A→B. -/
inductive Report where
  | passage (start : Side) (follower behind : Bool)
  | backout (side : Side)
  | counterflow (start : Option Side)
deriving DecidableEq, Repr

/-! Barrier and passage control. -/

/-- Origin of an authorisation (R131). -/
inductive AuthOrigin where
  | card
  | staff
  | repeat
  | manual
deriving DecidableEq, Repr

/-- An authorisation (R131). -/
structure Auth where
  origin : AuthOrigin
  card : Option CardId
  seq : Option Nat
  granted : Option Nat
  deadline : Timer
deriving DecidableEq, Repr

/-- What withdrew a reservation, hence how its fill is answered (R132). -/
inductive WithdrawCause where
  | freeOpen
  | holdOrFailClosed
deriving DecidableEq, Repr

/-- A side's authorisation reservation (R131). -/
inductive Reservation where
  | absent
  | held
  | withdrawn (cause : WithdrawCause)
deriving DecidableEq, Repr

/-- Barrier state (R134). -/
inductive BarrierState where
  | closed
  | opening
  | opened
  | closing
  | checking
  | freeOpen
  | faultOpen
  | held
  | faultClosed
deriving DecidableEq, Repr

/-- Closing phase (R134, R139); `zeroWait` is the tailgate close of R145. -/
inductive ClosingPhase where
  | clearing
  | yielding (zeroWait : Bool)
  | driving
deriving DecidableEq, Repr

/-- Drive command (R134). -/
inductive Drive where
  | open_
  | close
  | stop
deriving DecidableEq, Repr

/-- Free-open reasons (R148). -/
inductive FreeReason where
  | emergency
  | command
  | fault
deriving DecidableEq, Repr

/-- The set of free-open reasons (R134). -/
structure FreeReasons where
  emergency : Bool
  command : Bool
  fault : Bool
deriving DecidableEq, Repr

/-- Aisle mode (R152). -/
inductive AisleMode where
  | closed
  | entryOnly
  | exitOnly
  | bidirectional
deriving DecidableEq, Repr

/-- Alarm kinds (R147). -/
inductive AlarmKind where
  | intrusion
  | wrongWay
  | tailgate
  | forced
deriving DecidableEq, Repr

/-- Why a PASSAGE_NOT_TAKEN record is made (R133). -/
inductive NotTakenReason where
  | expired
  | cancelled
deriving DecidableEq, Repr

/-! Supervision. -/

/-- Fault classes (R154). -/
inductive FaultClass where
  | barrier
  | sensor
  | readerA
  | readerB
  | clock
  | journal
  | tariff
deriving DecidableEq, Repr

/-- Condition of a fault class: CLEAR, or RAISED with the second of the raise (absent if the clock was UNSET) (R154). -/
inductive FaultCond where
  | clear
  | raised (second : Option Nat)
deriving DecidableEq, Repr

/-- Responses to a fault class (R156, section 11.1). -/
inductive FaultResponse where
  | fixed
  | failClosed
  | failFree
  | continue_
deriving DecidableEq, Repr

/-- The condition of every fault class (R154). -/
structure FaultConds where
  barrier : FaultCond
  sensor : FaultCond
  readerA : FaultCond
  readerB : FaultCond
  clock : FaultCond
  journal : FaultCond
  tariff : FaultCond
deriving DecidableEq, Repr

/-- Stance of the gate (R156). -/
inductive Stance where
  | freeOpen
  | held
  | failedClosed
  | serving
deriving DecidableEq, Repr

/-- Lamp conditions (R162). -/
inductive LampCond where
  | free
  | outOfService
  | alarm
  | refused
  | retap
  | go
  | idle
deriving DecidableEq, Repr

/-- Lamp outputs (R163). -/
inductive LampOutput where
  | green
  | red
  | redFlashing
  | amber
  | white
deriving DecidableEq, Repr

/-! The journal. -/

/-- Warm-start causes (R182). -/
inductive StartCause where
  | resetPin
  | supplyDip
  | restart
  | powerOn
deriving DecidableEq, Repr

/-- The detail of a journal record (R166, R167). -/
inductive RecordBody where
  | fare (f : FareRecord)
  | cloneCapture (card : CardId) (counter : Nat) (outcome : TapOutcome) (reason : Option CloneReason) (capture : CaptureResult) (tariff : Nat)
  | inDoubtExpired (card : CardId) (oldCounter : Nat) (record : CardRecord) (fareKind : FareKind) (charge tariff : Nat)
  | inDoubtSuperseded (card : CardId) (oldCounter : Nat) (record : CardRecord) (fareKind : FareKind) (charge tariff found : Nat)
  | staffPassage (card : Option CardId) (start : Side)
  | passageNotTaken (origin : AuthOrigin) (card : Option CardId) (seq granted : Option Nat) (reason : NotTakenReason)
  | alarm (kind : AlarmKind) (direction owner : Option Side) (namesA namesB : Bool)
  | fault (cls : FaultClass) (raised : Bool) (response : FaultResponse)
  | freeOpenStart (reason : FreeReason) (cancelled withdrawn : Nat)
  | freeOpenEnd (count : Nat)
  | tariffActivated (version : Nat) (previous : Option Nat) (day : Nat)
  | clockSet (before : Option Nat) (taken : Nat) (forced : Bool)
  | warmStart (cause : StartCause) (kept : Nat) (abandoned : Bool)
  | journalStart
deriving DecidableEq, Repr

/-- A journal record (R166): sequence number, network second, side and detail. -/
structure JournalRecord where
  seq : Nat
  second : Option Nat
  side : Option Side
  body : RecordBody
deriving DecidableEq, Repr

/-! The host port. -/

/-- Result codes (section 11.1). -/
inductive Result where
  | ok
  | clamped
  | busy
  | badLength
  | unknownKind
  | badValue
  | badClock
  | clockBackward
  | notNow
  | queueFull
  | tariffPending
  | bulkInProgress
  | badSeq
  | notFound
  | sideFull
deriving DecidableEq, Repr

/-- The requests that a frame can carry once it is judged (R174), with the fields of their payloads (section 11.3). -/
inductive Request where
  | getStatus (part : Nat)
  | setIdentity (station gate : Nat)
  | setAisleMode (mode : Nat)
  | setParameter (param input value : Nat)
  | gateCommand (code : Nat)
  | serviceHold (target action : Nat)
  | clearFault (cls : Nat)
  | setFaultResponse (cls response : Nat)
  | setLampPriority (order : List Nat)
  | setDirectionTable (entries : List Nat)
  | tariffLoad (sect : Nat) (contents : List Byte)
  | tariffActivate (version day : Nat)
  | tariffDiscard
  | keyLoad (slot : Nat) (key : Key)
  | keyErase (slot : Nat)
  | setClock (at_ : DateTime) (force : Nat)
  | getClock
  | denylistAdd (card : CardId)
  | denylistRemove (card : CardId)
  | denylistBegin (version : Nat)
  | denylistPage (cards : List CardId)
  | denylistEnd
  | denylistQuery (card : CardId)
  | holdRelease (card : CardId)
  | holdListRead (start : Nat)
  | sighting (fields : SightingFields)
  | stationFreePeriod (start stop : Nat)
  | journalRead (start count : Nat)
  | journalRelease (seq : Nat)
  | setNoticeMask (masks : List Nat)
  | restart
  | unknownKind (kind : Byte)
  | badLength (kind : Byte)
deriving DecidableEq, Repr

/-- A queued request with its tag (R175). -/
structure Queued where
  tag : Byte
  request : Request
deriving DecidableEq, Repr

/-- What a request's owner answers: a result code and the fields after it (R185). -/
structure Answer where
  result : Result
  fields : List Byte
deriving DecidableEq, Repr

/-- A reply (R175, R185): the kind of its request plus 0x80 (0xFF for an unknown kind), the tag, the result and the fields after it. -/
structure Reply where
  kind : Byte
  tag : Byte
  result : Result
  fields : List Byte
deriving DecidableEq, Repr

/-- The seven maskable notice classes (R178). -/
inductive NoticeClass where
  | tapResult
  | passage
  | sightingOut
  | alarm
  | fault
  | journalLow
  | holdAdded
deriving DecidableEq, Repr

/-- The charge, purse after and journal sequence of a TAP_RESULT (R48). -/
structure ChargeInfo where
  charge : Nat
  purse : Int
  seq : Nat
deriving DecidableEq, Repr

/-- The fields of a TAP_RESULT notice (R48, R186). -/
structure TapResult where
  side : Side
  outcome : TapOutcome
  card : Option CardId
  reason : Option CloneReason
  capture : Option CaptureResult
  grant : Grant
  charge : Option ChargeInfo
  tariff : Option Nat
deriving DecidableEq, Repr

/-- Event of a PASSAGE notice (R186). -/
inductive PassageEvent where
  | consumed (start : Side) (follower behind : Bool)
  | expired
  | cancelled
deriving DecidableEq, Repr

/-- The fault states a FAULT notice names (section 11.1): a class and RAISED or CLEARED, or DENYLIST_FULL with its card (R102). -/
inductive FaultNews where
  | cls (c : FaultClass) (raised : Bool) (response : FaultResponse)
  | denylistFull (card : CardId)
deriving DecidableEq, Repr

/-- The figures of a JOURNAL_LOW notice (R169). -/
structure JournalFigures where
  free : Nat
  reserved : Nat
  oldest : Option Nat
  newest : Option Nat
deriving DecidableEq, Repr

/-- The present state that a summary notice carries (R178). -/
inductive SummaryState where
  | alarm (a b : Bool)
  | fault (conds : List Bool)
  | journalLow (figures : JournalFigures)
  | holdAdded (entries : Nat)
deriving DecidableEq, Repr

/-- The fields of a STARTED notice (R182): no cause is a cold start. -/
structure StartedInfo where
  cause : Option StartCause
  nextSeq : Nat
  kept : Nat
  abandoned : Bool
  clockRunning : Bool
  tariff : Option Nat
  barrier : BarrierState
deriving DecidableEq, Repr

/-- The notices (R185, R186). -/
inductive Notice where
  | tapResult (t : TapResult)
  | passage (event : PassageEvent) (side : Side) (origin : AuthOrigin) (card : Option CardId) (seq : Option Nat)
  | freeOpenStart (cancelled withdrawn : Nat)
  | freeOpenEnd (count : Nat)
  | sightingOut (card : CardId) (counter : Nat) (purse : Int) (kind : TapKind) (second station gate : Nat) (passage : PassageState)
  | alarm (kind : AlarmKind) (direction owner : Option Side) (namesA namesB : Bool)
  | fault (news : FaultNews)
  | journalLow (figures : JournalFigures)
  | holdAdded (card : CardId) (until_ : Nat) (capture : CaptureResult)
  | started (info : StartedInfo)
  | overflow (count : Nat)
  | summary (cls : NoticeClass) (withheld : Nat) (present : SummaryState)
deriving DecidableEq, Repr

/-- The frame on the line (R176). -/
inductive LineFrame where
  | reply (r : Reply)
  | rejected (count : Nat)
  | notice (n : Notice)
deriving DecidableEq, Repr

/-- The receiver (R173): HUNTING, or RECEIVING with the bytes collected after the start byte. -/
inductive Receiver where
  | hunting
  | receiving (bytes : List Byte)
deriving DecidableEq, Repr

/-- One value for each notice class (R178). -/
structure PerClass (α : Type) where
  tapResult : α
  passage : α
  sightingOut : α
  alarm : α
  fault : α
  journalLow : α
  holdAdded : α
deriving DecidableEq, Repr

end Sys2Proof.Machine
end

