-- ==== Sys2Proof/Config.lean ====
section
/-! DEFINITION. What the manual does not give: opaque constants that no proof can see into. -/

namespace Sys2Proof.Config

/-- The keyed check function (R84): the key (diversified by the card ID inside the function), the card ID and the protected bytes in
layout order give the check code. "It does not give the function's internal construction" (spec/00_scope.md, Scope). DESIGN CHOICE,
safe: a free value (log 7). -/
opaque checkFn : Key → CardId → List Byte → CheckCode

/-- The code of a link state in the status image; section 11.1 gives none. DESIGN CHOICE, safe: a free value (log 8). -/
opaque linkCode : Machine.LinkState → Byte

/-- The code of a cadence state in the status image; section 11.1 gives none. DESIGN CHOICE, safe: a free value (log 8). -/
opaque cadenceCode : Machine.Cadence → Byte

/-- The code of a context state in the status image; section 11.1 gives none. DESIGN CHOICE, safe: a free value (log 8). -/
opaque contextCode : Machine.CtxState → Byte

/-- The code of a tracker state in the status image; section 11.1 gives none. DESIGN CHOICE, safe: a free value (log 8). -/
opaque trackerCode : Machine.TrackerState → Byte

/-- The code of a reservation in the status image; section 11.1 gives none. DESIGN CHOICE, safe: a free value (log 8). -/
opaque reservationCode : Machine.Reservation → Byte

/-- The code of a closing phase, or of its absence, in the status image; section 11.1 gives none. DESIGN CHOICE, safe: a free value (log 8). -/
opaque phaseCode : Option Machine.ClosingPhase → Byte

/-- The code of a stance in the status image; section 11.1 gives none. DESIGN CHOICE, safe: a free value (log 8). -/
opaque stanceCode : Machine.Stance → Byte

/-- The code of a lamp output in the status image; section 11.1 gives none. DESIGN CHOICE, safe: a free value (log 8). -/
opaque lampCode : Machine.LampOutput → Byte

end Sys2Proof.Config
end

