-- ==== Sys2Proof/Machine/Bytes.lean ====
section
/-! DEFINITION. Byte order, CRC, the frame and the card's areas as bytes, and the decoding of a record slot (spec/11_formats.md). -/

namespace Sys2Proof.Machine

/-- An unsigned number in `n` bytes, "with the most significant byte first" (R184). -/
def beBytes : Nat → Nat → List Byte
  | 0, _ => []
  | n + 1, v => BitVec.ofNat 8 (v / 256 ^ n) :: beBytes n v

/-- The unsigned number that bytes hold, most significant first (R184). -/
def beNat (bytes : List Byte) : Nat :=
  bytes.foldl (fun acc b => acc * 256 + b.toNat) 0

/-- The field of `n` bytes that begins at offset `at_` of a payload (chapter 11: offsets count from 0). -/
def fieldAt (at_ n : Nat) (bytes : List Byte) : Nat :=
  beNat ((bytes.drop at_).take n)

/-- A purse in four bytes, "signed and stored in two's complement" (R184). -/
def purseBytes (p : Int) : List Byte :=
  beBytes 4 (BitVec.ofInt 32 p).toNat

/-- A flag in one byte: 0 CLEAR or 1 SET. -/
def boolByte (b : Bool) : Byte :=
  if b then 1 else 0

/-- An optional field's bytes: "An absent field still takes up its bytes. The FG-2 sends those bytes as 0" (R184). -/
def optBytes (n : Nat) (v : Option Nat) : List Byte :=
  beBytes n (v.getD 0)

/-- A presence byte: bit `i` marks the `i`-th optional field, bit 0 the least significant (R184). -/
def presence (bits : List Bool) : Byte :=
  BitVec.ofNat 8 (bits.foldr (fun b acc => acc * 2 + if b then 1 else 0) 0)

/-- One step of the CRC with polynomial 0x1021, not reflected (R173). -/
def crcBit (c : BitVec 16) : BitVec 16 :=
  if c.msb then (c <<< 1) ^^^ 0x1021#16 else c <<< 1

/-- The CRC taken over one more byte (R173). -/
def crcByte (c : BitVec 16) (b : Byte) : BitVec 16 :=
  let c := c ^^^ (b.zeroExtend 16 <<< 8)
  crcBit (crcBit (crcBit (crcBit (crcBit (crcBit (crcBit (crcBit c)))))))

/-- CRC-16: initial value 0xFFFF, no final inversion (R173). -/
def crc16 (bytes : List Byte) : BitVec 16 :=
  bytes.foldl crcByte 0xFFFF#16

/-- The bytes of a frame that the CRC covers, "from the length through the end of the payload" (R173, R185). -/
def frameBody (kind tag : Byte) (payload : List Byte) : List Byte :=
  beBytes 2 payload.length ++ kind :: tag :: payload

/-- A host frame (R173, R185): start byte, length, kind, tag, payload, CRC high byte first. -/
def frameBytes (kind tag : Byte) (payload : List Byte) : List Byte :=
  0x5C#8 :: (frameBody kind tag payload ++ beBytes 2 (crc16 (frameBody kind tag payload)).toNat)

/-- Journey state codes (section 11.1). -/
def JourneyState.code : JourneyState → Nat
  | .none => 0
  | .opened => 1
  | .closed => 2

/-- Tap kind codes (section 11.1). -/
def TapKind.code : TapKind → Nat
  | .entry => 1
  | .exit => 2

/-- The journey state that a code names, if one does (R188). -/
def journeyOfCode (c : Nat) : Option JourneyState :=
  if c = 0 then some .none else if c = 1 then some .opened else if c = 2 then some .closed else none

/-- The tap kind that a code names, if one does (section 11.1, R188). -/
def tapKindOfCode (c : Nat) : Option TapKind :=
  if c = 1 then some .entry else if c = 2 then some .exit else none

end Sys2Proof.Machine

namespace Sys2Proof
open Machine

/-- The 17 protected bytes of a static area, in the order of R188 without the static check code. -/
def StaticArea.protectedBytes (a : StaticArea) : List Byte :=
  beBytes 7 a.cardId.toNat ++ beBytes 2 a.issuer.toNat ++ beBytes 1 a.keyVersion.toNat ++ beBytes 1 a.productCode.toNat
    ++ beBytes 2 a.passFrom.toNat ++ beBytes 2 a.passTo.toNat ++ beBytes 1 a.zoneLow.toNat ++ beBytes 1 a.zoneHigh.toNat

end Sys2Proof

namespace Sys2Proof.Machine

/-- The 26 protected bytes of a record, in the order of R188 without its check code. -/
def CardRecord.protectedBytes (r : CardRecord) : List Byte :=
  beBytes 3 r.counter ++ purseBytes r.purse ++ beBytes 1 r.journey.code ++ beBytes 1 r.origin ++ beBytes 4 r.start
    ++ beBytes 2 r.paid ++ beBytes 1 r.legs ++ beBytes 1 r.lastStation ++ beBytes 1 r.lastKind.code ++ beBytes 4 r.lastMinute
    ++ beBytes 2 r.capDay ++ beBytes 2 r.capAcc

/-- The 30 bytes of a record (R188). -/
def CardRecord.bytes (r : CardRecord) : List Byte :=
  r.protectedBytes ++ beBytes 4 r.code.toNat

/-- The fields of a record slot at the sizes of their layout (R188): what STORE sends for a record. -/
def CardRecord.toRaw (r : CardRecord) : RawRecord :=
  { counter := BitVec.ofNat 24 r.counter, purse := BitVec.ofInt 32 r.purse, journey := BitVec.ofNat 8 r.journey.code,
    origin := BitVec.ofNat 8 r.origin, start := BitVec.ofNat 32 r.start, paid := BitVec.ofNat 16 r.paid,
    legs := BitVec.ofNat 8 r.legs, lastStation := BitVec.ofNat 8 r.lastStation, lastKind := BitVec.ofNat 8 r.lastKind.code,
    lastMinute := BitVec.ofNat 32 r.lastMinute, capDay := BitVec.ofNat 16 r.capDay, capAcc := BitVec.ofNat 16 r.capAcc,
    code := r.code }

/-- Whether the fields of a record lie in the ranges of R18. -/
def CardRecord.inRange (r : CardRecord) : Bool :=
  r.counter ≤ 16777215 && (-99999 ≤ r.purse && r.purse ≤ 9999999) && r.origin ≤ 255 && r.start ≤ 52595999 && r.paid ≤ 65535
    && r.legs ≤ 4 && r.lastStation ≤ 255 && r.lastMinute ≤ 52595999 && r.capDay ≤ 36524 && r.capAcc ≤ 65535

end Sys2Proof.Machine

namespace Sys2Proof
open Machine

/-- What a slot's contents decode to: none where a code names nothing or a field lies outside its range, "treated as a slot whose
check code does not verify" (R18, R188). -/
def RawRecord.decode (w : RawRecord) : Option CardRecord :=
  match journeyOfCode w.journey.toNat, tapKindOfCode w.lastKind.toNat with
  | some j, some k =>
    let r : CardRecord :=
      { counter := w.counter.toNat, purse := w.purse.toInt, journey := j, origin := w.origin.toNat, start := w.start.toNat,
        paid := w.paid.toNat, legs := w.legs.toNat, lastStation := w.lastStation.toNat, lastKind := k,
        lastMinute := w.lastMinute.toNat, capDay := w.capDay.toNat, capAcc := w.capAcc.toNat, code := w.code }
    if r.inRange then some r else none
  | _, _ => none

/-- A record slot's fields read from its 30 bytes in the layout of R188. -/
def RawRecord.ofBytes (bytes : List Byte) : RawRecord :=
  { counter := BitVec.ofNat 24 (fieldAt 0 3 bytes), purse := BitVec.ofNat 32 (fieldAt 3 4 bytes),
    journey := BitVec.ofNat 8 (fieldAt 7 1 bytes), origin := BitVec.ofNat 8 (fieldAt 8 1 bytes),
    start := BitVec.ofNat 32 (fieldAt 9 4 bytes), paid := BitVec.ofNat 16 (fieldAt 13 2 bytes),
    legs := BitVec.ofNat 8 (fieldAt 15 1 bytes), lastStation := BitVec.ofNat 8 (fieldAt 16 1 bytes),
    lastKind := BitVec.ofNat 8 (fieldAt 17 1 bytes), lastMinute := BitVec.ofNat 32 (fieldAt 18 4 bytes),
    capDay := BitVec.ofNat 16 (fieldAt 22 2 bytes), capAcc := BitVec.ofNat 16 (fieldAt 24 2 bytes),
    code := BitVec.ofNat 32 (fieldAt 26 4 bytes) }

/-- A record slot's 30 bytes (R188). -/
def RawRecord.bytes (w : RawRecord) : List Byte :=
  beBytes 3 w.counter.toNat ++ beBytes 4 w.purse.toNat ++ beBytes 1 w.journey.toNat ++ beBytes 1 w.origin.toNat ++ beBytes 4 w.start.toNat
    ++ beBytes 2 w.paid.toNat ++ beBytes 1 w.legs.toNat ++ beBytes 1 w.lastStation.toNat ++ beBytes 1 w.lastKind.toNat
    ++ beBytes 4 w.lastMinute.toNat ++ beBytes 2 w.capDay.toNat ++ beBytes 2 w.capAcc.toNat ++ beBytes 4 w.code.toNat

/-- A static area's 21 bytes, its check code last (R188). -/
def StaticArea.bytes (a : StaticArea) : List Byte :=
  a.protectedBytes ++ beBytes 4 a.code.toNat

/-- A static area's fields read from its 21 bytes in the layout of R188. A pass day above 36,524 or a pass zone above 15 is taken as read:
R17 gives their ranges, and no rule says what a value outside them does (DESIGN CHOICE, log 42). -/
def StaticArea.ofBytes (bytes : List Byte) : StaticArea :=
  { cardId := BitVec.ofNat 56 (fieldAt 0 7 bytes), issuer := BitVec.ofNat 16 (fieldAt 7 2 bytes),
    keyVersion := BitVec.ofNat 8 (fieldAt 9 1 bytes), productCode := BitVec.ofNat 8 (fieldAt 10 1 bytes),
    passFrom := BitVec.ofNat 16 (fieldAt 11 2 bytes), passTo := BitVec.ofNat 16 (fieldAt 13 2 bytes),
    zoneLow := BitVec.ofNat 8 (fieldAt 15 1 bytes), zoneHigh := BitVec.ofNat 8 (fieldAt 16 1 bytes),
    code := BitVec.ofNat 32 (fieldAt 17 4 bytes) }

/-- A slot number in one byte (R188). -/
def SlotNo.code : SlotNo → Byte
  | .zero => 0
  | .one => 1

end Sys2Proof

namespace Sys2Proof.Machine

/-! What the card link's frames carry (R188). R188 lays out CLAIMED, SLOT and STORE; a byte that its layout gives no meaning, and a payload of
another length, is read as nothing (DESIGN CHOICE, log 17). -/

/-- The slot number that a byte names. -/
def slotOfByte (b : Byte) : Option SlotNo :=
  if b = 0 then some .zero else if b = 1 then some .one else none

/-- The block flag in one byte: "0 CLEAR, 1 SET" (R188). -/
def blockFlagOfByte (b : Byte) : Option Bool :=
  if b = 0 then some false else if b = 1 then some true else none

/-- CLAIMED carries "the static area followed by the block flag in one byte": 22 bytes. -/
def claimedPayload (area : StaticArea) (blocked : Bool) : List Byte :=
  area.bytes ++ [boolByte blocked]

/-- The static area and the block flag that a CLAIMED payload holds. -/
def readClaimed (payload : List Byte) : Option (StaticArea × Bool) :=
  if payload.length = 22 then (blockFlagOfByte (payload.getD 21 0)).map fun blocked => (StaticArea.ofBytes payload, blocked) else none

/-- SLOT carries "the slot number in one byte followed by the 30-byte record", and so does STORE: 31 bytes. -/
def slotPayload (no : SlotNo) (contents : RawRecord) : List Byte :=
  no.code :: contents.bytes

/-- The slot number and the record that a SLOT or STORE payload holds. -/
def readSlot (payload : List Byte) : Option (SlotNo × RawRecord) :=
  if payload.length = 31 then (slotOfByte (payload.getD 0 0)).map fun no => (no, RawRecord.ofBytes (payload.drop 1)) else none

/-- The payload of a STORE frame as the side sends it (R15, R188). -/
def storePayload (no : SlotNo) (record : CardRecord) : List Byte :=
  slotPayload no record.toRaw

/-- The command that a CLAIMED frame with a payload becomes at a side. -/
def claimedAnswer (sd : Side) (frameOk : Bool) (payload : List Byte) : Option Instr :=
  (readClaimed payload).map fun x => .claimed sd frameOk x.1 x.2

/-- The command that a SLOT frame with a turn bit and a payload becomes at a side. -/
def slotAnswer (sd : Side) (frameOk turn : Bool) (payload : List Byte) : Option Instr :=
  (readSlot payload).map fun x => .slot sd frameOk turn x.1 x.2

end Sys2Proof.Machine
end

