-- ==== Sys2Proof/Machine/Codes.lean ====
section
/-! DEFINITION. The codes of section 11.1 that the frames carry, and the values that request codes name. -/

namespace Sys2Proof.Machine

/-- Side codes: 0 absent, 1 A, 2 B. -/
def sideCode : Option Side → Byte
  | none => 0
  | some .a => 1
  | some .b => 2

/-- Direction codes: 0 none, 1 A→B, 2 B→A; a direction is named by the side at which it starts. -/
def directionCode : Option Side → Byte
  | none => 0
  | some .a => 1
  | some .b => 2

def AuthOrigin.code : AuthOrigin → Byte
  | .card => 1
  | .staff => 2
  | .repeat => 3
  | .manual => 4

def Grant.code : Grant → Byte
  | .none => 0
  | .queued => 1
  | .discarded => 2
  | .cancelled => 3

def CloneReason.code : CloneReason → Byte
  | .bothSides => 1
  | .slotConflict => 2
  | .counter => 3
  | .conflictFlag => 4

def CaptureResult.code : CaptureResult → Byte
  | .done => 1
  | .failed => 2

def PassageState.code : PassageState → Byte
  | .none => 0
  | .pending => 1
  | .taken => 2
  | .notTaken => 3

def Result.code : Result → Byte
  | .ok => 0
  | .clamped => 1
  | .busy => 2
  | .badLength => 3
  | .unknownKind => 4
  | .badValue => 5
  | .badClock => 6
  | .clockBackward => 7
  | .notNow => 8
  | .queueFull => 9
  | .tariffPending => 10
  | .bulkInProgress => 11
  | .badSeq => 12
  | .notFound => 13
  | .sideFull => 14

def TapOutcome.code : TapOutcome → Byte
  | .accepted => 1
  | .repeated => 2
  | .resolved => 3
  | .retap => 4
  | .outOfService => 16
  | .freeOpen => 17
  | .noTariff => 18
  | .clockUnset => 19
  | .sideFull => 20
  | .journalFull => 21
  | .timeout => 22
  | .cardLost => 23
  | .multipleCards => 24
  | .checkFailed => 25
  | .keyUnknown => 26
  | .productUnknown => 27
  | .stationClosed => 28
  | .directionClosed => 29
  | .inDoubtOtherSide => 30
  | .inDoubtFull => 31
  | .held => 32
  | .denylisted => 33
  | .cardBlocked => 34
  | .cloneSuspect => 35
  | .passback => 36
  | .passInvalid => 37
  | .insufficient => 38
  | .cardExhausted => 39

def AisleMode.code : AisleMode → Byte
  | .closed => 0
  | .entryOnly => 1
  | .exitOnly => 2
  | .bidirectional => 3

def FaultClass.code : FaultClass → Byte
  | .barrier => 1
  | .sensor => 2
  | .readerA => 3
  | .readerB => 4
  | .clock => 5
  | .journal => 6
  | .tariff => 7

def FaultResponse.code : FaultResponse → Byte
  | .fixed => 0
  | .failClosed => 1
  | .failFree => 2
  | .continue_ => 3

/-- Fault state codes: 1 RAISED, 2 CLEARED. -/
def faultStateCode (raised : Bool) : Byte :=
  if raised then 1 else 2

def LampCond.code : LampCond → Byte
  | .free => 1
  | .outOfService => 2
  | .alarm => 3
  | .refused => 4
  | .retap => 5
  | .go => 6
  | .idle => 7

def AlarmKind.code : AlarmKind → Byte
  | .intrusion => 1
  | .wrongWay => 2
  | .tailgate => 3
  | .forced => 4

def StartCause.code : StartCause → Byte
  | .resetPin => 1
  | .supplyDip => 2
  | .restart => 3
  | .powerOn => 4

def DayType.code : DayType → Byte
  | .weekday => 1
  | .saturday => 2
  | .sundayHoliday => 3

def BuildState.code : BuildState → Byte
  | .idle => 0
  | .building => 1
  | .ending => 2

def BarrierState.code : BarrierState → Byte
  | .closed => 1
  | .opening => 2
  | .opened => 3
  | .closing => 4
  | .checking => 5
  | .freeOpen => 6
  | .faultOpen => 7
  | .held => 8
  | .faultClosed => 9

def FreeReason.code : FreeReason → Byte
  | .emergency => 1
  | .command => 2
  | .fault => 3

def PeriodOrigin.code : PeriodOrigin → Byte
  | .local => 1
  | .station => 2

def NotTakenReason.code : NotTakenReason → Byte
  | .expired => 1
  | .cancelled => 2

def NoticeClass.code : NoticeClass → Byte
  | .tapResult => 1
  | .passage => 2
  | .sightingOut => 3
  | .alarm => 4
  | .fault => 5
  | .journalLow => 6
  | .holdAdded => 7

/-- Fare kind codes of a journal record (R187). -/
def FareKind.code : FareKind → Byte
  | .entry => 1
  | .exitCharge => 2
  | .incompleteCharge => 3
  | .unenteredCharge => 4
  | .freeExit => 5
  | .passUse => 6

end Sys2Proof.Machine

namespace Sys2Proof
open Machine

/-- The tap kind of a tap at a side: "a tap at side A is an entry; a tap at side B is an exit" (spec/00_scope.md, Terms). -/
def Side.tapKind : Side → TapKind
  | .a => .entry
  | .b => .exit

/-- The other side. -/
def Side.other : Side → Side
  | .a => .b
  | .b => .a

/-- The other record slot. -/
def SlotNo.other : SlotNo → SlotNo
  | .zero => .one
  | .one => .zero

end Sys2Proof

namespace Sys2Proof.Machine

/-- The side that a side code names, if it names one. -/
def sideOfCode (c : Nat) : Option Side :=
  if c = 1 then some .a else if c = 2 then some .b else none

/-- The aisle mode that a code names. -/
def modeOfCode (c : Nat) : Option AisleMode :=
  if c = 0 then some .closed else if c = 1 then some .entryOnly else if c = 2 then some .exitOnly
  else if c = 3 then some .bidirectional else none

/-- The fault class that a code names; 8, DENYLIST_FULL, travels "in a FAULT notice only". -/
def faultClassOfCode (c : Nat) : Option FaultClass :=
  if c = 1 then some .barrier else if c = 2 then some .sensor else if c = 3 then some .readerA else if c = 4 then some .readerB
  else if c = 5 then some .clock else if c = 6 then some .journal else if c = 7 then some .tariff else none

/-- The fault response that a code names. -/
def responseOfCode (c : Nat) : Option FaultResponse :=
  if c = 0 then some .fixed else if c = 1 then some .failClosed else if c = 2 then some .failFree
  else if c = 3 then some .continue_ else none

/-- The lamp condition that a code names. -/
def lampCondOfCode (c : Nat) : Option LampCond :=
  if c = 1 then some .free else if c = 2 then some .outOfService else if c = 3 then some .alarm else if c = 4 then some .refused
  else if c = 5 then some .retap else if c = 6 then some .go else if c = 7 then some .idle else none

/-- The passage state that a code names. -/
def passageOfCode (c : Nat) : Option PassageState :=
  if c = 0 then some .none else if c = 1 then some .pending else if c = 2 then some .taken else if c = 3 then some .notTaken else none

/-- The product kind that a code names (section 7 of a tariff). -/
def productOfCode (c : Nat) : Option ProductKind :=
  if c = 0 then some .unmapped else if c = 1 then some .storedValue else if c = 2 then some .periodPass
  else if c = 3 then some .staff else none

/-- The input that a code names. -/
def inputOfCode (c : Nat) : Option Input :=
  if c = 1 then some .za else if c = 2 then some .zm else if c = 3 then some .zb else if c = 4 then some .openLimit
  else if c = 5 then some .closedLimit else if c = 6 then some .driveFault else if c = 7 then some .emergency else none

/-- A flag that a code of 0 or 1 names: active level (1 HIGH), capture and auto-resume (1 ENABLED), mask (1 MASKED), force flag. -/
def flagOfCode (c : Nat) : Option Bool :=
  if c = 0 then some false else if c = 1 then some true else none

/-- All the elements of a list mapped, or none where one is not. -/
def mapAll (f : Nat → Option α) : List Nat → Option (List α)
  | [] => some []
  | x :: xs =>
    match f x, mapAll f xs with
    | some y, some ys => some (y :: ys)
    | _, _ => none

end Sys2Proof.Machine
end

