-- ==== Sys2Proof/Machine/State.lean ====
section
/-! DEFINITION. The state of the FG-2 as plain data, block by block as spec/00_scope.md's block overview gives them, the ways a step could stop, and the state right after a cold start. -/

namespace Sys2Proof.Machine

/-- The in-doubt table, in order of creation, and its period in seconds (R38). -/
structure DoubtTable where
  entries : List InDoubt
  periodS : Nat
deriving DecidableEq, Repr

/-- The fare calculator holds a request only during a pricing, and the one that waits (R49). -/
structure Calculator where
  current : Option Pricing
  waiting : Option Side
deriving DecidableEq, Repr

/-- The tariff and clock unit (R74, R81, R83, R85, R90). The banks are named by their roles. `clock` is the network second, absent
while UNSET; `toAdvance` is what is left of the tick second before the next advance (log 2). -/
structure TariffUnit where
  active : Bank
  standby : Bank
  activation : Option (Nat × Nat)
  pinned : Bool
  keys : KeyTable
  clock : Option Nat
  toAdvance : Nat
  period : Option FreePeriod
deriving DecidableEq, Repr

/-- The screening unit (R95, R97, R100, R109). `horizonMin` is the horizon's value as SET_PARAMETER left it, `horizonInForce` the one that
ages are judged by until the next minute step (R109, log 39). -/
structure Screen where
  holds : List HoldEntry
  holdHours : Nat
  capture : Bool
  denylist : List CardId
  listVersion : Nat
  queue : List DenyUpdate
  arrivals : Nat
  applying : Bool
  build : BuildState
  buildList : List CardId
  buildVersion : Nat
  buildLast : Option CardId
  sightings : List Sighting
  horizonMin : Nat
  horizonInForce : Nat
  nextJoin : Nat
deriving DecidableEq, Repr

/-- Aisle sensing (R118, R120, R122, R124). `pins` are the raw levels, HIGH being true. -/
structure Aisle where
  pins : PerInput Bool
  filters : PerInput Filter
  params : PerInput InputParam
  stuck : PerZone StuckMonitor
  tracker : Tracker
deriving DecidableEq, Repr

/-- The passage controller (R131, R134, R142, R147, R148, R152). `seen` is the last pattern that aisle sensing handed on (R130). -/
structure Gate where
  queues : PerSide (List Auth)
  reservations : PerSide Reservation
  barrier : BarrierState
  phase : Option ClosingPhase
  owner : Option Side
  drive : Drive
  travel : Timer
  closeDelay : Timer
  reasons : FreeReasons
  unverified : Bool
  holdOrder : Bool
  failClosedOrder : Bool
  freeCount : Nat
  seen : PerZone Bool
  directions : List Side
  pointer : Nat
  travelMs : Nat
  closeDelayMs : Nat
  windowS : Nat
  autoResume : Bool
  alarms : PerSide Timer
  mode : AisleMode
deriving DecidableEq, Repr

/-- Supervision (R154, R157, R159, R162, R163). -/
structure Supervision where
  conds : FaultConds
  barrierResponse : FaultResponse
  sensorResponse : FaultResponse
  barrierHold : Bool
  readerHold : PerSide Bool
  refusal : PerSide Timer
  lampOrder : List LampCond
deriving DecidableEq, Repr

/-- The revenue journal (R164), oldest record first. -/
structure Journal where
  records : List JournalRecord
  next : Nat
  reserved : Nat
  armed : Bool
deriving DecidableEq, Repr

/-- The host port (R173, R175 to R178, R180). `headTaken` says that the head has been taken and holds its reply (R106). An empty
rejection slot is 0. -/
structure Port where
  receiver : Receiver
  gap : Timer
  requests : List Queued
  headTaken : Bool
  outgoing : List Reply
  rejection : Nat
  notices : List Notice
  line : Option LineFrame
  discarded : Nat
  masked : PerClass Bool
  flagged : PerClass Bool
  withheld : PerClass Nat
  station : Nat
  gateNo : Nat
deriving DecidableEq, Repr

/-- The whole machine. `pending` is the queue of commands that wait, first in, first out; no command changes it. -/
structure State where
  readers : PerSide Reader
  ctxs : PerSide Context
  doubt : DoubtTable
  fares : Calculator
  tariff : TariffUnit
  screen : Screen
  aisle : Aisle
  gate : Gate
  sup : Supervision
  journal : Journal
  port : Port
  markerValid : Bool
  pending : List Instr
deriving DecidableEq, Repr

/-- There is no fault: the block never stops. Its own faults are fault classes in State (R154), its refusals result and outcome codes
(log 35). -/
inductive Fault where
deriving DecidableEq, Repr

/-- Why a step may be refused. -/
inductive Refusal where
  /-- Raised by an arm of exec whose command has no meaning yet; safe, since the machine stops. No arm raises it. -/
  | notModelled (mnemonic : String)
deriving DecidableEq, Repr

/-- A reader side right after a start (R1), with its carrier present (DESIGN CHOICE, log 1). -/
def Reader.atStart : Reader :=
  { link := .settling, cadence := .active, settle := some 50, summons := none, idle := none, holdoff := none, hold := none,
    claimed := none, turn := false, exchange := none, window := none, carrier := true, needsSettle := false, lastFrame := none }

/-- An empty bank (R74). -/
def Bank.empty : Bank :=
  { stations := none, bands := none, peaks := none, profiles := none, rules := none, holidays := none, products := none,
    version := none, valid := false }

/-- A filter at INACTIVE with no debounce running (R118). -/
def Filter.inactive : Filter := { filtered := false, debounce := none }

/-- The machine right after a cold start with every input at its inactive level and both carriers present (DESIGN CHOICE, log 1): the
start has appended JOURNAL_START, queued STARTED, and raised CLOCK and TARIFF (R154, R172, R182; DEDUCED, log 9). -/
def State.reset : State :=
  { readers := { a := .atStart, b := .atStart }
    ctxs := { a := { state := .polling, tx := none }, b := { state := .polling, tx := none } }
    doubt := { entries := [], periodS := 30 }
    fares := { current := none, waiting := none }
    tariff :=
      { active := .empty, standby := .empty, activation := none, pinned := false, keys := List.replicate 8 none, clock := none,
        toAdvance := 1000, period := none }
    screen :=
      { holds := [], holdHours := 24, capture := false, denylist := [], listVersion := 0, queue := [], arrivals := 0, applying := false,
        build := .idle, buildList := [], buildVersion := 0, buildLast := none, sightings := [], horizonMin := 30, horizonInForce := 30,
        nextJoin := 0 }
    aisle :=
      { pins :=
          { za := false, zm := false, zb := false, openLimit := false, closedLimit := false, driveFault := false, emergency := true }
        filters :=
          { za := .inactive, zm := .inactive, zb := .inactive, openLimit := .inactive, closedLimit := .inactive, driveFault := .inactive,
            emergency := .inactive }
        params :=
          { za := { activeHigh := true, debounceMs := 20 }, zm := { activeHigh := true, debounceMs := 20 }
            zb := { activeHigh := true, debounceMs := 20 }, openLimit := { activeHigh := true, debounceMs := 10 }
            closedLimit := { activeHigh := true, debounceMs := 10 }, driveFault := { activeHigh := true, debounceMs := 20 }
            emergency := { activeHigh := false, debounceMs := 10 } }
        stuck :=
          { za := { timer := none, stuck := false }, zm := { timer := none, stuck := false }, zb := { timer := none, stuck := false } }
        tracker :=
          { state := .empty, resync := false, behind := false, byFollower := false, pattern := { za := false, zm := false, zb := false } } }
    gate :=
      { queues := { a := [], b := [] }, reservations := { a := .absent, b := .absent }, barrier := .checking, phase := none,
        owner := none, drive := .close, travel := some 1200, closeDelay := none,
        reasons := { emergency := false, command := false, fault := false }, unverified := false, holdOrder := false,
        failClosedOrder := false, freeCount := 0, seen := { za := false, zm := false, zb := false },
        directions := [.a, .b, .a, .b, .a, .b, .a, .b, .a, .b, .a, .b, .a, .b, .a, .b], pointer := 0, travelMs := 1200,
        closeDelayMs := 500, windowS := 10, autoResume := false, alarms := { a := none, b := none }, mode := .closed }
    sup :=
      { conds :=
          { barrier := .clear, sensor := .clear, readerA := .clear, readerB := .clear, clock := .raised none, journal := .clear,
            tariff := .raised none }
        barrierResponse := .failClosed, sensorResponse := .failClosed, barrierHold := false, readerHold := { a := false, b := false },
        refusal := { a := none, b := none }, lampOrder := [.free, .outOfService, .alarm, .refused, .retap, .go, .idle] }
    journal :=
      { records :=
          [{ seq := 1, second := none, side := none, body := .journalStart },
           { seq := 2, second := none, side := none, body := .fault .clock true .fixed },
           { seq := 3, second := none, side := none, body := .fault .tariff true .fixed }]
        next := 4, reserved := 0, armed := true }
    port :=
      { receiver := .hunting, gap := none, requests := [], headTaken := false, outgoing := [], rejection := 0,
        notices := [.fault (.cls .clock true .fixed), .fault (.cls .tariff true .fixed)],
        line :=
          some (.notice (.started
            { cause := none, nextSeq := 2, kept := 0, abandoned := false, clockRunning := false, tariff := none, barrier := .checking })),
        discarded := 0
        masked :=
          { tapResult := false, passage := false, sightingOut := false, alarm := false, fault := false, journalLow := false,
            holdAdded := false }
        flagged :=
          { tapResult := false, passage := false, sightingOut := false, alarm := false, fault := false, journalLow := false,
            holdAdded := false }
        withheld := { tapResult := 0, passage := 0, sightingOut := 0, alarm := 0, fault := 0, journalLow := 0, holdAdded := 0 }
        station := 0, gateNo := 0 }
    markerValid := true
    pending := [] }

end Sys2Proof.Machine
end

