-- ==== Sys2Proof/Machine/Ops.lean ====
section
/-! DEFINITION. Accessors of the state, the durations of the manual, the queueing of notices, the transmitter and the appends of the revenue journal: the operations that every block's rules use. -/

namespace Sys2Proof.Machine

/-! Values by side, zone, input, notice class and fault class. -/

def PerSide.get (p : PerSide α) : Side → α
  | .a => p.a
  | .b => p.b

def PerSide.set (p : PerSide α) (sd : Side) (x : α) : PerSide α :=
  match sd with
  | .a => { p with a := x }
  | .b => { p with b := x }

def PerZone.get (p : PerZone α) : Zone → α
  | .za => p.za
  | .zm => p.zm
  | .zb => p.zb

def PerZone.set (p : PerZone α) (z : Zone) (x : α) : PerZone α :=
  match z with
  | .za => { p with za := x }
  | .zm => { p with zm := x }
  | .zb => { p with zb := x }

def PerInput.get (p : PerInput α) : Input → α
  | .za => p.za
  | .zm => p.zm
  | .zb => p.zb
  | .openLimit => p.openLimit
  | .closedLimit => p.closedLimit
  | .driveFault => p.driveFault
  | .emergency => p.emergency

def PerInput.set (p : PerInput α) (i : Input) (x : α) : PerInput α :=
  match i with
  | .za => { p with za := x }
  | .zm => { p with zm := x }
  | .zb => { p with zb := x }
  | .openLimit => { p with openLimit := x }
  | .closedLimit => { p with closedLimit := x }
  | .driveFault => { p with driveFault := x }
  | .emergency => { p with emergency := x }

def PerClass.get (p : PerClass α) : NoticeClass → α
  | .tapResult => p.tapResult
  | .passage => p.passage
  | .sightingOut => p.sightingOut
  | .alarm => p.alarm
  | .fault => p.fault
  | .journalLow => p.journalLow
  | .holdAdded => p.holdAdded

def PerClass.set (p : PerClass α) (c : NoticeClass) (x : α) : PerClass α :=
  match c with
  | .tapResult => { p with tapResult := x }
  | .passage => { p with passage := x }
  | .sightingOut => { p with sightingOut := x }
  | .alarm => { p with alarm := x }
  | .fault => { p with fault := x }
  | .journalLow => { p with journalLow := x }
  | .holdAdded => { p with holdAdded := x }

def FaultConds.get (p : FaultConds) : FaultClass → FaultCond
  | .barrier => p.barrier
  | .sensor => p.sensor
  | .readerA => p.readerA
  | .readerB => p.readerB
  | .clock => p.clock
  | .journal => p.journal
  | .tariff => p.tariff

def FaultConds.set (p : FaultConds) (c : FaultClass) (x : FaultCond) : FaultConds :=
  match c with
  | .barrier => { p with barrier := x }
  | .sensor => { p with sensor := x }
  | .readerA => { p with readerA := x }
  | .readerB => { p with readerB := x }
  | .clock => { p with clock := x }
  | .journal => { p with journal := x }
  | .tariff => { p with tariff := x }

end Sys2Proof.Machine

namespace Sys2Proof
open Machine

/-- The zone of an input, if it is one of the three zones. -/
def Input.zone : Input → Option Zone
  | .za => some .za
  | .zm => some .zm
  | .zb => some .zb
  | .openLimit => none
  | .closedLimit => none
  | .driveFault => none
  | .emergency => none

/-- The input of a zone. -/
def Zone.input : Zone → Input
  | .za => .za
  | .zm => .zm
  | .zb => .zb

/-- The reader fault class of a side. -/
def Side.readerClass : Side → FaultClass
  | .a => .readerA
  | .b => .readerB

end Sys2Proof

namespace Sys2Proof.Machine

/-! Accessors of the state. -/

def State.reader (s : State) (sd : Side) : Reader :=
  s.readers.get sd

def State.ctx (s : State) (sd : Side) : Context :=
  s.ctxs.get sd

def State.setReader (s : State) (sd : Side) (r : Reader) : State :=
  { s with readers := s.readers.set sd r }

def State.setCtx (s : State) (sd : Side) (c : Context) : State :=
  { s with ctxs := s.ctxs.set sd c }

/-- The context's state alone changed. -/
def State.setCtxState (s : State) (sd : Side) (st : CtxState) : State :=
  s.setCtx sd { s.ctx sd with state := st }

/-- The fields of the transaction of a side changed, where there is one. -/
def State.mapTx (s : State) (sd : Side) (f : Transaction → Transaction) : State :=
  s.setCtx sd { s.ctx sd with tx := (s.ctx sd).tx.map f }

/-- The clock's network second, absent while the clock is UNSET (R85). -/
def State.now (s : State) : Option Nat :=
  s.tariff.clock

/-- Whether the gate is in free-open: "The gate is in free-open while the set is not empty" (R148). -/
def State.inFreeOpen (s : State) : Bool :=
  s.gate.reasons.emergency || s.gate.reasons.command || s.gate.reasons.fault

/-- The response in force for a class (R156, R157). -/
def State.responseOf (s : State) : FaultClass → FaultResponse
  | .barrier => s.sup.barrierResponse
  | .sensor => s.sup.sensorResponse
  | .readerA | .readerB | .clock | .journal | .tariff => .fixed

/-- Whether a class is RAISED. -/
def State.isRaised (s : State) (c : FaultClass) : Bool :=
  decide (s.sup.conds.get c ≠ .clear)

/-- A class RAISED with the clock's second, or CLEAR: the first step of R155. -/
def State.setCond (s : State) (c : FaultClass) (raised : Bool) : State :=
  { s with sup := { s.sup with conds := s.sup.conds.set c (if raised then .raised s.now else .clear) } }

/-- Whether a side is in service "in the sense of R23 check 1": no barrier hold, no FAIL_CLOSED response in force, and neither a reader
hold nor a reader fault for the side. -/
def State.inService (s : State) (sd : Side) : Bool :=
  !s.sup.barrierHold && !s.gate.failClosedOrder && !s.sup.readerHold.get sd && !s.isRaised sd.readerClass

/-! Durations. -/

/-- The settle time, 50 ms (R2). -/
def settleMs : Nat := 50
/-- The hail window, 3 ms (R4). -/
def hailWindowMs : Nat := 3
/-- The idle time, 30 s (R3). -/
def idleMs : Nat := 30000
/-- The holdoff, 300 ms (R5). -/
def holdoffMs : Nat := 300
/-- The absence time of the same-card hold, 1.5 s (R6). -/
def absenceMs : Nat := 1500
/-- The answer time, 3 ms (R14). -/
def answerMs : Nat := 3
/-- The transaction guard, 400 ms (R29). -/
def guardMs : Nat := 400
/-- The stuck time, 60 s (R122). -/
def stuckMs : Nat := 60000
/-- The alarm time, 5 s (R147). -/
def alarmMs : Nat := 5000
/-- The refusal time, 2 s (R162). -/
def refusalMs : Nat := 2000
/-- The gap time, 5 ms (R173). -/
def gapMs : Nat := 5
/-- One second of the tick. -/
def secondMs : Nat := 1000

/-- The interval between summonses (R3). -/
def Cadence.interval : Cadence → Nat
  | .active => 15
  | .idle => 120
  | .quiet => 500

/-! Notices (R177, R178). -/

/-- The class of a notice; STARTED, NOTICE_OVERFLOW and the summary notice "are not in any class" (R178). -/
def Notice.cls : Notice → Option NoticeClass
  | .tapResult _ => some .tapResult
  | .passage _ _ _ _ _ => some .passage
  | .freeOpenStart _ _ => some .passage
  | .freeOpenEnd _ => some .passage
  | .sightingOut _ _ _ _ _ _ _ _ => some .sightingOut
  | .alarm _ _ _ _ _ => some .alarm
  | .fault _ => some .fault
  | .journalLow _ => some .journalLow
  | .holdAdded _ _ _ => some .holdAdded
  | .started _ => none
  | .overflow _ => none
  | .summary _ _ _ => none

/-- Whether a class is a condition class (R178). -/
def NoticeClass.isCondition : NoticeClass → Bool
  | .tapResult | .passage | .sightingOut => false
  | .alarm | .fault | .journalLow | .holdAdded => true

/-- A notice joins the queue if it holds fewer than 32, and is discarded and counted otherwise (R177). -/
def Port.push (p : Port) (n : Notice) : Port :=
  if p.notices.length < 32 then { p with notices := p.notices ++ [n] }
  else { p with discarded := min 65535 (p.discarded + 1) }

/-- A block hands a notice to the port: a masked stream notice is not made, a masked condition notice sets the class's pending flag and
raises its withheld count (R178). -/
def Port.notify (p : Port) (n : Notice) : Port :=
  match n.cls with
  | none => p.push n
  | some c =>
    if p.masked.get c then
      if c.isCondition then
        { p with flagged := p.flagged.set c true, withheld := p.withheld.set c (min 65535 (p.withheld.get c + 1)) }
      else p
    else p.push n

/-- A notice handed to the port (R177, R178). -/
def State.notify (s : State) (n : Notice) : State :=
  { s with port := s.port.notify n }

/-- A rejection fills the slot with count 1 or raises its count, "saturating at 255" (R176). -/
def Port.reject (p : Port) : Port :=
  { p with rejection := min 255 (p.rejection + 1) }

/-- The transmitter begins the next frame when the line is free: the first outgoing reply, else FRAME_REJECTED, else the head of the
notice queue (R176). As a notice leaves with discarded notices counted, NOTICE_OVERFLOW joins (R177). -/
def Port.pump (p : Port) : Port :=
  match p.line with
  | some _ => p
  | none =>
    match p.outgoing with
    | r :: rest => { p with line := some (.reply r), outgoing := rest }
    | [] =>
      if p.rejection = 0 then
        match p.notices with
        | [] => p
        | n :: rest =>
          if p.discarded = 0 then { p with line := some (.notice n), notices := rest }
          else { p with line := some (.notice n), notices := rest ++ [.overflow p.discarded], discarded := 0 }
      else { p with line := some (.rejected p.rejection), rejection := 0 }

/-- The transmitter's turn at the end of an event (DESIGN CHOICE, log 6). -/
def State.pump (s : State) : State :=
  { s with port := s.port.pump }

/-- What a command answers that cannot make a queued request servable: the state with the transmitter's turn taken. -/
def finishEvent (s : State) : Host.Outcome State Fault Refusal :=
  .next s.pump

/-! The revenue journal (R164 to R169). -/

/-- Free entries: "2,048 minus the number of records held" (R164). -/
def State.free (s : State) : Nat :=
  2048 - s.journal.records.length

/-- The number after a sequence number: "the number after 4,294,967,295 is 1" (R164). -/
def seqSucc (n : Nat) : Nat :=
  if n = 4294967295 then 1 else n + 1

/-- The figures of a JOURNAL_LOW notice (R169). -/
def State.figures (s : State) : JournalFigures :=
  { free := s.free, reserved := s.journal.reserved, oldest := s.journal.records.head?.map (·.seq),
    newest := s.journal.records.getLast?.map (·.seq) }

/-- A record placed at the newest end with the next sequence number (R165), without the consequences of R165 and R169. -/
def State.appendRaw (s : State) (second : Option Nat) (side : Option Side) (body : RecordBody) : State :=
  { s with
    journal :=
      { s.journal with
        records := s.journal.records ++ [{ seq := s.journal.next, second := second, side := side, body := body }]
        next := seqSucc s.journal.next } }

/-- JOURNAL_LOW "when an append takes free entries to 256 or fewer while the flag is YES" (R169). -/
def State.lowCheck (s : State) : State :=
  if s.free ≤ 256 ∧ s.journal.armed = true then
    { s with journal := { s.journal with armed := false } }.notify (.journalLow s.figures)
  else s

/-- The FAULT record of a raise or clear of JOURNAL, an unreserved append, then the FAULT notice (R155, third and fourth steps). -/
def State.journalFaultNews (s : State) (raised : Bool) : State :=
  (if s.free > s.journal.reserved then (s.appendRaw s.now none (.fault .journal raised .fixed)).lowCheck else s).notify
    (.fault (.cls .journal raised .fixed))

/-- The raise of JOURNAL (R155): it changes no order (R156). -/
def State.raiseJournal (s : State) : State :=
  if s.isRaised .journal then s else (s.setCond .journal true).journalFaultNews true

/-- The clear of JOURNAL (R155, R171). The record of the clear may itself take free entries from 17 to 16, which raises the class again
(R165). R155 puts the notice of the clear after its record, and R165 lets the consequences of an append follow it; no rule says which of
the two comes first. The model queues the notice of the clear first and then raises again, with the record and the notice of the raise
(DESIGN CHOICE, log 34). -/
def State.clearJournal (s : State) : State :=
  if s.isRaised .journal then
    let s := (s.setCond .journal false).journalFaultNews false
    if s.free = 16 then s.raiseJournal else s
  else s

/-- The consequences of an append: JOURNAL_LOW (R169), and the raise of JOURNAL by "an append that takes free entries from 17 to 16"
(R165). -/
def State.afterAppend (s : State) : State :=
  let s := s.lowCheck
  if s.free = 16 then s.raiseJournal else s

/-- A reserved append (R165): the reservation count falls by one. -/
def State.appendReserved (s : State) (second : Option Nat) (side : Option Side) (body : RecordBody) : State :=
  ({ s with journal := { s.journal with reserved := s.journal.reserved - 1 } }.appendRaw second side body).afterAppend

/-- An unreserved append (R165), stamped with the clock's second: "made when free entries exceed the reservation count. Otherwise it is
not made". -/
def State.appendUnreserved (s : State) (side : Option Side) (body : RecordBody) : State :=
  if s.free > s.journal.reserved then (s.appendRaw s.now side body).afterAppend else s

/-- A journal reservation is taken only "while free entries minus reservations exceed 16" (R23 check 6, R168). -/
def State.canReserve (s : State) : Bool :=
  decide (s.free > s.journal.reserved + 16)

/-- A journal reservation taken (R168). -/
def State.reserve (s : State) : State :=
  { s with journal := { s.journal with reserved := s.journal.reserved + 1 } }

/-- A journal reservation released (R168). -/
def State.unreserve (s : State) : State :=
  { s with journal := { s.journal with reserved := s.journal.reserved - 1 } }

/-- The record and the notice of a raise or clear of any class but JOURNAL (R155, third and fourth steps). -/
def State.faultNews (s : State) (c : FaultClass) (raised : Bool) : State :=
  (s.appendUnreserved none (.fault c raised (s.responseOf c))).notify (.fault (.cls c raised (s.responseOf c)))

end Sys2Proof.Machine
end

