-- ==== Sys2Proof/Machine/Calendar.lean ====
section
/-! DEFINITION. Calendar arithmetic, service days and day types, and the values that a tariff bank gives (R50, R76, R82, R86, R87). -/

namespace Sys2Proof.Machine

/-- The last network second of the clock's range (R85). -/
def lastSecond : Nat := 3155759999

/-- The last network minute (R86). -/
def lastMinuteOfRange : Nat := 52595999

/-- A year of the range is a leap year when divisible by 4, "2000 included" (R87). -/
def isLeap (y : Nat) : Bool :=
  y % 4 = 0

/-- The length of a month (R87). -/
def monthLength (y m : Nat) : Nat :=
  if m = 2 then (if isLeap y then 29 else 28)
  else if m = 4 ∨ m = 6 ∨ m = 9 ∨ m = 11 then 30 else 31

end Sys2Proof.Machine

namespace Sys2Proof
open Machine

/-- Whether a setting is valid (R87). -/
def DateTime.isValid (d : DateTime) : Bool :=
  (2000 ≤ d.year && d.year ≤ 2099) && (1 ≤ d.month && d.month ≤ 12) && (1 ≤ d.day && d.day ≤ monthLength d.year d.month)
    && d.hour ≤ 23 && d.minute ≤ 59 && d.second ≤ 59

end Sys2Proof

namespace Sys2Proof.Machine

/-- The days of the first `m` months of a year. -/
def daysBeforeMonth (y : Nat) : Nat → Nat
  | 0 => 0
  | m + 1 => daysBeforeMonth y m + monthLength y (m + 1)

/-- The day number of the first day of a year, from 2000-01-01 (R86). -/
def daysBeforeYear (y : Nat) : Nat :=
  365 * (y - 2000) + (y - 2000 + 3) / 4

end Sys2Proof.Machine

namespace Sys2Proof
open Machine

/-- The network second of a valid date and time (R85, R87). -/
def DateTime.toSecond (d : DateTime) : Nat :=
  (((daysBeforeYear d.year + daysBeforeMonth d.year (d.month - 1) + (d.day - 1)) * 24 + d.hour) * 60 + d.minute) * 60 + d.second

end Sys2Proof

namespace Sys2Proof.Machine

/-- The year of a day number: four-year spans of 1,461 days whose first year has 366 (R86). -/
def yearOfDay (n : Nat) : Nat :=
  2000 + 4 * (n / 1461) + (if n % 1461 < 366 then 0 else 1 + (n % 1461 - 366) / 365)

/-- The month and day of a day of the year counted from 0, looking from month `m` on. -/
def monthDayFrom (y : Nat) : Nat → Nat → Nat → Nat × Nat
  | 0, m, d => (m, d + 1)
  | fuel + 1, m, d => if d < monthLength y m then (m, d + 1) else monthDayFrom y fuel (m + 1) (d - monthLength y m)

/-- The calendar date and time of a network second (R86). -/
def dateTimeOf (sec : Nat) : DateTime :=
  let n := sec / 86400
  let y := yearOfDay n
  let md := monthDayFrom y 11 1 (n - daysBeforeYear y)
  { year := y, month := md.1, day := md.2, hour := sec / 3600 % 24, minute := sec / 60 % 60, second := sec % 60 }

/-- The weekday of a day number: "the remainder of n + 5 divided by 7, where 0 is Monday and 6 is Sunday" (R86). -/
def weekday (n : Nat) : Nat :=
  (n + 5) % 7

/-- The service day of a minute: "rounded down, and taken as 0 if the result is negative" (R50, R86). -/
def serviceDay (boundary m : Nat) : Nat :=
  (m - boundary) / 1440

/-- The day type of a service day, under a holiday list (R86). -/
def dayTypeOf (holidays : List Nat) (d : Nat) : DayType :=
  if d ∈ holidays ∨ weekday d = 6 then .sundayHoliday else if weekday d = 5 then .saturday else .weekday

/-! What a bank gives. A section that is absent, which no VALID bank has (R77), reads as zeros. -/

def Rules.zero : Rules :=
  { transferWindow := 0, reentryGrace := 0, sameStationWindow := 0, sameStationCharge := 0, incompleteCharge := 0,
    unenteredCharge := 0, freeExitWindow := 0, overdraft := 0, boundary := 0 }

def Bank.ruleSet (b : Bank) : Rules :=
  b.rules.getD .zero

/-- The zone of a station; 0 means the station is undefined (R76). -/
def Bank.zoneOf (b : Bank) (station : Nat) : Nat :=
  (b.stations.getD []).getD station 0

/-- The holiday list (R76 section 6). -/
def Bank.holidayList (b : Bank) : List Nat :=
  b.holidays.getD []

/-- The band fare of band 1 to 15 (R76 section 2). -/
def Bank.fareOf (b : Bank) (band : Nat) : Nat :=
  match b.bands with
  | some t => t.fares.getD (band - 1) 0
  | none => 0

/-- The values of a profile 0 to 7 (R76 section 4). -/
def Bank.profileOf (b : Bank) (p : Nat) : Profile :=
  (b.profiles.getD []).getD p { discount := 0, cap := 0, entryMinimum := 0 }

/-- The product map's entry for a code; a code outside 0 to 31 has none and is unmapped (DEDUCED from R17 and R82, log 16). -/
def Bank.productFor (b : Bank) (code : Nat) : ProductKind × Nat :=
  (b.products.getD []).getD code (.unmapped, 0)

/-- The peak windows of a day type (R76 section 3). -/
def Bank.windowsOf (b : Bank) (d : DayType) : List (Nat × Nat) :=
  match b.peaks, d with
  | some w, .weekday => w.weekday
  | some w, .saturday => w.saturday
  | some w, .sundayHoliday => w.sundayHoliday
  | none, _ => []

/-- Whether all seven sections are present (R77 step 4). -/
def Bank.complete (b : Bank) : Bool :=
  b.stations.isSome && b.bands.isSome && b.peaks.isSome && b.profiles.isSome && b.rules.isSome && b.holidays.isSome
    && b.products.isSome

/-- Whether a tariff is active: "when the ACTIVE bank is VALID" (R74). -/
def State.tariffActive (s : State) : Bool :=
  s.tariff.active.valid

/-- The version of the ACTIVE bank, absent while no tariff is active. -/
def State.activeVersion (s : State) : Option Nat :=
  if s.tariff.active.valid then s.tariff.active.version else none

/-- The service-day boundary in use: "the boundary is 0 while no tariff is active" (R86). -/
def State.boundary (s : State) : Nat :=
  if s.tariff.active.valid then s.tariff.active.ruleSet.boundary else 0

/-- The holiday list in use: "When no tariff is active there is no holiday list" (R86). -/
def State.holidaysInUse (s : State) : List Nat :=
  if s.tariff.active.valid then s.tariff.active.holidayList else []

/-- The bank that holds a version (R49): the ACTIVE bank, or the STANDBY bank, which the pin protects (R81). -/
def State.bankOf (s : State) (version : Nat) : Bank :=
  if s.tariff.active.version = some version then s.tariff.active else s.tariff.standby

end Sys2Proof.Machine
end

