-- ==== Sys2Proof/Machine/Fares.lean ====
section
/-! DEFINITION. The fare calculator: one pricing as a function of its request, the tariff bank and the free period record (spec/03_fare_calculation.md). -/

namespace Sys2Proof.Machine

/-- A pricing request (R49): the card's current record and static area, the product kind and profile, the side (hence the tap kind), the
gate's own station, the transaction instant and the tariff version. -/
structure PricingRequest where
  card : CardId
  record : CardRecord
  area : StaticArea
  kind : ProductKind
  profile : Nat
  side : Side
  station : Nat
  instant : Nat
  tariff : Nat
deriving DecidableEq, Repr

/-- A pricing's result (R49): a record to write, without its check code, with its fare record; a refusal; or the staff grant. -/
inductive PricingResult where
  | write (record : CardRecord) (fare : FareRecord)
  | refuse (outcome : TapOutcome)
  | staff
deriving DecidableEq, Repr

/-- The three cases of an entry (R59). -/
inductive EntryCase where
  | incompleteTrip
  | continuation
  | newJourney
deriving DecidableEq, Repr

/-- The pricing cases of an exit (R64). -/
inductive ExitCase where
  | freeExit
  | unenteredExit
  | undefinedOrigin
  | sameStation
  | ordinary
deriving DecidableEq, Repr

/-- A window test: the later minus the earlier "lies from 0 to" the window (R50). -/
def withinWindow (later earlier window : Nat) : Bool :=
  earlier ≤ later && later - earlier ≤ window

/-- The now minute (R50). -/
def PricingRequest.nowMinute (q : PricingRequest) : Nat :=
  q.instant / 60

/-- The tap service day (R50). -/
def PricingRequest.tapDay (q : PricingRequest) (b : Bank) : Nat :=
  serviceDay b.ruleSet.boundary q.nowMinute

/-- Stage 1 for stored value: the absolute difference of the zones plus 1 (R52). -/
def storedBand (z1 z2 : Nat) : Nat :=
  (if z1 ≤ z2 then z2 - z1 else z1 - z2) + 1

/-- Stage 1 for a period pass: the zones of the interval that lie outside the pass (R53). A pass zone above 15 is compared as the
number it is (DESIGN CHOICE, log 42). -/
def passBand (z1 z2 low high : Nat) : Nat :=
  (((List.range (max z1 z2 - min z1 z2 + 1)).map (· + min z1 z2)).filter fun z => decide (z < low ∨ z > high)).length

/-- Stage 2: whether the journey is PEAK, from the minute of day of its start and the windows of the day type of the start's service day
(R54). -/
def isPeak (b : Bank) (start : Nat) : Bool :=
  (b.windowsOf (dayTypeOf b.holidayList (serviceDay b.ruleSet.boundary start))).any fun w =>
    decide (w.1 ≤ start % 1440 ∧ start % 1440 < w.2)

/-- Stage 2: the factor in per mille (R54). -/
def timeFactor (b : Bank) (start : Nat) : Nat :=
  match b.bands with
  | some t => if isPeak b start then t.peak else t.offPeak
  | none => 0

/-- Stage 3: the journey fare from the base fare, the factor, the discount and the rounding unit, saturated at 65,535 (R55). -/
def journeyFare (base f d unit : Nat) : Nat :=
  min 65535 (unit * ((2 * base * f * (100 - d) + 100000 * unit) / (200000 * unit)))

/-- The rounding unit of a bank (R76 section 2). -/
def Bank.unitOf (b : Bank) : Nat :=
  match b.bands with
  | some t => t.unit
  | none => 0

/-- Stages 1 to 3 of an ordinary exit; a pass journey inside the pass zones (band 0) has the fare 0 (R52, R53, R55). -/
def ordinaryFare (q : PricingRequest) (b : Bank) : Nat :=
  let z1 := b.zoneOf q.record.origin
  let z2 := b.zoneOf q.station
  let band := if q.kind = .periodPass then passBand z1 z2 q.area.zoneLow.toNat q.area.zoneHigh.toNat else storedBand z1 z2
  if band = 0 then 0
  else journeyFare (b.fareOf band) (timeFactor b q.record.start) (b.profileOf q.profile).discount b.unitOf

/-- Stage 5: the charge after the daily cap, with the cap day and accumulator of the new record (R57). -/
def applyCap (cap day c : Nat) (r : CardRecord) : Nat × Nat × Nat :=
  let acc := if r.capDay = day then r.capAcc else 0
  if cap = 0 then (c, day, min 65535 (acc + c))
  else if acc ≥ cap then (0, day, acc)
  else (min c (cap - acc), day, acc + min c (cap - acc))

/-- The entry case of R59; an OPEN journey that reaches the calculator is an incomplete trip. -/
def entryCase (q : PricingRequest) (b : Bank) : EntryCase :=
  match q.record.journey with
  | .opened => .incompleteTrip
  | .closed =>
    if withinWindow q.nowMinute q.record.lastMinute b.ruleSet.transferWindow ∧ q.station ≠ q.record.lastStation ∧ q.record.legs < 4 then
      .continuation
    else .newJourney
  | .none => .newJourney

/-- Whether the free period covers an exit (R64, first test). -/
def periodCovers (p : Option FreePeriod) (now window : Nat) : Bool :=
  match p with
  | none => false
  | some p =>
    p.start ≤ now &&
      match p.stop with
      | none => true
      | some e => decide (now ≤ e + window)

/-- Whether the free period breaks an open journey begun at `start` (R64, second test). -/
def periodBreaks (p : Option FreePeriod) (now start : Nat) : Bool :=
  match p with
  | none => false
  | some p => p.start ≤ now && start < p.start

/-- The exit case of R64, in the order of its table. -/
def exitCase (q : PricingRequest) (b : Bank) (p : Option FreePeriod) : ExitCase :=
  let covers := periodCovers p q.nowMinute b.ruleSet.freeExitWindow
  match q.record.journey with
  | .opened =>
    if periodBreaks p q.nowMinute q.record.start then
      if covers then .freeExit else .unenteredExit
    else if b.zoneOf q.record.origin = 0 then .undefinedOrigin
    else if q.kind = .storedValue ∧ q.record.origin = q.station ∧ q.record.legs = 1 ∧
        withinWindow q.nowMinute q.record.start b.ruleSet.sameStationWindow then .sameStation
    else .ordinary
  | .closed | .none => if covers then .freeExit else .unenteredExit

/-- The common fields of every record to write (R72); the check code is added by the context (R33). -/
def commonRecord (q : PricingRequest) : CardRecord :=
  { q.record with
    counter := q.record.counter + 1, lastStation := q.station, lastKind := q.side.tapKind, lastMinute := q.nowMinute, code := 0 }

/-- A new record, its charge, its fare record kind and the origin station of the fare record (R72, R73). -/
structure Priced where
  record : CardRecord
  charge : Nat
  kind : FareKind
  origin : Nat
deriving DecidableEq, Repr

/-- The penalty of an incomplete trip or of an undefined origin: the incomplete-trip charge less journey paid, 0 when that is at or
above the charge (R62, R67). -/
def penalty (q : PricingRequest) (b : Bank) : Nat :=
  b.ruleSet.incompleteCharge - q.record.paid

/-- What an entry writes (R60, R61, R62). -/
def priceEntry (q : PricingRequest) (b : Bank) : Priced :=
  let r := commonRecord q
  match entryCase q b with
  | .newJourney =>
    { record := { r with journey := .opened, origin := q.station, start := q.nowMinute, paid := 0, legs := 1 }
      charge := 0, kind := .entry, origin := q.station }
  | .continuation =>
    { record := { r with journey := .opened, legs := q.record.legs + 1 }, charge := 0, kind := .entry, origin := q.record.origin }
  | .incompleteTrip =>
    { record :=
        { r with
          journey := .opened, origin := q.station, start := q.nowMinute, paid := 0, legs := 1, purse := q.record.purse - penalty q b }
      charge := penalty q b, kind := .incompleteCharge, origin := q.record.origin }

/-- An exit charged through stage 5: ordinary and same-station exits (R65, R66). -/
def cappedExit (q : PricingRequest) (b : Bank) (c : Nat) (kind : FareKind) : Priced :=
  let capped := applyCap (b.profileOf q.profile).cap (q.tapDay b) c q.record
  { record :=
      { commonRecord q with
        journey := .closed, purse := q.record.purse - capped.1, paid := min 65535 (q.record.paid + capped.1),
        capDay := capped.2.1, capAcc := capped.2.2 }
    charge := capped.1, kind := kind, origin := q.record.origin }

/-- What an exit writes (R65 to R69). -/
def priceExit (q : PricingRequest) (b : Bank) (p : Option FreePeriod) : Priced :=
  let r := commonRecord q
  match exitCase q b p with
  | .freeExit =>
    { record := { r with journey := if q.record.journey = .opened then .closed else q.record.journey }
      charge := 0, kind := .freeExit, origin := q.record.origin }
  | .unenteredExit =>
    { record := { r with journey := .none, legs := 0, paid := 0, purse := q.record.purse - b.ruleSet.unenteredCharge }
      charge := b.ruleSet.unenteredCharge, kind := .unenteredCharge, origin := q.station }
  | .undefinedOrigin =>
    { record :=
        { r with
          journey := .closed, purse := q.record.purse - penalty q b, paid := min 65535 (q.record.paid + penalty q b) }
      charge := penalty q b, kind := .incompleteCharge, origin := q.record.origin }
  | .sameStation => cappedExit q b b.ruleSet.sameStationCharge .exitCharge
  | .ordinary =>
    cappedExit q b (ordinaryFare q b - q.record.paid) (if q.kind = .periodPass then .passUse else .exitCharge)

/-- Whether a period pass is valid on the tap service day (R70); a pass day above 36,524 is compared as the number it is (DESIGN CHOICE,
log 42). -/
def passValid (q : PricingRequest) (b : Bank) : Bool :=
  q.area.passFrom.toNat ≤ q.tapDay b && q.tapDay b ≤ q.area.passTo.toNat

/-- The case's record and charge (R51 step 5). -/
def priceCase (q : PricingRequest) (b : Bank) (p : Option FreePeriod) : Priced :=
  match q.side with
  | .a => priceEntry q b
  | .b => priceExit q b p

/-- Whether the new purse fails the entry minimum (R63) or the purse check of stage 6 (R58): both give INSUFFICIENT. -/
def purseFails (q : PricingRequest) (b : Bank) (purse : Int) : Bool :=
  (q.side = .a && purse < (b.profileOf q.profile).entryMinimum) || purse < -(b.ruleSet.overdraft : Int)

/-- The fare record returned with a record to write (R73), with the card, side and instant that the context adds. -/
def fareRecordOf (q : PricingRequest) (x : Priced) : FareRecord :=
  { kind := x.kind, charge := x.charge, counterBefore := q.record.counter, counterAfter := q.record.counter + 1,
    purseAfter := x.record.purse, tariff := q.tariff, origin := x.origin, station := q.station, profile := q.profile, card := q.card,
    side := q.side, instant := q.instant }

/-- One pricing, its decisions in the order of R51. -/
def price (q : PricingRequest) (b : Bank) (p : Option FreePeriod) : PricingResult :=
  if q.kind = .staff then .staff
  else if b.zoneOf q.station = 0 then .refuse .noTariff
  else if q.record.counter = 16777215 then .refuse .cardExhausted
  else if q.kind = .periodPass ∧ passValid q b = false then .refuse .passInvalid
  else
    let x := priceCase q b p
    if purseFails q b x.record.purse then .refuse .insufficient else .write x.record (fareRecordOf q x)

end Sys2Proof.Machine
end

