-- ==== Sys2Proof/Machine/Screening.lean ====
section
/-! DEFINITION. The screening unit: the hold list, the denylist with its update queue and bulk replace, the sightings table, and screening steps 2 to 6 (spec/05_card_screening.md). -/

namespace Sys2Proof.Machine

/-! The hold list (R95 to R99). -/

/-- The order of the hold list: by hold-until, equal ones "by the time they joined" (R95). -/
def holdBefore (x y : HoldEntry) : Bool :=
  decide (x.until_ < y.until_ ∨ (x.until_ = y.until_ ∧ x.joined < y.joined))

/-- An entry put in its place in the hold-until order. -/
def insertHold (x : HoldEntry) : List HoldEntry → List HoldEntry
  | [] => [x]
  | y :: ys => if holdBefore x y then x :: y :: ys else y :: insertHold x ys

/-- The hold-until of a capture: the transaction instant plus the hold time, at most the last second of the clock's range (R98). -/
def Screen.holdUntil (c : Screen) (instant : Nat) : Nat :=
  min lastSecond (instant + c.holdHours * 3600)

/-- An addition to the hold list (R98). -/
def Screen.addHold (c : Screen) (card : CardId) (until_ : Nat) : Screen :=
  match c.holds.find? (·.card = card) with
  | some e =>
    { c with holds := insertHold { e with until_ := until_ } (c.holds.filter (·.card ≠ card)) }
  | none =>
    let kept := if c.holds.length < 64 then c.holds else c.holds.tail
    { c with holds := insertHold { card := card, until_ := until_, joined := c.nextJoin } kept, nextJoin := c.nextJoin + 1 }

/-- Step 2: held, "when its card ID is in the hold list and its hold-until lies after the transaction instant" (R96). -/
def Screen.isHeld (c : Screen) (card : CardId) (instant : Nat) : Bool :=
  c.holds.any fun e => decide (e.card = card ∧ instant < e.until_)

/-- At a minute step, entries whose hold-until is at or before the current second are removed (R99). -/
def Screen.pruneHolds (c : Screen) (now : Nat) : Screen :=
  { c with holds := c.holds.filter fun e => decide (now < e.until_) }

/-- A captured card joins the hold list and HOLD_ADDED is queued (R98). -/
def State.captureHold (s : State) (card : CardId) (instant : Nat) (capture : CaptureResult) : State :=
  let u := s.screen.holdUntil instant
  { s with screen := s.screen.addHold card u }.notify (.holdAdded card u capture)

/-! The denylist (R100 to R107). -/

/-- How many arrivals ago an arrival number was assigned; the counter wraps from 4,294,967,295 to 1 (R101; DEDUCED, log 28). -/
def arrivalAge (counter n : Nat) : Nat :=
  if n ≤ counter then counter - n else counter + 4294967295 - n

/-- The arrival number after the counter's value (R101). -/
def arrivalSucc (n : Nat) : Nat :=
  if n = 4294967295 then 1 else n + 1

/-- A card ID inserted "in its ascending place" (R102). -/
def insertAscending (x : CardId) : List CardId → List CardId
  | [] => [x]
  | y :: ys => if x < y then x :: y :: ys else if x = y then y :: ys else y :: insertAscending x ys

/-- Whether card IDs are strictly ascending (R105). -/
def ascending : List CardId → Bool
  | [] => true
  | [_] => true
  | x :: y :: ys => decide (x < y) && ascending (y :: ys)

/-- A new update joins the end of the queue with the next arrival number (R101 step 3). -/
def Screen.enqueue (c : Screen) (add : Bool) (card : CardId) : Screen :=
  { c with
    arrivals := arrivalSucc c.arrivals
    queue := c.queue ++ [{ add := add, card := card, arrival := arrivalSucc c.arrivals }] }

/-- Whether a lookup with a mark lists a card (R104): the latest queued update for the card up to the mark decides, else the list. -/
def Screen.lookup (c : Screen) (mark : Nat) (card : CardId) : Bool :=
  match (c.queue.filter fun u => decide (u.card = card ∧ arrivalAge c.arrivals mark ≤ arrivalAge c.arrivals u.arrival)).getLast? with
  | some u => u.add
  | none => decide (card ∈ c.denylist)

/-- Whether an open mark holds back the head update: an unflagged mark "earlier than the head's arrival number" (R102, R106). -/
def holdsBack (counter : Nat) (head : DenyUpdate) (m : Option DenyMark) : Bool :=
  match m with
  | some m => !m.afterSwap && decide (arrivalAge counter head.arrival < arrivalAge counter m.arrival)
  | none => false

/-- Whether a mark is open and not flagged "after the swap" (R106). -/
def holdsSwap (m : Option DenyMark) : Bool :=
  match m with
  | some m => !m.afterSwap
  | none => false

/-- The open mark of a context (R103). -/
def Context.mark (c : Context) : Option DenyMark :=
  c.tx.bind (·.mark)

/-- The head update can be begun (R102). -/
def State.canBeginApply (s : State) : Bool :=
  match s.screen.queue with
  | [] => false
  | u :: _ =>
    !s.screen.applying && !holdsBack s.screen.arrivals u s.ctxs.a.mark && !holdsBack s.screen.arrivals u s.ctxs.b.mark

/-- The list after an update's completion, and whether DENYLIST_FULL is to be noticed (R102). -/
def applyUpdate (list : List CardId) (u : DenyUpdate) : List CardId × Bool :=
  if u.add then
    if u.card ∈ list then (list, false)
    else if list.length < 16384 then (insertAscending u.card list, false)
    else (list, true)
  else (list.filter (· ≠ u.card), false)

/-- The completion of an apply: "In the same event, the list changes and the update leaves the queue" (R102). -/
def State.completeApply (s : State) : State :=
  match s.screen.applying, s.screen.queue with
  | true, u :: rest =>
    let r := applyUpdate s.screen.denylist u
    let s := { s with screen := { s.screen with denylist := r.1, queue := rest, applying := false } }
    if r.2 then s.notify (.fault (.denylistFull u.card)) else s
  | _, _ => s

/-- The mark a claim takes (R103). -/
def Screen.markNow (c : Screen) : DenyMark :=
  { arrival := c.arrivals, afterSwap := decide (c.build = .ending) }

/-- The swap is made when "the update queue is empty, no apply is in progress, and no context holds an open mark that is not flagged"
(R106). -/
def State.canSwapList (s : State) : Bool :=
  decide (s.screen.build = .ending) && s.screen.queue.isEmpty && !s.screen.applying && !holdsSwap s.ctxs.a.mark
    && !holdsSwap s.ctxs.b.mark

/-- The list, version and build area at the swap (R106, first four effects). -/
def Screen.swapList (c : Screen) : Screen :=
  { c with
    denylist := c.buildList, listVersion := c.buildVersion, buildList := [], buildVersion := 0, buildLast := none, build := .idle }

/-! The sightings table (R109 to R115). -/

/-- The order of the table: by second, equal ones by how long they have been in the table (R109). -/
def sightingBefore (x y : Sighting) : Bool :=
  decide (x.second < y.second ∨ (x.second = y.second ∧ x.joined < y.joined))

/-- An entry put in its place in the table's order. -/
def insertSighting (x : Sighting) : List Sighting → List Sighting
  | [] => [x]
  | y :: ys => if sightingBefore x y then x :: y :: ys else y :: insertSighting x ys

/-- The card's sighting, if it has one; the table holds at most one per card ID (R109). -/
def Screen.sightingOf (c : Screen) (card : CardId) : Option Sighting :=
  c.sightings.find? (·.card = card)

/-- A card's entry replaced by one with other fields, in its place in the order. -/
def Screen.putSighting (c : Screen) (x : Sighting) : Screen :=
  { c with sightings := insertSighting x (c.sightings.filter (·.card ≠ x.card)) }

/-- A new entry joins; when the table holds 512, "the entry first in the table's order is removed" (R109). -/
def Screen.joinSighting (c : Screen) (x : Sighting) : Screen :=
  let kept := if c.sightings.length < 512 then c.sightings else c.sightings.tail
  { c with sightings := insertSighting { x with joined := c.nextJoin } kept, nextJoin := c.nextJoin + 1 }

/-- What a context hands over at a commit (R110), with this gate's identity. -/
structure Commit where
  card : CardId
  counter : Nat
  purse : Int
  kind : TapKind
  second : Nat
  station : Nat
  gate : Nat
  passage : PassageState
deriving DecidableEq, Repr

/-- The entry that a commit makes of a sighting whose fields it takes (R110). -/
def Commit.sighting (k : Commit) (conflict : Bool) (joined : Nat) : Sighting :=
  { card := k.card, counter := k.counter, purse := k.purse, alternate := none, kind := k.kind, second := k.second,
    station := k.station, gate := k.gate, source := .local, passage := k.passage, conflict := conflict, joined := joined }

/-- A commit recorded, line by line as R110's table. -/
def Screen.commit (c : Screen) (k : Commit) : Screen :=
  match c.sightingOf k.card with
  | none => c.joinSighting (k.sighting false 0)
  | some x =>
    if x.counter < k.counter ∨ (x.counter = k.counter ∧ x.purse = k.purse) then c.putSighting (k.sighting x.conflict x.joined)
    else c.putSighting { x with conflict := true }

/-- The SIGHTING_OUT notice of a sighting (R114). -/
def Sighting.notice (x : Sighting) : Notice :=
  .sightingOut x.card x.counter x.purse x.kind x.second x.station x.gate x.passage

/-- The SIGHTING_OUT notice of a commit: the entry's fields after it, which are the commit's own; they are the commit's own also when
the commit set the conflict flag (R114). -/
def Commit.notice (k : Commit) : Notice :=
  .sightingOut k.card k.counter k.purse k.kind k.second k.station k.gate k.passage

/-- A commit of this gate recorded (R110) and its SIGHTING_OUT queued (R114). -/
def State.recordCommit (s : State) (k : Commit) : State :=
  { s with screen := s.screen.commit k }.notify k.notice

/-- The alternate counter handed over at the commit point: "If the card has no sighting, nothing is recorded" (R111). -/
def State.setAlternate (s : State) (card : CardId) (alternate : Nat) : State :=
  match s.screen.sightingOf card with
  | none => s
  | some x => { s with screen := s.screen.putSighting { x with alternate := some alternate } }

/-- The end of an authorisation reported: it applies to a LOCAL sighting that is PENDING, and changes nothing otherwise (R112, R114). -/
def State.reportPassage (s : State) (card : CardId) (outcome : PassageState) : State :=
  match s.screen.sightingOf card with
  | none => s
  | some x =>
    if x.source = .local ∧ x.passage = .pending then
      let y := { x with passage := outcome }
      { s with screen := s.screen.putSighting y }.notify y.notice
    else s

/-- The sighting after a REPEAT grant (R112): PENDING, and under the line for an expired write the card's counter and purse with the
alternate counter removed. SIGHTING_OUT when a LOCAL sighting's passage state changed (R114). -/
def State.repeatGranted (s : State) (card : CardId) (expired : Bool) (counter : Nat) (purse : Int) : State :=
  match s.screen.sightingOf card with
  | none => s
  | some x =>
    let y :=
      if expired then { x with passage := .pending, counter := counter, purse := purse, alternate := none }
      else { x with passage := .pending }
    let s := { s with screen := s.screen.putSighting y }
    if x.source = .local ∧ x.passage ≠ .pending then s.notify y.notice else s

/-- A peer's record merged, line by line as R113's table; `station` and `gate` are this gate's identity. -/
def Screen.merge (c : Screen) (p : Commit) (station gate : Nat) : Screen :=
  match c.sightingOf p.card with
  | none => c.joinSighting { p.sighting false 0 with source := .peer }
  | some x =>
    if x.counter < p.counter then
      let alt := match x.alternate with
        | some a => if p.counter > a then none else some a
        | none => none
      c.putSighting { p.sighting x.conflict x.joined with source := .peer, alternate := alt }
    else if x.counter = p.counter then
      if x.purse ≠ p.purse then c.putSighting { x with conflict := true }
      else if (p.station = station ∧ p.gate = gate) ∨ p.passage = .none ∨ (x.source = .local ∧ x.passage = .pending) then c
      else c.putSighting { x with passage := p.passage }
    else c

/-- "A change applies from the next minute step" (R109): the horizon set comes into force. -/
def Screen.applyHorizon (c : Screen) : Screen :=
  { c with horizonInForce := c.horizonMin }

/-- At a minute step, entries "older than the current second by more than the horizon" are removed (R115). -/
def Screen.pruneSightings (c : Screen) (now : Nat) : Screen :=
  { c with sightings := c.sightings.filter fun x => decide (now ≤ x.second + c.horizonInForce * 60) }

/-- At a warm start every LOCAL sighting that is PENDING becomes NOT_TAKEN (R109). -/
def warmSighting (x : Sighting) : Sighting :=
  if x.source = .local ∧ x.passage = .pending then { x with passage := .notTaken } else x

/-! Screening steps 2 to 6 (R93, R94). -/

/-- The verdict of the screening unit (R30). `repeated` says whether the line for an expired in-doubt write gave it (R117). -/
inductive Verdict where
  | serve
  | refuse (outcome : TapOutcome)
  | capture (outcome : TapOutcome) (reason : Option CloneReason)
  | repeated (expired : Bool)
deriving DecidableEq, Repr

/-- The counter rules of step 5 (R116): the clone reason, if a test holds. -/
def counterRules (x : Option Sighting) (k : Nat) (p : Int) : Option CloneReason :=
  match x with
  | none => none
  | some x =>
    let accepted := match x.alternate with
      | some a => decide (k = a ∨ k + 1 = a)
      | none => false
    if k < x.counter ∧ accepted = false then some .counter
    else if k = x.counter ∧ p ≠ x.purse then some .counter
    else if x.conflict then some .conflictFlag
    else none

/-- Whether a tap is a re-entry, the condition of step 6 (R117). -/
def isReentry (kind : TapKind) (r : CardRecord) (station instant grace : Nat) : Bool :=
  decide (kind = .entry ∧ r.journey = .opened ∧ r.origin = station ∧ r.start * 60 ≤ instant ∧ instant - r.start * 60 ≤ grace)

/-- Step 6's verdict for a re-entry, from the sighting (R117's table). -/
def passbackVerdict (x : Option Sighting) (k : Nat) : Verdict :=
  match x with
  | none => .refuse .passback
  | some x =>
    if x.counter = k ∧ x.passage = .notTaken then .repeated false
    else if x.counter + 1 = k ∧ x.alternate = some k then .repeated true
    else .refuse .passback

/-- Steps 2 to 6 for a card that is not STAFF (R93). The arguments are what the context hands over and the re-entry grace of its
tariff version; `mark` is its denylist mark. -/
def screenCard (c : Screen) (station : Nat) (card : CardId) (r : CardRecord) (blocked : Bool) (kind : TapKind) (instant mark grace : Nat) :
    Verdict :=
  if c.isHeld card instant then .refuse .held
  else if c.lookup mark card then .capture .denylisted none
  else if blocked then .refuse .cardBlocked
  else
    match counterRules (c.sightingOf card) r.counter r.purse with
    | some reason => .capture .cloneSuspect (some reason)
    | none =>
      if isReentry kind r station instant grace then passbackVerdict (c.sightingOf card) r.counter else .serve

/-- "A verdict with clone reason COUNTER sets the sighting's conflict flag" (R116). -/
def Screen.noteVerdict (c : Screen) (card : CardId) (v : Verdict) : Screen :=
  match v, c.sightingOf card with
  | .capture .cloneSuspect (some .counter), some x => c.putSighting { x with conflict := true }
  | _, _ => c

end Sys2Proof.Machine
end

