-- ==== Sys2Proof/Machine/Link.lean ====
section
/-! DEFINITION. The card link of a reader side (spec/01_readers_and_the_card_link.md), and the end of a transaction at its context (R37, R39, R43, R45, R81). -/

namespace Sys2Proof.Machine

/-! Reader sides. -/

/-- The cadence when a side enters SEARCHING from SETTLING or DOWN: "QUIET if the aisle mode is CLOSED and ACTIVE otherwise" (R2, R8). -/
def AisleMode.startCadence (m : AisleMode) : Cadence :=
  if m = .closed then .quiet else .active

/-- A SUMMON is sent: the hail window opens and the summons timer starts with the cadence's interval (R3, R4). -/
def Reader.sendSummon (r : Reader) : Reader :=
  { r with
    summons := some r.cadence.interval, window := some { ids := [], garbled := false, timer := hailWindowMs },
    lastFrame := some .summon }

/-- A side enters SEARCHING from SETTLING or DOWN: cadence, idle timer and the first summons at once (R2, R8). -/
def Reader.beginSearching (r : Reader) (m : AisleMode) : Reader :=
  { r with link := .searching, settle := none, idle := some idleMs, cadence := m.startCadence }.sendSummon

/-- A side enters SETTLING with the settle timer from its beginning (R2, R7). -/
def Reader.beginSettling (r : Reader) : Reader :=
  { r with link := .settling, settle := some settleMs }

/-- A side enters DOWN: its summons, idle, holdoff and settle timers stop and it sends nothing (R7, R8). A hail window that is open closes
unjudged, and what it has heard is lost: R7 and R8 do not name the window, and R4 judges every window at its close (DESIGN CHOICE,
log 44). -/
def Reader.goDown (r : Reader) : Reader :=
  { r with
    link := .down, settle := none, summons := none, idle := none, holdoff := none, claimed := none, exchange := none, window := none }

/-- PART sent once: the binding ends, and the side enters SEARCHING, or DOWN under a reader hold (R16). -/
def Reader.part (r : Reader) (held : Bool) : Reader :=
  let r := { r with claimed := none, exchange := none, lastFrame := some (.part r.turn) }
  if held then r.goDown else { r with link := .searching, idle := some idleMs, summons := some r.cadence.interval }

/-- A frame that calls for an answer sent for the first time (R14). -/
def Reader.send (r : Reader) (f : LinkFrame) : Reader :=
  { r with exchange := some { frame := f, attempt := 1, answer := some answerMs }, lastFrame := some f }

/-- The claim: the side enters BOUND, records the card ID and sends CLAIM; the summons that would fall due is not sent (R4, R11). -/
def Reader.claim (r : Reader) (card : CardId) : Reader :=
  { r with link := .bound, claimed := some card, window := none, summons := none }.send (.claim card)

/-- A hail event or a collision sets ACTIVE and restarts the idle timer (R3). -/
def Reader.heard (r : Reader) : Reader :=
  { r with cadence := .active, idle := some idleMs }

/-- The same-card hold set or replaced (R6). -/
def Reader.setHold (r : Reader) (card : CardId) : Reader :=
  { r with hold := some { card := card, absence := absenceMs } }

/-- The absence timer of the same-card hold restarted, if there is one (R5, R6). -/
def Reader.restartHold (r : Reader) : Reader :=
  { r with hold := r.hold.map fun h => { h with absence := absenceMs } }

/-- An exchange ends with a valid answer: "the side inverts its turn bit" (R12). -/
def Reader.endExchange (r : Reader) : Reader :=
  { r with exchange := none, turn := !r.turn }

/-- The context leaves OUT_OF_SERVICE when its link enters SEARCHING (R22, R26). -/
def State.contextBack (s : State) (sd : Side) : State :=
  if (s.ctx sd).state = .outOfService then s.setCtxState sd .polling else s

/-- The link enters DOWN: a context in POLLING or HOLDOFF enters OUT_OF_SERVICE (R22, R26). -/
def State.linkDown (s : State) (sd : Side) : State :=
  let s := s.setReader sd (s.reader sd).goDown
  if (s.ctx sd).state = .polling ∨ (s.ctx sd).state = .holdoff then s.setCtxState sd .outOfService else s

/-- The link enters SEARCHING from SETTLING or DOWN (R2, R8). -/
def State.linkSearching (s : State) (sd : Side) : State :=
  (s.setReader sd ((s.reader sd).beginSearching s.gate.mode)).contextBack sd

/-- PART, if the link is still BOUND (R16, R37); "A side that has lost carrier does not send PART". -/
def State.partIfBound (s : State) (sd : Side) : State :=
  if (s.reader sd).link = .bound then s.setReader sd ((s.reader sd).part (s.sup.readerHold.get sd)) else s

/-! The end of a transaction. -/

/-- The states before the commit point (R22, R45, R81). -/
def CtxState.beforeCommit : CtxState → Bool
  | .claiming | .reading | .screening | .pricing => true
  | .polling | .writing | .marking | .finishing | .holdoff | .outOfService => false

/-- Whether a context in CLAIMING, READING, SCREENING or PRICING holds a version (R79, R81). -/
def Context.holdsVersion (c : Context) (v : Option Nat) : Bool :=
  c.state.beforeCommit &&
    match c.tx with
    | some t => decide (some t.tariff = v)
    | none => false

/-- The pin is released "when no context holding the version of the STANDBY bank remains" before the commit point (R81). -/
def State.releasePin (s : State) : State :=
  if s.ctxs.a.holdsVersion s.tariff.standby.version || s.ctxs.b.holdsVersion s.tariff.standby.version then s
  else { s with tariff := { s.tariff with pinned := false } }

/-- A waiting pricing request is taken when no pricing is in progress; the free period record is read now (R49). -/
def State.takeWaiting (s : State) : State :=
  match s.fares.current, s.fares.waiting with
  | none, some sd => { s with fares := { current := some { side := sd, period := s.tariff.period }, waiting := none } }
  | _, _ => s

/-- A pricing request handed over: taken at once, or waiting while the other side's is priced (R49). -/
def State.askPricing (s : State) (sd : Side) : State :=
  { s with fares := { s.fares with waiting := some sd } }.takeWaiting

/-- A pricing request withdrawn: removed if waiting, abandoned if being priced (R49). -/
def State.withdrawPricing (s : State) (sd : Side) : State :=
  let f := s.fares
  let f := if f.waiting = some sd then { f with waiting := none } else f
  let f := if f.current.map (·.side) = some sd then { f with current := none } else f
  { s with fares := f }.takeWaiting

/-- The in-doubt entry of a card ID; the table holds at most one (R38). -/
def State.entryOf (s : State) (card : CardId) : Option InDoubt :=
  s.doubt.entries.find? (·.card = card)

/-- An entry removed from the table. -/
def State.removeEntry (s : State) (card : CardId) : State :=
  { s with doubt := { s.doubt with entries := s.doubt.entries.filter (·.card ≠ card) } }

/-- An entry of the table changed. -/
def State.mapEntry (s : State) (card : CardId) (f : InDoubt → InDoubt) : State :=
  { s with doubt := { s.doubt with entries := s.doubt.entries.map fun e => if e.card = card then f e else e } }

/-- The expiry of an entry: it is removed, and an IN_DOUBT_EXPIRED record is appended from its journal reservation (R43), stamped with
the clock's second at the append (R166, log 20). -/
def State.expireEntry (s : State) (e : InDoubt) : State :=
  (s.removeEntry e.card).appendReserved s.now (some e.side)
    (.inDoubtExpired e.card e.oldCounter e.record e.fare.kind e.fare.charge e.tariff)

/-- An entry detached: attached NO; "If the entry's deadline has passed while it was attached, it expires at the moment it is detached"
(R39). -/
def State.detach (s : State) (card : CardId) : State :=
  match s.entryOf card with
  | none => s
  | some e => if e.passed then s.expireEntry e else s.mapEntry card fun e => { e with attached := false }

/-- Whether an outcome is a refusal: all but the acceptances ACCEPTED, REPEAT and RESOLVED, and RETAP (R48). -/
def TapOutcome.isRefusal : TapOutcome → Bool
  | .accepted | .repeated | .resolved | .retap => false
  | _ => true

/-- Whether the same-card hold is set for an outcome: "every outcome other than CARD_LOST and RETAP" (R6, R37). -/
def TapOutcome.setsHold : TapOutcome → Bool
  | .cardLost | .retap => false
  | _ => true

/-- A refusal handed to supervision starts or restarts the side's refusal timer (R162). -/
def State.handRefusal (s : State) (sd : Side) : State :=
  { s with sup := { s.sup with refusal := s.sup.refusal.set sd (some refusalMs) } }

/-- The authorisation reservation of a side changed (R132). -/
def State.setReservation (s : State) (sd : Side) (r : Reservation) : State :=
  { s with gate := { s.gate with reservations := s.gate.reservations.set sd r } }

/-- What a finished transaction's TAP_RESULT says beside its side, card and tariff (R48). -/
structure Finish where
  outcome : TapOutcome
  reason : Option CloneReason := none
  capture : Option CaptureResult := none
  grant : Grant := .none
  charge : Option ChargeInfo := none
deriving DecidableEq, Repr

/-- The TAP_RESULT of a finished transaction (R48). -/
def Finish.tapResult (f : Finish) (sd : Side) (t : Transaction) : TapResult :=
  { side := sd, outcome := f.outcome, card := some t.card, reason := f.reason, capture := f.capture, grant := f.grant,
    charge := f.charge, tariff := some t.tariff }

/-- The reservations that no path has turned into an authorisation or a record are released, and an attached entry that is still in the
table is detached (R37, first part). -/
def State.releaseTx (s : State) (sd : Side) (t : Transaction) : State :=
  let s := s.setReservation sd .absent
  let s := if t.journalHeld then s.unreserve else s
  match t.attached with
  | some card => s.detach card
  | none => s

/-- The context returns to POLLING, or to OUT_OF_SERVICE if its link is DOWN, and its other fields become absent (R37); its pricing
request is withdrawn (R49) and the pin released (R81). -/
def State.closeContext (s : State) (sd : Side) : State :=
  let st : CtxState := if (s.reader sd).link = .down then .outOfService else .polling
  ((s.setCtx sd { state := st, tx := none }).withdrawPricing sd).releasePin

/-- FINISHING "carries out the outcome and closes the transaction" (R37). -/
def State.finishTx (s : State) (sd : Side) (f : Finish) : State :=
  match (s.ctx sd).tx with
  | none => s
  | some t =>
    let s := s.releaseTx sd t
    let s := if f.outcome.isRefusal then s.handRefusal sd else s
    let s := s.notify (.tapResult (f.tapResult sd t))
    let s := s.partIfBound sd
    let s := if f.outcome.setsHold then s.setReader sd ((s.reader sd).setHold t.card) else s
    s.closeContext sd

/-- A change of stance ends a transaction before its commit point with an outcome (R45); other contexts are not ended. -/
def State.abortTx (s : State) (sd : Side) (o : TapOutcome) : State :=
  if (s.ctx sd).state.beforeCommit then s.finishTx sd { outcome := o } else s

/-- A change of stance that concerns both sides (R45): where it ends the transactions of both, side A's ends before side B's, and their
TAP_RESULTs come in that order (DESIGN CHOICE, log 34). -/
def State.abortBoth (s : State) (o : TapOutcome) : State :=
  (s.abortTx .a o).abortTx .b o

end Sys2Proof.Machine
end

