-- ==== Sys2Proof/Machine/Sensing.lean ====
section
/-! DEFINITION. Aisle sensing as functions of its own state: the input filters and the occupancy tracker (spec/06_aisle_sensing.md). -/

namespace Sys2Proof.Machine

/-! Filters (R118 to R120). -/

/-- The raw level of an input read against its active level: ACTIVE is true (R118). -/
def Aisle.level (x : Aisle) (i : Input) : Bool :=
  x.pins.get i == (x.params.get i).activeHigh

/-- The filtered state of an input. -/
def Aisle.active (x : Aisle) (i : Input) : Bool :=
  (x.filters.get i).filtered

/-- The debounce timer follows a change of the raw level or of the active level: it starts when the level comes to differ from the
filtered state, keeps running while it differs, and stops when the level returns (R119, R120). -/
def Aisle.refilter (x : Aisle) (i : Input) : Aisle :=
  let f := x.filters.get i
  if x.level i = f.filtered then { x with filters := x.filters.set i { f with debounce := none } }
  else
    match f.debounce with
    | some _ => x
    | none => { x with filters := x.filters.set i { f with debounce := some (x.params.get i).debounceMs } }

/-- When the debounce timer expires, "the filtered state takes the raw level and the timer becomes absent" (R119). Nothing happens when
no timer runs (log 3). -/
def Aisle.settle (x : Aisle) (i : Input) : Aisle :=
  match (x.filters.get i).debounce with
  | none => x
  | some _ => { x with filters := x.filters.set i { filtered := x.level i, debounce := none } }

/-- The filtered states of the three zones. -/
def Aisle.zones (x : Aisle) : PerZone Bool :=
  { za := x.active .za, zm := x.active .zm, zb := x.active .zb }

/-! The tracker (R124 to R130). -/

/-- Whether all three zones are clear. -/
def PerZone.allClear (p : PerZone Bool) : Bool :=
  !p.za && !p.zm && !p.zb

/-- The zone at a side's end: ZA for side A, ZB for side B (R124: the B states exchange ZA and ZB). -/
def PerZone.near (p : PerZone Bool) : Side → Bool
  | .a => p.za
  | .b => p.zb

/-- The zone at the other end. -/
def PerZone.far (p : PerZone Bool) : Side → Bool
  | .a => p.zb
  | .b => p.za

/-- The first, second or third tracker state for a person who entered at a side (R124). -/
def trackerFirst : Side → TrackerState
  | .a => .a1
  | .b => .b1

def trackerSecond : Side → TrackerState
  | .a => .a2
  | .b => .b2

def trackerThird : Side → TrackerState
  | .a => .a3
  | .b => .b3

/-- The tracker in EMPTY, with both flags CLEAR (R124), and a resync as the rules name it. -/
def Tracker.toEmpty (t : Tracker) (resync : Bool) : Tracker :=
  { t with state := .empty, resync := resync, behind := false, byFollower := false }

/-- EMPTY with resync CLEAR (R126); the tracker already holds the new pattern. -/
def Tracker.fromEmpty (t : Tracker) : Tracker × List Report :=
  match t.pattern.za, t.pattern.zb with
  | true, false => ({ t with state := if t.pattern.zm then .a2 else .a1 }, [])
  | false, true => ({ t with state := if t.pattern.zm then .b2 else .b1 }, [])
  | true, true => (t.toEmpty true, [.counterflow none])
  | false, false => (t, [])

/-- A1, and B1 in its mirror (R127); `old` is the pattern before the step. -/
def Tracker.fromFirst (t : Tracker) (sd : Side) (old : PerZone Bool) : Tracker × List Report :=
  let p := t.pattern
  if (p.far sd && !old.far sd) && !t.byFollower then (t.toEmpty true, [.counterflow (some sd)])
  else if p.zm then ({ t with state := trackerSecond sd }, [])
  else if !p.near sd then (t.toEmpty (p.far sd), [.backout sd])
  else (t, [])

/-- Follower behind is SET when the near zone became occupied in the step (R128, R129). -/
def Tracker.noteFollower (t : Tracker) (sd : Side) (old : PerZone Bool) : Tracker :=
  if t.pattern.near sd && !old.near sd then { t with behind := true } else t

/-- A2, and B2 in its mirror (R128). -/
def Tracker.fromSecond (t : Tracker) (sd : Side) (old : PerZone Bool) : Tracker × List Report :=
  let p := t.pattern
  if p.far sd && !old.far sd then
    if p.near sd && !t.behind && !t.byFollower then (t.toEmpty true, [.counterflow (some sd)])
    else ({ t with state := trackerThird sd }.noteFollower sd old, [])
  else if !p.zm && !p.far sd && p.near sd then ({ t with state := trackerFirst sd }, [])
  else if p.allClear then (t.toEmpty false, [.backout sd])
  else (t.noteFollower sd old, [])

/-- The tracker after a PASSAGE, going on "with the person behind, if there is one" (R129). -/
def Tracker.afterPassage (t : Tracker) (sd : Side) : Tracker × List Report :=
  let p := t.pattern
  let report := Report.passage sd t.byFollower t.behind
  let t := { t with byFollower := t.behind, behind := false }
  if p.zm then ({ t with state := trackerSecond sd }, [report])
  else if p.near sd then ({ t with state := trackerFirst sd }, [report])
  else if t.byFollower then (t.toEmpty (p.far sd), [report, .backout sd])
  else (t.toEmpty (p.far sd), [report])

/-- A3, and B3 in its mirror (R129). -/
def Tracker.fromThird (t : Tracker) (sd : Side) (old : PerZone Bool) : Tracker × List Report :=
  let p := t.pattern
  if old.far sd && !p.far sd then
    if !p.zm then t.afterPassage sd
    else if !old.zm && t.behind then t.afterPassage sd
    else ({ t with state := trackerSecond sd }, [])
  else (t.noteFollower sd old, [])

/-- One pattern change (R125): the tracker records the new pattern and makes its transition and reports. -/
def Tracker.patternChange (t : Tracker) (new : PerZone Bool) : Tracker × List Report :=
  let old := t.pattern
  let t := { t with pattern := new }
  if t.resync then ({ t with resync := !new.allClear }, [])
  else
    match t.state with
    | .empty => t.fromEmpty
    | .a1 => t.fromFirst .a old
    | .a2 => t.fromSecond .a old
    | .a3 => t.fromThird .a old
    | .b1 => t.fromFirst .b old
    | .b2 => t.fromSecond .b old
    | .b3 => t.fromThird .b old

end Sys2Proof.Machine
end

