-- ==== Sys2Proof/Machine/Barrier.lean ====
section
/-! DEFINITION. The passage controller: authorisation queues, the barrier, owner selection, passages and alarms, free-open and the orders from supervision (spec/07_barrier_and_passage_control.md). -/

namespace Sys2Proof.Machine

/-! Authorisations (R131 to R133). -/

/-- Whether a reservation counts: "HELD and WITHDRAWN both count as 1" (R131). -/
def Reservation.count : Reservation → Nat
  | .absent => 0
  | .held | .withdrawn _ => 1

/-- Authorisations held plus reservations of a side (R131). -/
def Gate.load (g : Gate) (sd : Side) : Nat :=
  (g.queues.get sd).length + (g.reservations.get sd).count

/-- A side's queue changed. -/
def State.setQueue (s : State) (sd : Side) (q : List Auth) : State :=
  { s with gate := { s.gate with queues := s.gate.queues.set sd q } }

/-- What is handed on when an authorisation expires or is cancelled: NOT_TAKEN to screening, a PASSAGE_NOT_TAKEN record and a PASSAGE
notice (R133; in that order, log 25). The report is made for every origin with a card ID (log 37). -/
def State.endUnused (s : State) (sd : Side) (x : Auth) (reason : NotTakenReason) : State :=
  let s := match x.card with
    | some card => s.reportPassage card .notTaken
    | none => s
  let s := s.appendUnreserved (some sd) (.passageNotTaken x.origin x.card x.seq x.granted reason)
  s.notify (.passage (match reason with | .expired => .expired | .cancelled => .cancelled) sd x.origin x.card x.seq)

/-- The authorisations of one queue handed on as cancelled, head first (R133). -/
def State.cancelList (s : State) (sd : Side) : List Auth → State
  | [] => s
  | x :: xs => (s.endUnused sd x .cancelled).cancelList sd xs

/-- A cancellation: every authorisation of both queues, side A's before side B's (R133). -/
def State.cancelAll (s : State) : State :=
  let qa := s.gate.queues.a
  let qb := s.gate.queues.b
  let s := { s with gate := { s.gate with queues := { a := [], b := [] } } }
  (s.cancelList .a qa).cancelList .b qb

/-- A HELD reservation becomes WITHDRAWN; "A WITHDRAWN reservation stays WITHDRAWN" (R132). -/
def Reservation.withdraw (c : WithdrawCause) : Reservation → Reservation
  | .held => .withdrawn c
  | .absent => .absent
  | .withdrawn d => .withdrawn d

/-- Every HELD reservation withdrawn (R132). -/
def State.withdrawAll (s : State) (c : WithdrawCause) : State :=
  { s with
    gate :=
      { s.gate with
        reservations := { a := s.gate.reservations.a.withdraw c, b := s.gate.reservations.b.withdraw c } } }

/-- How many reservations a withdrawal would withdraw. -/
def Gate.heldCount (g : Gate) : Nat :=
  (if g.reservations.a = .held then 1 else 0) + (if g.reservations.b = .held then 1 else 0)

/-! The barrier (R134 to R141). -/

/-- The drive command of a barrier state (R134's table); `cur` is the command in force, which HELD freezes. -/
def driveOf (b : BarrierState) (phase : Option ClosingPhase) (zm : Bool) (cur : Drive) : Drive :=
  match b with
  | .closed => .close
  | .opening | .opened | .freeOpen | .faultOpen => .open_
  | .closing =>
    match phase with
    | some .driving => .close
    | _ => .open_
  | .checking | .faultClosed => if zm then .stop else .close
  | .held => cur

/-- The barrier takes a state: its phase, owner and drive command follow, and the travel and close-delay timers stop. -/
def Gate.enter (g : Gate) (b : BarrierState) (phase : Option ClosingPhase) (owner : Option Side) : Gate :=
  { g with
    barrier := b, phase := phase, owner := owner, drive := driveOf b phase g.seen.zm g.drive, travel := none, closeDelay := none }

def State.enterBarrier (s : State) (b : BarrierState) (phase : Option ClosingPhase) (owner : Option Side) : State :=
  { s with gate := s.gate.enter b phase owner }

/-- The head of the owner's queue takes its passage deadline while the barrier is OPEN, if it has none (R137). -/
def Gate.headDeadline (g : Gate) : Gate :=
  match g.barrier, g.owner with
  | .opened, some sd =>
    match g.queues.get sd with
    | [] => g
    | x :: xs =>
      match x.deadline with
      | some _ => g
      | none => { g with queues := g.queues.set sd ({ x with deadline := some (g.windowS * secondMs) } :: xs) }
  | _, _ => g

/-- OPEN reached for an owner: the head takes its deadline (R136, R137). -/
def State.reachOpen (s : State) (sd : Side) : State :=
  { s with gate := (s.gate.enter .opened none (some sd)).headDeadline }

/-- OPENING for an owner: OPEN at once if OPEN_LIMIT is ACTIVE, else the travel timer starts (R136). -/
def State.beginOpening (s : State) (sd : Side) : State :=
  let s := s.enterBarrier .opening none (some sd)
  if s.aisle.active .openLimit then s.reachOpen sd else { s with gate := { s.gate with travel := some s.gate.travelMs } }

/-- Owner selection in CLOSED; a contested choice is decided by the direction table and moves the pointer (R141). -/
def State.selectOwner (s : State) : State :=
  match s.gate.queues.a, s.gate.queues.b with
  | [], [] => s
  | _ :: _, [] => s.beginOpening .a
  | [], _ :: _ => s.beginOpening .b
  | _ :: _, _ :: _ =>
    let sd := s.gate.directions.getD s.gate.pointer .a
    { s with gate := { s.gate with pointer := (s.gate.pointer + 1) % 16 } }.beginOpening sd

/-- The barrier enters CLOSED and an owner is selected (R139, R140, R141). -/
def State.reachClosed (s : State) : State :=
  (s.enterBarrier .closed none none).selectOwner

/-- CLOSING in phase DRIVING: CLOSED at once if CLOSED_LIMIT is ACTIVE (R136's handling, DEDUCED, log 12), else a timed travel (R139). -/
def State.beginDriving (s : State) : State :=
  let s := s.enterBarrier .closing (some .driving) none
  if s.aisle.active .closedLimit then s.reachClosed else { s with gate := { s.gate with travel := some s.gate.travelMs } }

/-- The limits prove the check: CLOSED_LIMIT ACTIVE and OPEN_LIMIT INACTIVE (R140). -/
def Aisle.checkOk (x : Aisle) : Bool :=
  x.active .closedLimit && !x.active .openLimit

/-- The check succeeds: barrier unverified becomes CLEAR and the barrier enters CLOSED (R140). -/
def State.checkSucceeds (s : State) : State :=
  { s with gate := { s.gate with unverified := false } }.reachClosed

/-- CHECKING entered: it succeeds at entry if the limits already read so, and otherwise the travel is timed while ZM is clear (R140). -/
def State.beginChecking (s : State) : State :=
  let s := s.enterBarrier .checking none none
  if s.aisle.checkOk then s.checkSucceeds
  else if s.gate.seen.zm then s
  else { s with gate := { s.gate with travel := some s.gate.travelMs } }

/-- Whether the close-delay timer is to run: in OPEN with the owner's queue empty and all zones clear (R138), in YIELDING with ZM clear,
in CLEARING with all zones clear (R139). -/
def Gate.delayRuns (g : Gate) : Bool :=
  match g.barrier with
  | .opened =>
    match g.owner with
    | some sd => (g.queues.get sd).isEmpty && g.seen.allClear
    | none => false
  | .closing =>
    match g.phase with
    | some (.yielding _) => !g.seen.zm
    | some .clearing => g.seen.allClear
    | _ => false
  | _ => false

/-- The length of the close delay: zero in the tailgate close (R145). -/
def Gate.delayMs (g : Gate) : Nat :=
  match g.phase with
  | some (.yielding true) => 0
  | _ => g.closeDelayMs

/-- The close delay expires: hand-over or DRIVING from OPEN (R138), DRIVING from YIELDING and CLEARING (R139). -/
def State.delayExpires (s : State) : State :=
  match s.gate.barrier, s.gate.owner with
  | .opened, some sd =>
    if (s.gate.queues.get sd.other).isEmpty then s.beginDriving
    else { s with gate := { s.gate with owner := some sd.other, closeDelay := none }.headDeadline }
  | _, _ => s.beginDriving

/-- The close-delay timer follows its condition: it starts when the condition comes to hold and stops when it ceases; "With a close delay
of 0 the expiry is at the moment the timer starts" (R138, R139). -/
def State.delayEval (s : State) : State :=
  if s.gate.delayRuns then
    match s.gate.closeDelay with
    | some _ => s
    | none => if s.gate.delayMs = 0 then s.delayExpires else { s with gate := { s.gate with closeDelay := some s.gate.delayMs } }
  else { s with gate := { s.gate with closeDelay := none } }

/-- An authorisation has joined a side's queue: owner selection in CLOSED, the head deadline in OPEN, a reopening in YIELDING or CLEARING;
elsewhere it waits (R132, R137 to R141). -/
def State.authJoined (s : State) (sd : Side) : State :=
  match s.gate.barrier with
  | .closed => s.selectOwner
  | .opened => { s with gate := s.gate.headDeadline }.delayEval
  | .closing => if s.gate.phase = some ClosingPhase.driving then s else s.beginOpening sd
  | _ => s

/-- An authorisation joins the end of a side's queue (R131, R132). -/
def State.join (s : State) (sd : Side) (x : Auth) : State :=
  (s.setQueue sd (s.gate.queues.get sd ++ [x])).authJoined sd

/-- Fill: a context turns its reservation into an authorisation, and the reply is the grant of its TAP_RESULT (R132, R46). -/
def State.fill (s : State) (sd : Side) (origin : AuthOrigin) (card : CardId) (seq : Option Nat) : State × Grant :=
  match s.gate.reservations.get sd with
  | .absent => (s, .none)
  | .withdrawn .freeOpen => (s.setReservation sd .absent, .discarded)
  | .withdrawn .holdOrFailClosed => (s.setReservation sd .absent, .cancelled)
  | .held =>
    ((s.setReservation sd .absent).join sd { origin := origin, card := some card, seq := seq, granted := s.now, deadline := none }, .queued)

/-! Limits and travel (R136, R139, R140). -/

/-- A filtered change of OPEN_LIMIT to its present state (R136, R140). -/
def State.openLimitChanged (s : State) : State :=
  match s.gate.barrier, s.gate.owner with
  | .opening, some sd => if s.aisle.active .openLimit ∧ s.gate.travel.isSome then (s.reachOpen sd).delayEval else s
  | .checking, _ => if s.aisle.checkOk ∧ (s.gate.travel.isSome ∨ s.gate.seen.zm) then s.checkSucceeds else s
  | _, _ => s

/-- A filtered change of CLOSED_LIMIT to its present state (R136, R139, R140). -/
def State.closedLimitChanged (s : State) : State :=
  match s.gate.barrier with
  | .closing =>
    if s.gate.phase = some ClosingPhase.driving ∧ s.aisle.active .closedLimit ∧ s.gate.travel.isSome then s.reachClosed else s
  | .checking => if s.aisle.checkOk ∧ (s.gate.travel.isSome ∨ s.gate.seen.zm) then s.checkSucceeds else s
  | _ => s

/-- The pattern that aisle sensing hands on: an obstruction makes DRIVING yield (R139), CHECKING and FAULT_CLOSED stop and drive with ZM
(R134, R140), and the close delay follows the zones (R138, R139). -/
def State.handPattern (s : State) (p : PerZone Bool) : State :=
  let was := s.gate.seen.zm
  let s := { s with gate := { s.gate with seen := p } }
  let s :=
    match s.gate.barrier with
    | .closing =>
      if s.gate.phase = some ClosingPhase.driving ∧ p.zm = true ∧ was = false then s.enterBarrier .closing (some (.yielding false)) none else s
    | .checking =>
      if p.zm = was then s
      else
        { s with
          gate := { s.gate with drive := if p.zm then .stop else .close, travel := if p.zm then none else some s.gate.travelMs } }
    | .faultClosed => { s with gate := { s.gate with drive := if p.zm then .stop else .close } }
    | _ => s
  s.delayEval

/-! Passages and alarms (R143 to R147). -/

/-- An alarm (R147): the alarm timers of the sides named start or restart, an ALARM record is appended, an ALARM notice is queued. -/
def State.raiseAlarm (s : State) (kind : AlarmKind) (namesA namesB : Bool) (direction : Option Side) : State :=
  let side : Option Side := if namesA && namesB then none else if namesA then some .a else some .b
  let s :=
    { s with
      gate :=
        { s.gate with
          alarms := { a := if namesA then some alarmMs else s.gate.alarms.a, b := if namesB then some alarmMs else s.gate.alarms.b } } }
  let s := s.appendUnreserved side (.alarm kind direction s.gate.owner namesA namesB)
  s.notify (.alarm kind direction s.gate.owner namesA namesB)

/-- An alarm named at one side. -/
def State.alarmAt (s : State) (kind : AlarmKind) (sd : Side) (direction : Option Side) : State :=
  s.raiseAlarm kind (decide (sd = .a)) (decide (sd = .b)) direction

/-- Consumption of the head of the owner's queue by a passage (R133, R144), in the order of log 25. The report is made for every origin with
a card ID (log 37). -/
def State.consume (s : State) (sd : Side) (follower behind : Bool) : State :=
  match s.gate.queues.get sd with
  | [] => s
  | x :: xs =>
    let s := s.setQueue sd xs
    let s := match x.card with
      | some card => s.reportPassage card .taken
      | none => s
    let s := if x.origin = .staff then s.appendUnreserved (some sd) (.staffPassage x.card sd) else s
    let s := s.notify (.passage (.consumed sd follower behind) sd x.origin x.card x.seq)
    { s with gate := s.gate.headDeadline }

/-- A TAILGATE alarm with its close: YIELDING with a wait of zero (R145). The alarm is raised before the close, so that its record and its
notice carry the owner from before it (DESIGN CHOICE, log 34). -/
def State.tailgate (s : State) (sd : Side) : State :=
  (s.alarmAt .tailgate sd (some sd)).enterBarrier .closing (some (.yielding true)) none

/-- A passage in an OPEN or OPENING barrier (R143); `sd` is the side at which it began, `o` the owner. -/
def State.openPassage (s : State) (o sd : Side) (follower behind : Bool) : State :=
  if sd ≠ o then s.alarmAt .wrongWay sd (some sd)
  else if (s.gate.queues.get o).isEmpty then
    if follower then s.tailgate sd else s.alarmAt .intrusion sd (some sd)
  else
    let forced := decide (s.gate.barrier = .opening)
    let s := s.consume o follower behind
    if forced then s.alarmAt .forced sd (some sd) else s

/-- A PASSAGE report taken according to the barrier state (R143's table). -/
def State.takePassage (s : State) (sd : Side) (follower behind : Bool) : State :=
  match s.gate.barrier, s.gate.owner with
  | .opened, some o => s.openPassage o sd follower behind
  | .opening, some o => s.openPassage o sd follower behind
  | .opened, none => s.alarmAt .intrusion sd (some sd)
  | .opening, none => s.alarmAt .intrusion sd (some sd)
  | .freeOpen, _ => { s with gate := { s.gate with freeCount := min 65535 (s.gate.freeCount + 1) } }
  | .faultOpen, _ => { s with gate := { s.gate with freeCount := min 65535 (s.gate.freeCount + 1) } }
  | .held, _ => s
  | .closed, _ => s.alarmAt .intrusion sd (some sd)
  | .closing, _ => s.alarmAt .intrusion sd (some sd)
  | .checking, _ => s.alarmAt .intrusion sd (some sd)
  | .faultClosed, _ => s.alarmAt .intrusion sd (some sd)

/-- A COUNTERFLOW report: WRONG_WAY when the barrier is OPENING or OPEN, at "the side opposite to the start of the tracked direction;
both sides when the report names no direction" (R146, R147). -/
def State.takeCounterflow (s : State) (start : Option Side) : State :=
  if s.gate.barrier = .opening ∨ s.gate.barrier = .opened then
    match start with
    | some sd => s.alarmAt .wrongWay sd.other (some sd)
    | none => s.raiseAlarm .wrongWay true true none
  else s

/-- A report of the tracker (R130); a BACKOUT "changes no queue and raises no alarm" (R146). -/
def State.takeReport (s : State) : Report → State
  | .passage sd follower behind => s.takePassage sd follower behind
  | .backout _ => s
  | .counterflow start => s.takeCounterflow start

/-! Free-open (R148 to R150). -/

/-- The network minute (R86). -/
def minuteOf (sec : Nat) : Nat :=
  sec / 60

/-- The free period record when the gate enters FREE_OPEN (R91). -/
def State.openPeriod (s : State) : State :=
  match s.now with
  | some t => { s with tariff := { s.tariff with period := some { start := minuteOf t, stop := none, origin := .local } } }
  | none => s

/-- The end of a LOCAL record whose end is absent, at a moment of the clock: not before its start, and removed if the clock is UNSET
(R90, R91). -/
def endPeriod (p : Option FreePeriod) (now : Option Nat) : Option FreePeriod :=
  match p with
  | none => none
  | some p =>
    if p.origin = .local ∧ p.stop = none then
      match now with
      | some t => some { p with stop := some (max p.start (minuteOf t)) }
      | none => none
    else some p

/-- The free period record when the gate leaves FREE_OPEN (R91). -/
def State.closePeriod (s : State) : State :=
  { s with tariff := { s.tariff with period := endPeriod s.tariff.period s.now } }

/-- Entering free-open for a reason (R149), after which each context learns of the change (R45). -/
def State.enterFreeOpen (s : State) (reason : FreeReason) : State :=
  let cancelled := s.gate.queues.a.length + s.gate.queues.b.length
  let withdrawn := s.gate.heldCount
  let s := s.cancelAll.withdrawAll .freeOpen
  let s := s.enterBarrier (if s.gate.unverified then .faultOpen else .freeOpen) none none
  let s := { s with gate := { s.gate with freeCount := 0 } }
  let s := s.openPeriod
  let s := s.appendUnreserved none (.freeOpenStart reason cancelled withdrawn)
  let s := s.notify (.freeOpenStart cancelled withdrawn)
  s.abortBoth .freeOpen

/-- The end of free-open (R150); the barrier takes the state of the next line of R135. -/
def State.endFreeOpen (s : State) : State :=
  let s := s.appendUnreserved none (.freeOpenEnd s.gate.freeCount)
  let s := s.closePeriod
  let s := s.notify (.freeOpenEnd s.gate.freeCount)
  if s.gate.holdOrder then s.enterBarrier .held none none
  else if s.gate.failClosedOrder then s.enterBarrier .faultClosed none none
  else if s.gate.barrier = .faultOpen then s.beginChecking
  else (s.enterBarrier .closing (some .clearing) none).delayEval

/-- Whether a set of reasons is not empty (R148). -/
def FreeReasons.any (r : FreeReasons) : Bool :=
  r.emergency || r.command || r.fault

/-- The set with a reason joined. -/
def FreeReasons.join (r : FreeReasons) : FreeReason → FreeReasons
  | .emergency => { r with emergency := true }
  | .command => { r with command := true }
  | .fault => { r with fault := true }

/-- The set without a reason. -/
def FreeReasons.leave (r : FreeReasons) : FreeReason → FreeReasons
  | .emergency => { r with emergency := false }
  | .command => { r with command := false }
  | .fault => { r with fault := false }

/-- The set of reasons becomes another: "When the set becomes non-empty from empty, the gate enters free-open by R149. When the set becomes
empty, free-open ends by R150" (R148). `reason` is the one that opens the gate. -/
def State.setReasons (s : State) (r : FreeReasons) (reason : FreeReason) : State :=
  let was := s.gate.reasons.any
  let s := { s with gate := { s.gate with reasons := r } }
  if !was && r.any then s.enterFreeOpen reason
  else if was && !r.any then s.endFreeOpen
  else s

/-- A reason joins the set. -/
def State.joinReason (s : State) (r : FreeReason) : State :=
  s.setReasons (s.gate.reasons.join r) r

/-- A reason leaves the set. -/
def State.leaveReason (s : State) (r : FreeReason) : State :=
  s.setReasons (s.gate.reasons.leave r) r

/-- The emergency input's filtered change (R148): without auto-resume its end leaves COMMAND in the set. -/
def State.emergencyChanged (s : State) : State :=
  if s.aisle.active .emergency then s.joinReason .emergency
  else if s.gate.reasons.emergency then
    if s.gate.autoResume then s.leaveReason .emergency
    else s.setReasons { s.gate.reasons with emergency := false, command := true } .command
  else s

/-! Orders from supervision (R151). -/

/-- The fail-closed order is given (R151): queues cancelled, reservations withdrawn, FAULT_CLOSED unless free-open or a hold governs, and
the transactions before their commit point end (R45, R156). The cancellations, with their records and notices, come before the ends of the
transactions, with their TAP_RESULTs: R149 gives this order for free-open alone (DESIGN CHOICE, log 34). -/
def State.giveFailClosed (s : State) : State :=
  let s := { s with gate := { s.gate with failClosedOrder := true } }
  let s := s.cancelAll.withdrawAll .holdOrFailClosed
  let s := if s.inFreeOpen ∨ s.gate.holdOrder then s else s.enterBarrier .faultClosed none none
  s.abortBoth .outOfService

/-- The fail-closed order is lifted: from FAULT_CLOSED the barrier enters CHECKING (R135, R151). -/
def State.liftFailClosed (s : State) : State :=
  let s := { s with gate := { s.gate with failClosedOrder := false } }
  if s.gate.barrier = .faultClosed then s.beginChecking else s

/-- The barrier hold is given (R151): as the fail-closed order, the order of cancellations and ends included (DESIGN CHOICE, log 34), but the
barrier enters HELD with its drive frozen. -/
def State.giveHold (s : State) : State :=
  let s := { s with gate := { s.gate with holdOrder := true } }
  let s := s.cancelAll.withdrawAll .holdOrFailClosed
  let s := if s.inFreeOpen then s else s.enterBarrier .held none none
  s.abortBoth .outOfService

/-- The barrier hold is lifted: from HELD the barrier enters FAULT_CLOSED or CHECKING (R135, R151). -/
def State.liftHold (s : State) : State :=
  let s := { s with gate := { s.gate with holdOrder := false } }
  if s.gate.barrier = .held then
    if s.gate.failClosedOrder then s.enterBarrier .faultClosed none none else s.beginChecking
  else s

end Sys2Proof.Machine
end

