-- ==== Sys2Proof/Machine/Supervise.lean ====
section
/-! DEFINITION. Supervision: raising and clearing fault classes, the stance and its orders, stuck zones, the filtered changes handed on, the holds and the lamps (spec/08_faults_service_hold_and_aisle_lamps.md, R121 to R123); and the clock's advance with the tariff swap (R78, R79, R85). -/

namespace Sys2Proof.Machine

/-! Orders and fault classes (R155, R156). -/

/-- Whether a RAISED class has a response: "in force while at least one RAISED class has the response" (R156). -/
def State.wants (s : State) (r : FaultResponse) : Bool :=
  (s.isRaised .barrier && decide (s.sup.barrierResponse = r)) || (s.isRaised .sensor && decide (s.sup.sensorResponse = r))

/-- The stance worked out again: each order that has changed is given or lifted (R156); the orders that begin are given before those that
end are lifted (DESIGN CHOICE, log 11). -/
def State.recompute (s : State) : State :=
  let free := s.wants .failFree
  let closed := s.wants .failClosed
  let s := if free && !s.gate.reasons.fault then s.joinReason .fault else s
  let s := if closed && !s.gate.failClosedOrder then s.giveFailClosed else s
  let s := if !closed && s.gate.failClosedOrder then s.liftFailClosed else s
  if !free && s.gate.reasons.fault then s.leaveReason .fault else s

/-- The raise of a class whose response is fixed, which changes no order (R155, R156). -/
def State.raisePlain (s : State) (c : FaultClass) : State :=
  if s.isRaised c then s else (s.setCond c true).faultNews c true

/-- The clear of a class whose response is fixed (R155). -/
def State.clearPlain (s : State) (c : FaultClass) : State :=
  if s.isRaised c then (s.setCond c false).faultNews c false else s

/-- The raise of BARRIER or SENSOR with the orders it changes (R155). -/
def State.raiseOrdered (s : State) (c : FaultClass) : State :=
  if s.isRaised c then s else ((s.setCond c true).recompute).faultNews c true

/-- The clear of BARRIER or SENSOR with the orders it changes (R155). -/
def State.clearOrdered (s : State) (c : FaultClass) : State :=
  if s.isRaised c then ((s.setCond c false).recompute).faultNews c false else s

/-- What a BARRIER fault does to the barrier before the order arrives: barrier unverified is SET, a travel stops (R136, R155), and
FREE_OPEN turns into FAULT_OPEN (R135). -/
def State.distrustBarrier (s : State) : State :=
  let s := { s with gate := { s.gate with unverified := true } }
  match s.gate.travel with
  | some _ => { s with gate := { s.gate with drive := .stop, travel := none } }
  | none => if s.gate.barrier = .freeOpen then s.enterBarrier .faultOpen none none else s

/-- The drive-fault line reports a fault: BARRIER is raised unless it is RAISED already or a barrier hold is in force (R155, R160). -/
def State.driveFaultActive (s : State) : State :=
  if s.sup.barrierHold || s.isRaised .barrier then s else s.distrustBarrier.raiseOrdered .barrier

/-- A travel that did not reach its limit in time (R136). -/
def State.travelFails (s : State) : State :=
  match s.gate.travel with
  | some _ => s.distrustBarrier.raiseOrdered .barrier
  | none => s

/-! Stuck zones (R122, R123). -/

/-- Whether any zone's mark is STUCK. -/
def Aisle.anyStuck (x : Aisle) : Bool :=
  x.stuck.za.stuck || x.stuck.zm.stuck || x.stuck.zb.stuck

/-- The stuck monitor of a zone changed. -/
def State.setStuck (s : State) (z : Zone) (m : StuckMonitor) : State :=
  { s with aisle := { s.aisle with stuck := s.aisle.stuck.set z m } }

/-- A zone's filtered change at the stuck monitor (R122); no timer starts while a barrier hold is in force (R123). -/
def State.stuckChange (s : State) (z : Zone) : State :=
  let m := s.aisle.stuck.get z
  if s.aisle.active z.input then s.setStuck z { m with timer := if s.sup.barrierHold then none else some stuckMs }
  else
    let t := s.setStuck z { timer := none, stuck := false }
    if m.stuck && !t.aisle.anyStuck then t.clearOrdered .sensor else t

/-- A zone's stuck timer expires: its mark becomes STUCK, the tracker is set to EMPTY with resync SET, and SENSOR is raised (R122), unless
a barrier hold suspends it (R160). -/
def State.stuckExpires (s : State) (z : Zone) : State :=
  match (s.aisle.stuck.get z).timer with
  | none => s
  | some _ =>
    let s := s.setStuck z { timer := none, stuck := true }
    let s := { s with aisle := { s.aisle with tracker := s.aisle.tracker.toEmpty true } }
    if s.sup.barrierHold then s else s.raiseOrdered .sensor

/-- Every running stuck timer stops (R123). -/
def Aisle.stopStuck (x : Aisle) : Aisle :=
  { x with
    stuck :=
      { za := { x.stuck.za with timer := none }, zm := { x.stuck.zm with timer := none }, zb := { x.stuck.zb with timer := none } } }

/-- A stuck timer starts afresh for each zone that is occupied (R122, R123). -/
def Aisle.startStuck (x : Aisle) : Aisle :=
  let t (z : Zone) : Timer := if x.active z.input then some stuckMs else none
  { x with
    stuck :=
      { za := { x.stuck.za with timer := t .za }, zm := { x.stuck.zm with timer := t .zm }, zb := { x.stuck.zb with timer := t .zb } } }

/-! Filtered changes (R119, R121, R125). -/

/-- The tracker's reports taken in order (R130). -/
def State.takeReports (s : State) : List Report → State
  | [] => s
  | r :: rs => (s.takeReport r).takeReports rs

/-- One pattern change: the tracker's transition, its reports, then the new pattern (R125, R130). -/
def State.patternChange (s : State) : State :=
  let new := s.aisle.zones
  let r := s.aisle.tracker.patternChange new
  let s := { s with aisle := { s.aisle with tracker := r.1 } }
  (s.takeReports r.2).handPattern new

/-- The zones of a list that have a debounce timer running settle, and each change goes to the stuck monitor. -/
def State.settleZones (s : State) : List Zone → State
  | [] => s
  | z :: zs =>
    match (s.aisle.filters.get z.input).debounce with
    | none => s.settleZones zs
    | some _ => ({ s with aisle := s.aisle.settle z.input }.stuckChange z).settleZones zs

/-- Whether a zone of a list has a debounce timer running. -/
def Aisle.debouncing (x : Aisle) (zs : List Zone) : Bool :=
  zs.any fun z => (x.filters.get z.input).debounce.isSome

/-- The zone changes that expire at one instant form one pattern change (R125). The stuck monitor is told before the tracker
(DESIGN CHOICE, log 26). -/
def State.zonesSettle (s : State) (zs : List Zone) : State :=
  if s.aisle.debouncing zs then (s.settleZones zs).patternChange else s

/-- The filtered change of an equipment input goes to the block that acts on it (R121). -/
def State.equipmentSettles (s : State) (i : Input) : State :=
  match (s.aisle.filters.get i).debounce with
  | none => s
  | some _ =>
    let s := { s with aisle := s.aisle.settle i }
    match i with
    | .openLimit => s.openLimitChanged
    | .closedLimit => s.closedLimitChanged
    | .driveFault => if s.aisle.active .driveFault then s.driveFaultActive else s
    | .emergency => s.emergencyChanged
    | .za | .zm | .zb => s

/-- A zone list from the flags of a debounce group, in the order ZA, ZM, ZB. -/
def zoneList (za zm zb : Bool) : List Zone :=
  (if za then [.za] else []) ++ (if zm then [.zm] else []) ++ (if zb then [.zb] else [])

/-! Service holds (R8, R159 to R161). -/

/-- Entering the barrier hold (R160). -/
def State.enterBarrierHold (s : State) : State :=
  let s := { s with sup := { s.sup with barrierHold := true } }
  let s := s.giveHold
  { s with aisle := s.aisle.stopStuck }

/-- Leaving the barrier hold (R160): detection resumes, stuck timers restart, then the barrier takes the state of R135. -/
def State.leaveBarrierHold (s : State) : State :=
  let s := { s with sup := { s.sup with barrierHold := false } }
  let s := if s.aisle.active .driveFault then s.driveFaultActive else s
  let s := { s with aisle := s.aisle.startStuck }
  s.liftHold

/-- Entering a reader hold (R8, R161): the link enters DOWN at once from SETTLING or SEARCHING, a transaction before its commit point ends
(R45), and one past it runs on to its PART. A side that was SETTLING, or without carrier (log 14), needs a settle when the hold ends. -/
def State.enterReaderHold (s : State) (sd : Side) : State :=
  let r := s.reader sd
  let s := { s with sup := { s.sup with readerHold := s.sup.readerHold.set sd true } }
  let s := s.setReader sd { r with needsSettle := decide (r.link = .settling) || !r.carrier }
  let s := if r.link = .settling ∨ r.link = .searching then s.linkDown sd else s
  s.abortTx sd .outOfService

/-- Leaving a reader hold (R8, R161). -/
def State.leaveReaderHold (s : State) (sd : Side) : State :=
  let r := s.reader sd
  let s := { s with sup := { s.sup with readerHold := s.sup.readerHold.set sd false } }
  let s := s.setReader sd { r with needsSettle := false }
  if r.link = .down ∧ r.carrier = true then
    if r.needsSettle then s.setReader sd (s.reader sd).beginSettling else s.linkSearching sd
  else s

/-! Lamps (R162, R163). -/

/-- Whether a lamp condition is active at a side (R162). -/
def State.lampActive (s : State) (sd : Side) : LampCond → Bool
  | .free => s.inFreeOpen
  | .outOfService => !s.inService sd || s.gate.failClosedOrder
  | .alarm => (s.gate.alarms.get sd).isSome
  | .refused => (s.sup.refusal.get sd).isSome
  | .retap => s.doubt.entries.any fun e => decide (e.side = sd)
  | .go => decide (s.gate.owner = some sd) && !(s.gate.queues.get sd).isEmpty
  | .idle => true

/-- The condition a lamp shows: "the active condition that stands highest in the order" (R163). -/
def State.lampShown (s : State) (sd : Side) : LampCond :=
  (s.sup.lampOrder.find? (s.lampActive sd)).getD .idle

/-- The output for a condition (R163). -/
def LampCond.output : LampCond → LampOutput
  | .free | .go => .green
  | .outOfService | .refused => .red
  | .alarm => .redFlashing
  | .retap => .amber
  | .idle => .white

/-- The output of a side's lamp. -/
def State.lamp (s : State) (sd : Side) : LampOutput :=
  (s.lampShown sd).output

/-- The stance of the gate: "The first of these that holds is reported" (R156). -/
def State.stance (s : State) : Stance :=
  if s.inFreeOpen then .freeOpen
  else if s.sup.barrierHold then .held
  else if s.gate.failClosedOrder then .failedClosed
  else .serving

/-! The swap and the clock's advance (R78, R79, R85). -/

/-- The current service day, known while the clock is RUNNING (R86). -/
def State.currentDay (s : State) : Option Nat :=
  s.now.map fun t => serviceDay s.boundary (minuteOf t)

/-- The swap condition (R78). -/
def State.swapDue (s : State) : Bool :=
  match s.tariff.activation with
  | none => false
  | some (_, day) =>
    decide (day = 0) ||
      match s.currentDay with
      | some d => decide (day ≤ d)
      | none => false

/-- The banks exchange roles, the activation becomes absent, and the STANDBY bank is pinned if a context holds its version (R79). -/
def State.exchangeBanks (s : State) : State :=
  { s with
    tariff :=
      { s.tariff with
        active := s.tariff.standby, standby := s.tariff.active, activation := none
        pinned := s.ctxs.a.holdsVersion s.tariff.active.version || s.ctxs.b.holdsVersion s.tariff.active.version } }

/-- The swap, "as one event" (R79). -/
def State.swap (s : State) (version day : Nat) : State :=
  let was := s.tariffActive
  let previous := s.activeVersion
  let s := s.exchangeBanks
  let s := s.appendUnreserved none (.tariffActivated version previous day)
  if was then s else s.clearPlain .tariff

/-- The swap condition tested, and the swap made if it holds (R78). -/
def State.swapTest (s : State) : State :=
  match s.tariff.activation with
  | none => s
  | some (version, day) => if s.swapDue then s.swap version day else s

/-- A minute step at a network second (R85): the swap test, then a changed horizon comes into force (R109), and the expired hold list
entries and the sightings older than the horizon go. -/
def State.minuteStep (s : State) (now : Nat) : State :=
  let s := s.swapTest
  { s with screen := (s.screen.applyHorizon.pruneHolds now).pruneSightings now }

/-- The clock holds a network second and its next advance is one full second of the tick away (R85, R88). -/
def State.setClock (s : State) (t : Option Nat) : State :=
  { s with tariff := { s.tariff with clock := t, toAdvance := secondMs } }

/-- One second of the tick at the clock (R85). -/
def State.advanceClock (s : State) : State :=
  match s.now with
  | none => s
  | some t =>
    if t = lastSecond then (s.setClock none).raisePlain .clock
    else if (t + 1) % 60 = 0 then (s.setClock (some (t + 1))).minuteStep (t + 1)
    else s.setClock (some (t + 1))

end Sys2Proof.Machine
end

