-- ==== Sys2Proof/Machine/Engine.lean ====
section
/-! DEFINITION. The transaction engine: from the hail to the finish of a tap, and the in-doubt table (spec/02_the_card_transaction.md), with the reader events that drive it (spec/01_readers_and_the_card_link.md). -/

namespace Sys2Proof.Machine

/-! Starting a transaction (R23 to R26). -/

/-- A refusal made without a claim: the refused lamp, the TAP_RESULT and the same-card hold (R6, R23, R25). -/
def State.refuseHail (s : State) (sd : Side) (card : CardId) (o : TapOutcome) (reason : Option CloneReason) (tariff : Option Nat) : State :=
  let s := s.handRefusal sd
  let s :=
    s.notify (.tapResult
      { side := sd, outcome := o, card := some card, reason := reason, capture := none, grant := .none, charge := none, tariff := tariff })
  s.setReader sd ((s.reader sd).setHold card)

/-- The states in which a context is serving a card (R25). -/
def CtxState.serving : CtxState → Bool
  | .claiming | .reading | .screening | .pricing | .writing | .marking | .finishing => true
  | .polling | .holdoff | .outOfService => false

/-- Whether a context is serving a card ID (R25). -/
def Context.serves (c : Context) (card : CardId) : Bool :=
  c.state.serving &&
    match c.tx with
    | some t => decide (t.card = card)
    | none => false

/-- The fields of a transaction at its claim (R21, R24, R27). -/
def Transaction.begin (card : CardId) (instant tariff : Nat) (keys : KeyTable) (mark : DenyMark) : Transaction :=
  { card := card, instant := instant, tariff := tariff, keys := some keys, mark := some mark, journalHeld := true, area := none,
    blocked := false, slot0 := none, slot1 := none, current := none, product := none, attached := none, intended := none, fare := none,
    verdict := none, guard := some guardMs, waitsForSwap := false }

/-- The start of a transaction and its claim, both reservations being held (R24, R25, R27). -/
def State.startTx (s : State) (sd : Side) (card : CardId) (instant : Nat) : State :=
  let version := s.tariff.active.version.getD 0
  if (s.ctx sd.other).serves card then
    ((s.setReservation sd .absent).unreserve).refuseHail sd card .cloneSuspect (some .bothSides) (some version)
  else
    let s :=
      s.setCtx sd { state := .claiming, tx := some (.begin card instant version s.tariff.keys s.screen.markNow) }
    s.setReader sd ((s.reader sd).claim card)

/-- Checks 5 and 6 with their reservations, then the start (R23, R24). -/
def State.reserveAndStart (s : State) (sd : Side) (card : CardId) (instant : Nat) : State :=
  if 4 ≤ s.gate.load sd then s.refuseHail sd card .sideFull none none
  else
    let s := s.setReservation sd .held
    if s.canReserve then s.reserve.startTx sd card instant
    else (s.setReservation sd .absent).refuseHail sd card .journalFull none none

/-- Checks 3 to 6, after any swap that is due (R23, R24). -/
def State.openTap (s : State) (sd : Side) (card : CardId) : State :=
  let s := s.swapTest
  if s.tariffActive then
    match s.now with
    | none => s.refuseHail sd card .clockUnset none none
    | some t => s.reserveAndStart sd card t
  else s.refuseHail sd card .noTariff none none

/-- A hail event at a context in POLLING: the six checks of R23 in their order. -/
def State.hailEvent (s : State) (sd : Side) (card : CardId) : State :=
  if s.inService sd then
    if s.inFreeOpen then s.refuseHail sd card .freeOpen none none else s.openTap sd card
  else s.refuseHail sd card .outOfService none none

/-- A collision at the side and at its context (R5, R26). A context that is not in POLLING, whose side searches again while it still
screens or prices, takes no notice of the event; the side's holdoff runs (DESIGN CHOICE, log 38). -/
def State.collide (s : State) (sd : Side) : State :=
  let s := s.setReader sd { (s.reader sd).heard.restartHold with holdoff := some holdoffMs }
  if (s.ctx sd).state = .polling then
    let s := s.handRefusal sd
    let s :=
      s.notify (.tapResult
        { side := sd, outcome := .multipleCards, card := none, reason := none, capture := none, grant := .none, charge := none,
          tariff := none })
    s.setCtxState sd .holdoff
  else s

/-- One card heard alone: a held card restarts its absence timer, another is handed to the context (R4, R6). A context that is not in
POLLING, whose side searches again while it still screens or prices, takes no notice of the event (DESIGN CHOICE, log 38). -/
def State.oneCard (s : State) (sd : Side) (card : CardId) : State :=
  let r := (s.reader sd).heard
  if r.hold.map (·.card) = some card then s.setReader sd r.restartHold
  else
    let s := s.setReader sd r
    if (s.ctx sd).state = .polling then s.hailEvent sd card else s

/-- The judgment of a hail window at its close (R4). -/
def State.judgeWindow (s : State) (sd : Side) (w : HailWindow) : State :=
  if w.garbled then s.collide sd
  else
    match w.ids with
    | [] => s
    | card :: rest => if rest.all (· = card) then s.oneCard sd card else s.collide sd

/-! Finishing work (R30 to R36). -/

/-- The slot's contents as read. -/
def Transaction.rawSlot (t : Transaction) : SlotNo → Option RawRecord
  | .zero => t.slot0
  | .one => t.slot1

/-- The record that a slot holds, if its contents decode (R18). -/
def Transaction.slotRecord (t : Transaction) (n : SlotNo) : Option CardRecord :=
  (t.rawSlot n).bind RawRecord.decode

/-- The record of the current slot (R20). -/
def Transaction.currentRecord (t : Transaction) : Option CardRecord :=
  t.current.bind t.slotRecord

/-- The key that the context's key copy holds for the card's key version (R19 step 1); a version above 7 names no slot (log 16). -/
def Transaction.key (t : Transaction) : Option Key :=
  match t.keys, t.area with
  | some keys, some area => (keys.getD area.keyVersion.toNat none)
  | _, _ => none

/-- The counter a CLONE_CAPTURE record carries: "counter of the current slot, or for SLOT_CONFLICT the counter that both slots hold"
(R167). -/
def Transaction.captureCounter (t : Transaction) : Nat :=
  match t.currentRecord, t.slotRecord .zero with
  | some r, _ => r.counter
  | none, some r => r.counter
  | none, none => 0

/-- The end of MARKING: the CLONE_CAPTURE record, the hold list, and FINISHING with the outcome fixed before (R31). HOLD_ADDED is queued
before TAP_RESULT (DESIGN CHOICE, log 34). -/
def State.finishMark (s : State) (sd : Side) (capture : CaptureResult) : State :=
  match (s.ctx sd).tx with
  | none => s
  | some t =>
    match t.verdict with
    | none => s
    | some (o, reason) =>
      let s :=
        s.appendReserved (some t.instant) (some sd) (.cloneCapture t.card t.captureCounter o reason capture t.tariff)
      let s := s.mapTx sd fun t => { t with journalHeld := false }
      let s := s.captureHold t.card t.instant capture
      s.finishTx sd { outcome := o, reason := reason, capture := some capture }

/-- The result CARD_LOST reaches the engine (R14, R27, R31, R36). In WRITING the entry stays, and one whose deadline has gone by expires
now (R39, log 24). -/
def State.cardLost (s : State) (sd : Side) : State :=
  match (s.ctx sd).state, (s.ctx sd).tx with
  | .writing, some t => (s.detach t.card).finishTx sd { outcome := .retap }
  | .marking, some _ => s.finishMark sd .failed
  | .claiming, some _ => s.finishTx sd { outcome := .cardLost }
  | .reading, some _ => s.finishTx sd { outcome := .cardLost }
  | .screening, some _ => s.finishTx sd { outcome := .cardLost }
  | .pricing, some _ => s.finishTx sd { outcome := .cardLost }
  | _, _ => s

/-- The engine asks its side for a link operation (R15): the frame is sent on a BOUND link, and a side that is DOWN answers CARD_LOST
(R7, log 15). -/
def State.ask (s : State) (sd : Side) (f : LinkFrame) : State :=
  if (s.reader sd).link = .bound then s.setReader sd ((s.reader sd).send f) else s.cardLost sd

/-- MARKING entered: the outcome is fixed, the guard stops, the mark closes, and MARK is asked for (R29, R31, R103). -/
def State.enterMarking (s : State) (sd : Side) (o : TapOutcome) (reason : Option CloneReason) : State :=
  let s := s.mapTx sd fun t => { t with verdict := some (o, reason), mark := none, guard := none, waitsForSwap := false }
  let s := (s.setCtxState sd .marking).releasePin
  s.ask sd (.mark (s.reader sd).turn)

/-- A capture verdict (R31): MARKING if capture is enabled, else the refusal. -/
def State.captureVerdict (s : State) (sd : Side) (o : TapOutcome) (reason : Option CloneReason) : State :=
  if s.screen.capture then s.enterMarking sd o reason else s.finishTx sd { outcome := o, reason := reason }

/-- The STORE is sent: WRITING, with the guard stopped (R34, R41). -/
def State.enterWriting (s : State) (sd : Side) (target : SlotNo) (record : CardRecord) : State :=
  let s := s.mapTx sd fun t => { t with guard := none, mark := none }
  let s := (s.setCtxState sd .writing).releasePin
  s.ask sd (.store (s.reader sd).turn target record)

/-- The first two checks of R34: the outcome that forbids a STORE, if one does. -/
def State.storeForbidden (s : State) (sd : Side) : Option TapOutcome :=
  if s.inFreeOpen then some .freeOpen
  else if s.gate.barrier = .held ∨ s.inService sd = false then some .outOfService
  else none

/-- What a commit hands to the screening unit (R35 step 4, R110), under this gate's identity. -/
def State.commitOf (s : State) (t : Transaction) (f : FareRecord) (g : Grant) : Commit :=
  { card := t.card, counter := f.counterAfter, purse := f.purseAfter, kind := f.side.tapKind, second := t.instant,
    station := s.port.station, gate := s.port.gateNo, passage := if g = .queued then .pending else .notTaken }

/-- The finishing work of a completed write, in the order of R35: the entry goes, the fare record is appended from its reservation, the
authorisation is filled, the commit is recorded with SIGHTING_OUT, and the TAP_RESULT and PART follow. -/
def State.settleWrite (s : State) (sd : Side) (f : FareRecord) (o : TapOutcome) : State :=
  match (s.ctx sd).tx with
  | none => s
  | some t =>
    let s := s.removeEntry t.card
    let seq := s.journal.next
    let s := s.appendReserved (some f.instant) (some f.side) (.fare f)
    let g := s.fill sd .card t.card (some seq)
    let s := g.1.recordCommit (g.1.commitOf t f g.2)
    s.finishTx sd { outcome := o, grant := g.2, charge := some { charge := f.charge, purse := f.purseAfter, seq := seq } }

/-- The staff grant (R32, R71): an authorisation of origin STAFF without a write. -/
def State.grantStaff (s : State) (sd : Side) : State :=
  match (s.ctx sd).tx with
  | none => s
  | some t =>
    let g := s.fill sd .staff t.card none
    g.1.finishTx sd { outcome := .accepted, grant := g.2 }

/-- The grant of a REPEAT (R32): an authorisation of origin REPEAT without a write; the sighting takes it up unless the grant was withdrawn
(R46, R112), before the TAP_RESULT (log 34). -/
def State.grantRepeat (s : State) (sd : Side) (expired : Bool) (r : CardRecord) : State :=
  match (s.ctx sd).tx with
  | none => s
  | some t =>
    let g := s.fill sd .repeat t.card none
    let s := if g.2 = .queued then g.1.repeatGranted t.card expired r.counter r.purse else g.1
    s.finishTx sd { outcome := .repeated, grant := g.2 }

/-! Resolution of an in-doubt entry (R39 to R42). -/

/-- How the card is judged against its entry. -/
inductive Judgment where
  | written
  | rewrite
  | superseded
deriving DecidableEq, Repr

/-- The judgment (R40, R41, R42): `current` and `record` are the slot that R20 chose and its record, `target` is what the entry's target
slot holds. -/
def judgeEntry (e : InDoubt) (current : SlotNo) (record : CardRecord) (target : Option CardRecord) : Judgment :=
  if current = e.target then
    if record.counter = e.oldCounter + 1 ∧ record = e.record then .written else .superseded
  else if record.counter = e.oldCounter ∧ target ≠ some e.record then .rewrite
  else .superseded

/-- A superseded write: the entry goes with its record, and the tap goes on as a fresh transaction with a fresh journal reservation
(R42). The record's second is the instant of the tap that judged it (R166, log 20). -/
def State.supersede (s : State) (sd : Side) (e : InDoubt) (instant found : Nat) : State :=
  let s := s.removeEntry e.card
  let s :=
    s.appendReserved (some instant) (some e.side)
      (.inDoubtSuperseded e.card e.oldCounter e.record e.fare.kind e.fare.charge e.tariff found)
  let s := s.mapTx sd fun t => { t with attached := none }
  if s.canReserve then s.reserve.mapTx sd fun t => { t with journalHeld := true }
  else s.finishTx sd { outcome := .journalFull }

/-- The rewrite: "the intended record again to the entry's target slot, unchanged", under the checks of R34 except the table check (R41). -/
def State.rewrite (s : State) (sd : Side) (e : InDoubt) : State :=
  match s.storeForbidden sd with
  | some o => s.finishTx sd { outcome := o }
  | none => (s.mapTx sd fun t => { t with intended := some e.record, fare := some e.fare }).enterWriting sd e.target e.record

/-- A resolution: the entry is attached, the context gives up its own journal reservation, and the card is judged (R39). -/
def State.resolve (s : State) (sd : Side) (e : InDoubt) (t : Transaction) (current : SlotNo) (record : CardRecord) : State :=
  let s := s.mapEntry e.card fun e => { e with attached := true }
  let s := (if t.journalHeld then s.unreserve else s).mapTx sd fun t => { t with attached := some e.card, journalHeld := false }
  match judgeEntry e current record (t.slotRecord e.target) with
  | .written => s.settleWrite sd e.fare .resolved
  | .rewrite => s.rewrite sd e
  | .superseded => s.supersede sd e t.instant record.counter

/-- SCREENING entered: step 1, the in-doubt table, is made at once (R30, R39); the other steps await the SCREENING event. -/
def State.enterScreening (s : State) (sd : Side) : State :=
  let s := s.setCtxState sd .screening
  match (s.ctx sd).tx with
  | none => s
  | some t =>
    match s.entryOf t.card, t.current, t.currentRecord with
    | some e, some current, some record =>
      if e.side = sd then s.resolve sd e t current record else s.finishTx sd { outcome := .inDoubtOtherSide }
    | _, _, _ => s

/-! The card checks (R19, R20, R28). -/

/-- The result of R20's choice. -/
inductive SlotChoice where
  | neither
  | conflict
  | current (n : SlotNo) (record : CardRecord)
deriving DecidableEq, Repr

/-- The current slot, from the records of the slots that verify (R20). -/
def chooseSlot : Option CardRecord → Option CardRecord → SlotChoice
  | none, none => .neither
  | some r, none => .current .zero r
  | none, some r => .current .one r
  | some x, some y =>
    if y.counter < x.counter then .current .zero x
    else if x.counter < y.counter then .current .one y
    else if x = y then .current .zero x
    else .conflict

/-- The record of a slot that verifies: it decodes and its check code is the computed one (R19 step 3, R188). -/
def verifiedSlot (key : Key) (card : CardId) (w : Option RawRecord) : Option CardRecord :=
  match w.bind RawRecord.decode with
  | some r => if Config.checkFn key card r.protectedBytes = r.code then some r else none
  | none => none

/-- The direction check: the outcome that refuses the tap under an aisle mode, if one does (R28). -/
def directionRefusal (mode : AisleMode) (kind : ProductKind) (sd : Side) : Option TapOutcome :=
  if kind = .staff then none
  else
    match mode, sd with
    | .closed, _ => some .stationClosed
    | .entryOnly, .b => some .directionClosed
    | .exitOnly, .a => some .directionClosed
    | .entryOnly, .a => none
    | .exitOnly, .b => none
    | .bidirectional, _ => none

/-- The product and direction checks, then SCREENING (R28). -/
def State.checkProduct (s : State) (sd : Side) (t : Transaction) (area : StaticArea) : State :=
  let product := (s.bankOf t.tariff).productFor area.productCode.toNat
  if product.1 = .unmapped then s.finishTx sd { outcome := .productUnknown }
  else
    let s := s.mapTx sd fun t => { t with product := some product }
    match directionRefusal s.gate.mode product.1 sd with
    | some o => s.finishTx sd { outcome := o }
    | none => s.enterScreening sd

/-- The verification of a card whose two slots have arrived (R19, R20, R27). -/
def State.verify (s : State) (sd : Side) : State :=
  match (s.ctx sd).tx with
  | none => s
  | some t =>
    match t.area with
    | none => s
    | some area =>
      match t.key with
      | none => s.finishTx sd { outcome := .keyUnknown }
      | some key =>
        if Config.checkFn key t.card area.protectedBytes = area.code then
          match chooseSlot (verifiedSlot key t.card t.slot0) (verifiedSlot key t.card t.slot1) with
          | .neither => s.finishTx sd { outcome := .checkFailed }
          | .conflict => s.captureVerdict sd .cloneSuspect (some .slotConflict)
          | .current n _ =>
            let s := s.mapTx sd fun t => { t with current := some n }
            s.checkProduct sd t area
        else s.finishTx sd { outcome := .checkFailed }

/-! Screening and pricing (R30, R33, R49, R93). -/

/-- PRICING entered with its request to the calculator; the mark closes (R30, R49, R103). -/
def State.enterPricing (s : State) (sd : Side) : State :=
  ((s.mapTx sd fun t => { t with mark := none, waitsForSwap := false }).setCtxState sd .pricing).askPricing sd

/-- A verdict of the screening unit acted on (R30). -/
def State.actOnVerdict (s : State) (sd : Side) (r : CardRecord) : Verdict → State
  | .serve => s.enterPricing sd
  | .refuse o => s.finishTx sd { outcome := o }
  | .capture o reason => s.captureVerdict sd o reason
  | .repeated expired => s.grantRepeat sd expired r

/-- Steps 2 to 6 made for a context (R93, R94). -/
def State.judgeCard (s : State) (sd : Side) (t : Transaction) (r : CardRecord) (mark : DenyMark) : State :=
  let v :=
    screenCard s.screen s.port.station t.card r t.blocked sd.tapKind t.instant mark.arrival (s.bankOf t.tariff).ruleSet.reentryGrace
  ({ s with screen := s.screen.noteVerdict t.card v }).actOnVerdict sd r v

/-- The screening of a side's card as one event. A STAFF card skips steps 2 to 6 (R93); a card that is not held waits for the swap while
its mark is flagged "after the swap" (R106). -/
def State.screen1 (s : State) (sd : Side) : State :=
  match (s.ctx sd).tx with
  | none => s
  | some t =>
    match t.product, t.currentRecord, t.mark with
    | some product, some r, some mark =>
      if product.1 = .staff then s.enterPricing sd
      else if mark.afterSwap = true ∧ s.screen.isHeld t.card t.instant = false then
        s.mapTx sd fun t => { t with waitsForSwap := true }
      else s.judgeCard sd t r mark
    | _, _, _ => s

/-- The screening event (R94): it is taken once, and not again while the lookup waits for the swap (R106). -/
def State.screenEvent (s : State) (sd : Side) : State :=
  if (s.ctx sd).state = .screening ∧ (s.ctx sd).tx.any (fun t => !t.waitsForSwap) = true then s.screen1 sd else s

/-- A lookup that waited for the swap, made against the new list (R106, log 27). -/
def State.screenWaiting (s : State) (sd : Side) : State :=
  if (s.ctx sd).state = .screening ∧ (s.ctx sd).tx.any (fun t => t.waitsForSwap) = true then
    (s.mapTx sd fun t => { t with waitsForSwap := false }).screen1 sd
  else s

/-- The marks flagged "after the swap" become ordinary marks (R106). -/
def State.ordinaryMark (s : State) (sd : Side) : State :=
  s.mapTx sd fun t => { t with mark := t.mark.map fun m => { m with afterSwap := false } }

/-- The commit point (R34): the three checks, the in-doubt entry (R38), the alternate counter (R111) and the STORE. -/
def State.commitPoint (s : State) (sd : Side) (t : Transaction) (record : CardRecord) (f : FareRecord) (target : SlotNo) : State :=
  match s.storeForbidden sd with
  | some o => s.finishTx sd { outcome := o }
  | none =>
    if 4 ≤ s.doubt.entries.length then s.finishTx sd { outcome := .inDoubtFull }
    else
      let e : InDoubt :=
        { card := t.card, side := sd, oldCounter := f.counterBefore, target := target, record := record, fare := f, tariff := t.tariff,
          deadline := some (s.doubt.periodS * secondMs), passed := false, attached := false }
      let s := { s with doubt := { s.doubt with entries := s.doubt.entries ++ [e] } }
      let s := s.mapTx sd fun t => { t with journalHeld := false }
      let s := s.setAlternate t.card (f.counterBefore + 1)
      s.enterWriting sd target record

/-- The pricing request of a context (R33). -/
def State.pricingRequest (s : State) (sd : Side) (t : Transaction) : Option PricingRequest :=
  match t.currentRecord, t.area, t.product with
  | some r, some area, some product =>
    some
      { card := t.card, record := r, area := area, kind := product.1, profile := product.2, side := sd, station := s.port.station,
        instant := t.instant, tariff := t.tariff }
  | _, _, _ => none

/-- A result of the calculator acted on (R33). -/
def State.actOnPrice (s : State) (sd : Side) (t : Transaction) : PricingResult → State
  | .refuse o => s.finishTx sd { outcome := o }
  | .staff => s.grantStaff sd
  | .write record f =>
    match t.key, t.current with
    | some key, some current =>
      let record := { record with code := Config.checkFn key t.card record.protectedBytes }
      let s := s.mapTx sd fun t => { t with intended := some record, fare := some f, keys := none }
      s.commitPoint sd t record f current.other
    | _, _ => s

/-- The end of the pricing in progress (R49): its result, and then a request that waits is taken. -/
def State.pricingEnds (s : State) : State :=
  match s.fares.current with
  | none => s
  | some p =>
    let s := { s with fares := { s.fares with current := none } }
    match (s.ctx p.side).tx with
    | none => s.takeWaiting
    | some t =>
      match s.pricingRequest p.side t with
      | none => s.takeWaiting
      | some q => (s.actOnPrice p.side t (price q (s.bankOf t.tariff) p.period)).takeWaiting

/-! Answers from the card (R11 to R15). -/

/-- The frame whose answer is awaited, while an exchange is in progress (R13). -/
def Reader.awaited (r : Reader) : Option LinkFrame :=
  r.exchange.map (·.frame)

/-- An answer while a hail window is open is garbled unless it is a HAIL (R4, log 13). -/
def Reader.strayAnswer (r : Reader) : Reader :=
  { r with window := r.window.map fun w => { w with garbled := true } }

/-- CLAIMED taken (R11, R27). -/
def State.claimAnswered (s : State) (sd : Side) (area : StaticArea) (blocked : Bool) : State :=
  let s := s.setReader sd { s.reader sd with exchange := none, turn := false }
  let s := (s.mapTx sd fun t => { t with area := some area, blocked := blocked }).setCtxState sd .reading
  s.ask sd (.fetch (s.reader sd).turn .zero)

/-- SLOT taken (R15, R27): slot 0 leads to the fetch of slot 1, slot 1 to the verification. -/
def State.slotAnswered (s : State) (sd : Side) (no : SlotNo) (contents : RawRecord) : State :=
  let s := s.setReader sd (s.reader sd).endExchange
  match no with
  | .zero => (s.mapTx sd fun t => { t with slot0 := some contents }).ask sd (.fetch (s.reader sd).turn .one)
  | .one => (s.mapTx sd fun t => { t with slot1 := some contents }).verify sd

/-- DONE taken (R15): it completes the write (R35) or the capture (R31). -/
def State.doneAnswered (s : State) (sd : Side) : State :=
  let s := s.setReader sd (s.reader sd).endExchange
  match (s.ctx sd).state, (s.ctx sd).tx with
  | .writing, some t =>
    match t.fare with
    | some f => s.settleWrite sd f (if t.attached.isSome then .resolved else .accepted)
    | none => s
  | .marking, some _ => s.finishMark sd .done
  | _, _ => s

/-- A CLAIMED arrives: valid by R13, garbled in a hail window, else ignored. -/
def State.claimedArrives (s : State) (sd : Side) (frameOk : Bool) (area : StaticArea) (blocked : Bool) : State :=
  match (s.reader sd).awaited with
  | some (.claim _) => if frameOk then s.claimAnswered sd area blocked else s
  | _ => s.setReader sd (s.reader sd).strayAnswer

/-- A SLOT arrives: valid by R13, garbled in a hail window, else ignored. -/
def State.slotArrives (s : State) (sd : Side) (frameOk turn : Bool) (no : SlotNo) (contents : RawRecord) : State :=
  match (s.reader sd).awaited with
  | some (.fetch turn' no') => if frameOk = true ∧ turn = turn' ∧ no = no' then s.slotAnswered sd no contents else s
  | _ => s.setReader sd (s.reader sd).strayAnswer

/-- A DONE arrives: valid by R13, garbled in a hail window, else ignored. -/
def State.doneArrives (s : State) (sd : Side) (frameOk turn : Bool) : State :=
  match (s.reader sd).awaited with
  | some (.store turn' _ _) => if frameOk = true ∧ turn = turn' then s.doneAnswered sd else s
  | some (.mark turn') => if frameOk = true ∧ turn = turn' then s.doneAnswered sd else s
  | _ => s.setReader sd (s.reader sd).strayAnswer

/-! Timers of the readers and the engine. -/

/-- The settle timer expires (R2). -/
def State.settleExpires (s : State) (sd : Side) : State :=
  match (s.reader sd).settle with
  | none => s
  | some _ => s.linkSearching sd

/-- The summons timer expires: the next summons is sent, but not while the holdoff timer runs (R3, R5). -/
def State.summonsExpires (s : State) (sd : Side) : State :=
  let r := s.reader sd
  match r.summons with
  | none => s
  | some _ =>
    if r.link = .searching ∧ r.holdoff.isNone = true then s.setReader sd r.sendSummon
    else s.setReader sd { r with summons := none }

/-- The idle timer expires (R3). -/
def State.idleExpires (s : State) (sd : Side) : State :=
  let r := s.reader sd
  match r.idle with
  | none => s
  | some _ => s.setReader sd { r with idle := none, cadence := if s.gate.mode = .closed then .quiet else .idle }

/-- The holdoff timer expires: a summons at once with the ACTIVE interval (R5), and the context returns to POLLING (R26). -/
def State.holdoffExpires (s : State) (sd : Side) : State :=
  let r := s.reader sd
  match r.holdoff with
  | none => s
  | some _ =>
    let s := s.setReader sd { { r with holdoff := none }.sendSummon with summons := some Cadence.active.interval }
    if (s.ctx sd).state = .holdoff then s.setCtxState sd .polling else s

/-- The absence timer of the same-card hold expires (R6). -/
def State.holdExpires (s : State) (sd : Side) : State :=
  s.setReader sd { s.reader sd with hold := none }

/-- Carrier is lost (R7, R155): a carrier that is already absent is not lost again. Where an exchange is in progress, supervision's FAULT
record and notice come before what CARD_LOST makes of the context: its TAP_RESULT, and in MARKING CLONE_CAPTURE and HOLD_ADDED. R7 and R177
leave this order open (DESIGN CHOICE, log 34). -/
def State.carrierLost (s : State) (sd : Side) : State :=
  let r := s.reader sd
  if r.carrier then
    let s := s.setReader sd { r with carrier := false, needsSettle := s.sup.readerHold.get sd }
    let s := (s.linkDown sd).raisePlain sd.readerClass
    if r.exchange.isSome then s.cardLost sd else s
  else s

/-- Carrier returns (R7, R8). -/
def State.carrierReturns (s : State) (sd : Side) : State :=
  let r := s.reader sd
  if r.carrier then s
  else
    let s := (s.setReader sd { r with carrier := true }).clearPlain sd.readerClass
    if s.sup.readerHold.get sd then s else s.setReader sd (s.reader sd).beginSettling

/-- The answer timer expires: the same frame again, or after the third attempt PART and CARD_LOST (R14). -/
def State.answerExpires (s : State) (sd : Side) : State :=
  let r := s.reader sd
  match r.exchange with
  | none => s
  | some x =>
    if x.attempt < 3 then
      s.setReader sd { r with exchange := some { x with attempt := x.attempt + 1, answer := some answerMs }, lastFrame := some x.frame }
    else (s.setReader sd (r.part (s.sup.readerHold.get sd))).cardLost sd

/-- The guard timer expires (R29). -/
def State.guardExpires (s : State) (sd : Side) : State :=
  match (s.ctx sd).tx.bind (·.guard) with
  | none => s
  | some _ => s.abortTx sd .timeout

/-- Whether a context in WRITING serves a card. -/
def State.writingCard (s : State) (card : CardId) : Bool :=
  let busy (c : Context) : Bool := decide (c.state = .writing) && c.tx.any fun t => decide (t.card = card)
  busy s.ctxs.a || busy s.ctxs.b

/-- The deadline of a card's in-doubt entry passes (R43): the entry expires, but one that is attached waits for its detachment (R39), and so
does one whose STORE is still in flight (DESIGN CHOICE, log 24). -/
def State.deadlinePasses (s : State) (card : CardId) : State :=
  match s.entryOf card with
  | none => s
  | some e =>
    match e.deadline with
    | none => s
    | some _ =>
      if e.attached || s.writingCard card then s.mapEntry card fun e => { e with passed := true, deadline := none } else s.expireEntry e

end Sys2Proof.Machine
end

