-- ==== Sys2Proof/Machine/Formats.lean ====
section
/-! DEFINITION. The payloads that the FG-2 sends: notices (R186), journal records (R187), the frame on the line (R185) and the status image of GET_STATUS (R179). -/

namespace Sys2Proof.Machine

/-! Field encodings (R184). -/

/-- A card ID in 7 bytes. -/
def cardBytes (c : CardId) : List Byte :=
  beBytes 7 c.toNat

/-- An optional card ID in 7 bytes, 0 when absent. -/
def optCard (c : Option CardId) : List Byte :=
  optBytes 7 (c.map (·.toNat))

/-- A purse that may be absent, in 4 bytes. -/
def optPurse : Option Int → List Byte
  | some p => purseBytes p
  | none => beBytes 4 0

/-- The sides named by an alarm or by running alarm timers: "bit 0 side A and bit 1 side B" (R186). -/
def sidesByte (a b : Bool) : Byte :=
  presence [a, b]

/-! Notices (R185, R186). -/

/-- The payload of TAP_RESULT, 26 bytes. -/
def TapResult.bytes (t : TapResult) : List Byte :=
  [sideCode (some t.side), BitVec.ofNat 8 t.side.tapKind.code, t.outcome.code,
    presence [t.card.isSome, t.reason.isSome, t.capture.isSome, t.charge.isSome, t.tariff.isSome]]
    ++ optCard t.card
    ++ [(t.reason.map CloneReason.code).getD 0, (t.capture.map CaptureResult.code).getD 0, t.grant.code]
    ++ optBytes 2 (t.charge.map (·.charge)) ++ optPurse (t.charge.map (·.purse)) ++ optBytes 4 (t.charge.map (·.seq))
    ++ optBytes 2 t.tariff

/-- The event code of a PASSAGE notice. -/
def PassageEvent.code : PassageEvent → Byte
  | .consumed _ _ _ => 1
  | .expired => 2
  | .cancelled => 3

/-- The passage fields of a PASSAGE notice: direction and the two follower flags. -/
def PassageEvent.fields : PassageEvent → List Byte
  | .consumed start follower behind => [directionCode (some start), boolByte follower, boolByte behind]
  | .expired => [0, 0, 0]
  | .cancelled => [0, 0, 0]

/-- Whether a PASSAGE notice has passage fields. -/
def PassageEvent.isConsumed : PassageEvent → Bool
  | .consumed _ _ _ => true
  | .expired => false
  | .cancelled => false

/-- The payload of PASSAGE, 21 bytes, for the end of an authorisation. -/
def passageBytes (e : PassageEvent) (sd : Side) (origin : AuthOrigin) (card : Option CardId) (seq : Option Nat) : List Byte :=
  [e.code, sideCode (some sd), origin.code, presence [card.isSome, seq.isSome, e.isConsumed, false]]
    ++ optCard card ++ optBytes 4 seq ++ e.fields ++ [0, 0, 0]

/-- The payload of PASSAGE, 21 bytes, for the two free-open events (code 4 and 5). -/
def freeOpenBytes (event : Byte) (count1 count2 : Nat) : List Byte :=
  [event, 0, 0, presence [false, false, false, true]] ++ beBytes 7 0 ++ beBytes 4 0 ++ [0, 0, 0] ++ beBytes 2 count1 ++ beBytes 1 count2

/-- The payload of SIGHTING_OUT, 22 bytes. -/
def sightingBytes (card : CardId) (counter : Nat) (purse : Int) (kind : TapKind) (second station gate : Nat) (p : PassageState) :
    List Byte :=
  cardBytes card ++ beBytes 3 counter ++ purseBytes purse ++ beBytes 1 kind.code ++ beBytes 4 second ++ beBytes 1 station
    ++ beBytes 1 gate ++ [p.code]

/-- The payload of ALARM, 5 bytes; the side is 0 when both sides are named. -/
def alarmBytes (k : AlarmKind) (direction owner : Option Side) (a b : Bool) : List Byte :=
  [k.code, if a && b then 0 else if a then 1 else 2, sidesByte a b, directionCode direction, sideCode owner]

/-- The payload of FAULT, 11 bytes. -/
def FaultNews.bytes : FaultNews → List Byte
  | .cls c raised r => [c.code, faultStateCode raised, r.code, presence [false]] ++ beBytes 7 0
  | .denylistFull card => [8, 0, 0, presence [true]] ++ cardBytes card

/-- The payload of JOURNAL_LOW, 12 bytes. -/
def JournalFigures.bytes (f : JournalFigures) : List Byte :=
  beBytes 2 f.free ++ beBytes 1 f.reserved ++ [presence [f.oldest.isSome]] ++ optBytes 4 f.oldest ++ optBytes 4 f.newest

/-- The payload of STARTED, 13 bytes. -/
def StartedInfo.bytes (i : StartedInfo) : List Byte :=
  [if i.cause.isSome then 2 else 1, (i.cause.map StartCause.code).getD 0] ++ beBytes 4 i.nextSeq ++ beBytes 1 i.kept
    ++ [boolByte i.abandoned, boolByte i.clockRunning, presence [i.tariff.isSome]] ++ optBytes 2 i.tariff ++ [i.barrier.code]

/-- The 12 bytes of a summary notice's present state; "Bytes of the 12 that the class does not use are 0" (R186). -/
def SummaryState.bytes : SummaryState → List Byte
  | .alarm a b => sidesByte a b :: List.replicate 11 0
  | .fault conds => conds.map boolByte ++ List.replicate (12 - conds.length) 0
  | .journalLow f => f.bytes
  | .holdAdded n => beBytes 1 n ++ List.replicate 11 0

/-- The kind of a notice (R185). -/
def Notice.kind : Notice → Byte
  | .tapResult _ => 0x41
  | .passage _ _ _ _ _ => 0x42
  | .freeOpenStart _ _ => 0x42
  | .freeOpenEnd _ => 0x42
  | .sightingOut _ _ _ _ _ _ _ _ => 0x43
  | .alarm _ _ _ _ _ => 0x44
  | .fault _ => 0x45
  | .journalLow _ => 0x46
  | .holdAdded _ _ _ => 0x47
  | .started _ => 0x48
  | .overflow _ => 0x49
  | .summary _ _ _ => 0x4B

/-- The payload of a notice (R186). -/
def Notice.payload : Notice → List Byte
  | .tapResult t => t.bytes
  | .passage e sd origin card seq => passageBytes e sd origin card seq
  | .freeOpenStart cancelled withdrawn => freeOpenBytes 4 cancelled withdrawn
  | .freeOpenEnd count => freeOpenBytes 5 count 0
  | .sightingOut card counter purse kind second station gate p => sightingBytes card counter purse kind second station gate p
  | .alarm k direction owner a b => alarmBytes k direction owner a b
  | .fault news => news.bytes
  | .journalLow f => f.bytes
  | .holdAdded card until_ capture => cardBytes card ++ beBytes 4 until_ ++ [capture.code]
  | .started info => info.bytes
  | .overflow count => beBytes 2 count
  | .summary cls withheld present => [cls.code] ++ beBytes 2 withheld ++ present.bytes

/-- The bytes of the frame on the line: replies carry their result and fields, notices tag 0 (R175, R176, R185). -/
def LineFrame.bytes : LineFrame → List Byte
  | .reply r => frameBytes r.kind r.tag (r.result.code :: r.fields)
  | .rejected count => frameBytes 0x4A 0 (beBytes 1 count)
  | .notice n => frameBytes n.kind 0 n.payload

/-! Journal records (R187). -/

/-- Kind codes of journal records. -/
def RecordBody.kindCode : RecordBody → Byte
  | .fare f => f.kind.code
  | .cloneCapture _ _ _ _ _ _ => 16
  | .inDoubtExpired _ _ _ _ _ _ => 17
  | .inDoubtSuperseded _ _ _ _ _ _ _ => 18
  | .staffPassage _ _ => 19
  | .passageNotTaken _ _ _ _ _ => 20
  | .alarm _ _ _ _ _ => 21
  | .fault _ _ _ => 22
  | .freeOpenStart _ _ _ => 23
  | .freeOpenEnd _ => 24
  | .tariffActivated _ _ _ => 25
  | .clockSet _ _ _ => 26
  | .warmStart _ _ _ => 27
  | .journalStart => 28

/-- The bits 1 to 3 of a record's presence byte. -/
def RecordBody.presenceBits : RecordBody → List Bool
  | .tariffActivated _ previous _ => [previous.isSome]
  | .clockSet before _ _ => [before.isSome]
  | .passageNotTaken _ card seq granted _ => [card.isSome, seq.isSome, granted.isSome]
  | .fare _ | .cloneCapture _ _ _ _ _ _ | .inDoubtExpired _ _ _ _ _ _ | .inDoubtSuperseded _ _ _ _ _ _ _ | .staffPassage _ _
  | .alarm _ _ _ _ _ | .fault _ _ _ | .freeOpenStart _ _ _ | .freeOpenEnd _ | .warmStart _ _ _ | .journalStart => []

/-- The detail of an in-doubt record. -/
def inDoubtBytes (card : CardId) (old : Nat) (r : CardRecord) (k : FareKind) (charge tariff : Nat) : List Byte :=
  cardBytes card ++ beBytes 3 old ++ r.bytes ++ [k.code] ++ beBytes 2 charge ++ beBytes 2 tariff

/-- The detail of a record. -/
def RecordBody.detail : RecordBody → List Byte
  | .fare f =>
    cardBytes f.card ++ beBytes 3 f.counterBefore ++ beBytes 3 f.counterAfter ++ beBytes 2 f.charge ++ purseBytes f.purseAfter
      ++ beBytes 2 f.tariff ++ beBytes 1 f.origin ++ beBytes 1 f.station ++ beBytes 1 f.profile
  | .cloneCapture card counter o reason capture tariff =>
    cardBytes card ++ beBytes 3 counter ++ [o.code, (reason.map CloneReason.code).getD 0, capture.code] ++ beBytes 2 tariff
  | .inDoubtExpired card old r k charge tariff => inDoubtBytes card old r k charge tariff
  | .inDoubtSuperseded card old r k charge tariff found => inDoubtBytes card old r k charge tariff ++ beBytes 3 found
  | .staffPassage card start => optCard card ++ [directionCode (some start)]
  | .passageNotTaken origin card seq granted reason =>
    [origin.code] ++ optCard card ++ optBytes 4 seq ++ optBytes 4 granted ++ [reason.code]
  | .alarm k direction owner a b => [k.code, directionCode direction, sideCode owner, sidesByte a b]
  | .fault c raised r => [c.code, faultStateCode raised, r.code]
  | .freeOpenStart reason cancelled withdrawn => [reason.code] ++ beBytes 1 cancelled ++ beBytes 1 withdrawn
  | .freeOpenEnd count => beBytes 2 count
  | .tariffActivated version previous day => beBytes 2 version ++ optBytes 2 previous ++ beBytes 2 day
  | .clockSet before taken forced => optBytes 4 before ++ beBytes 4 taken ++ [boolByte forced]
  | .warmStart cause kept abandoned => [cause.code] ++ beBytes 1 kept ++ [boolByte abandoned]
  | .journalStart => []

/-- A record without its length byte: the common part of 11 bytes and the detail. -/
def JournalRecord.content (r : JournalRecord) : List Byte :=
  beBytes 4 r.seq ++ [r.body.kindCode, presence (r.second.isSome :: r.body.presenceBits)] ++ optBytes 4 r.second ++ [sideCode r.side]
    ++ r.body.detail

/-- A record as JOURNAL_READ returns it, "with its own length in one byte, counting the bytes that follow it". -/
def JournalRecord.bytes (r : JournalRecord) : List Byte :=
  BitVec.ofNat 8 r.content.length :: r.content

/-! The status image (R179): "each quantity in the size that its layout in this chapter gives, or otherwise in the fewest whole bytes that
hold its range" (section 11.3), so that a flag and each member of a set take a byte of their own, 0 or 1. The presence bytes, the count of the
in-doubt entries, the size of a parameter and the codes that chapter 11 does not give are the model's (log 8). -/

/-- The link and cadence of a side (R1). -/
def State.readerImage (s : State) (sd : Side) : List Byte :=
  [Config.linkCode (s.reader sd).link, Config.cadenceCode (s.reader sd).cadence]

/-- The state and card ID of a context (R22). -/
def State.ctxImage (s : State) (sd : Side) : List Byte :=
  let card := (s.ctx sd).tx.map (·.card)
  [Config.contextCode (s.ctx sd).state, presence [card.isSome]] ++ optCard card

/-- The intended fare record of an in-doubt entry (R38) with all that R166 lets it carry but the sequence number, which it takes at its
append: kind, network second, side, and the detail in the layout of R187. -/
def FareRecord.image (f : FareRecord) : List Byte :=
  [f.kind.code] ++ beBytes 4 f.instant ++ [sideCode (some f.side)] ++ (RecordBody.fare f).detail

/-- An in-doubt entry, every field of R38's table: its journal reservation is held as long as the entry is, and so has no byte. -/
def InDoubt.image (e : InDoubt) : List Byte :=
  cardBytes e.card ++ [sideCode (some e.side)] ++ beBytes 3 e.oldCounter ++ [e.target.code] ++ e.record.bytes ++ e.fare.image
    ++ beBytes 2 e.tariff ++ [presence [e.deadline.isSome]] ++ optBytes 2 e.deadline ++ [boolByte e.attached]

/-- Which sections of a bank are present, section 1 first. -/
def Bank.sections (b : Bank) : List Bool :=
  [b.stations.isSome, b.bands.isSome, b.peaks.isSome, b.profiles.isSome, b.rules.isSome, b.holidays.isSome, b.products.isSome]

/-- The tariff banks, the pending activation, the pin and the key slots (R74, R81, R83). -/
def TariffUnit.image (t : TariffUnit) : List Byte :=
  [presence [t.active.version.isSome, t.standby.version.isSome, t.activation.isSome]] ++ optBytes 2 t.active.version
    ++ optBytes 2 t.standby.version ++ [boolByte t.standby.valid] ++ t.standby.sections.map boolByte
    ++ optBytes 2 (t.activation.map (·.1)) ++ optBytes 2 (t.activation.map (·.2))
    ++ [boolByte t.pinned] ++ t.keys.map (fun k => boolByte k.isSome)

/-- The screening unit's counts and parameters, these in the order of R181's table (R95, R97, R100). The hold time and the sighting horizon
take one byte each, the fewest whole bytes that hold their ranges, and not the 4 bytes of SET_PARAMETER's value field, which stands for any
parameter; R179 and section 11.3 do not say which of the two sizes holds in the image (DESIGN CHOICE, log 8). -/
def Screen.image (c : Screen) : List Byte :=
  beBytes 2 c.listVersion ++ beBytes 2 c.denylist.length ++ beBytes 1 c.queue.length ++ [c.build.code] ++ beBytes 1 c.holds.length
    ++ beBytes 1 c.holdHours ++ beBytes 1 c.horizonMin ++ [boolByte c.capture]

/-- The filtered inputs and the tracker (R118, R124). -/
def Aisle.image (x : Aisle) : List Byte :=
  [Input.za, .zm, .zb, .openLimit, .closedLimit, .driveFault, .emergency].map (fun i => boolByte (x.active i))
    ++ [Config.trackerCode x.tracker.state, boolByte x.tracker.resync, boolByte x.tracker.behind, boolByte x.tracker.byFollower]
    ++ [x.tracker.pattern.za, x.tracker.pattern.zm, x.tracker.pattern.zb].map boolByte

/-- A side's queue and reservation with its head (R131). -/
def Gate.queueImage (g : Gate) (sd : Side) : List Byte :=
  let head := (g.queues.get sd).head?
  let card := head.bind (·.card)
  let deadline := head.bind (·.deadline)
  beBytes 1 (g.queues.get sd).length
    ++ [Config.reservationCode (g.reservations.get sd), (head.map fun x => x.origin.code).getD 0,
      presence [card.isSome, deadline.isSome]]
    ++ optCard card ++ optBytes 2 deadline

/-- The barrier (R134). -/
def Gate.image (g : Gate) : List Byte :=
  g.queueImage .a ++ g.queueImage .b
    ++ [g.barrier.code, Config.phaseCode g.phase, sideCode g.owner, boolByte g.reasons.emergency, boolByte g.reasons.command,
      boolByte g.reasons.fault, boolByte g.unverified]
    ++ beBytes 2 g.freeCount

/-- The seven fault classes in the order of their codes. -/
def faultClasses : List FaultClass :=
  [.barrier, .sensor, .readerA, .readerB, .clock, .journal, .tariff]

/-- A class's condition with its raising second (R154). -/
def State.faultImage (s : State) (c : FaultClass) : List Byte :=
  match s.sup.conds.get c with
  | .clear => [0, 0] ++ beBytes 4 0
  | .raised second => [1, presence [second.isSome]] ++ optBytes 4 second

/-- A side's lamp: the active conditions, the one shown and the output (R163). -/
def State.lampImage (s : State) (sd : Side) : List Byte :=
  [LampCond.free, .outOfService, .alarm, .refused, .retap, .go, .idle].map (fun c => boolByte (s.lampActive sd c))
    ++ [(s.lampShown sd).code, Config.lampCode (s.lamp sd)]

/-- "The fault conditions, responses, stance, holds and lamps" (R179), in this order: the seven conditions, each with its raising second,
then the response in force for each of the seven classes, then the stance, the holds and the lamps (R154, R156, R159, R163). -/
def State.supImage (s : State) : List Byte :=
  faultClasses.flatMap s.faultImage ++ faultClasses.map (fun c => (s.responseOf c).code)
    ++ [Config.stanceCode s.stance, boolByte s.sup.barrierHold, boolByte s.sup.readerHold.a, boolByte s.sup.readerHold.b]
    ++ s.lampImage .a ++ s.lampImage .b

/-- The journal counts (R164). -/
def State.journalImage (s : State) : List Byte :=
  [presence [s.figures.oldest.isSome]] ++ optBytes 4 s.figures.oldest ++ optBytes 4 s.figures.newest ++ beBytes 4 s.journal.next
    ++ beBytes 2 s.free ++ beBytes 1 s.journal.reserved ++ [boolByte s.journal.armed]

/-- The seven notice classes in the order of their codes. -/
def noticeClasses : List NoticeClass :=
  [.tapResult, .passage, .sightingOut, .alarm, .fault, .journalLow, .holdAdded]

/-- The identity, the aisle mode and the port's own state (R179). R178 gives a pending flag and a withheld count to the four condition
classes alone, and R179 says "each class's": the model sends a flag byte and two count bytes for each of the three stream classes too,
always 0 (DESIGN CHOICE, log 8). -/
def State.portImage (s : State) : List Byte :=
  beBytes 1 s.port.station ++ beBytes 1 s.port.gateNo ++ [s.gate.mode.code] ++ beBytes 1 s.port.requests.length
    ++ beBytes 1 s.port.notices.length ++ beBytes 2 s.port.discarded
    ++ noticeClasses.flatMap fun c => [boolByte (s.port.masked.get c), boolByte (s.port.flagged.get c)] ++ beBytes 2 (s.port.withheld.get c)

/-- The status image, in the order in which R179 lists it. A one-byte count stands before the in-doubt entries, and only the entries present
follow it: R179 and section 11.3 do not say how the image tells how many there are (DESIGN CHOICE, log 8). -/
def State.image (s : State) : List Byte :=
  s.readerImage .a ++ s.readerImage .b ++ s.ctxImage .a ++ s.ctxImage .b ++ beBytes 1 s.doubt.entries.length
    ++ s.doubt.entries.flatMap InDoubt.image ++ s.tariff.image
    ++ s.screen.image ++ s.aisle.image ++ s.gate.image ++ s.supImage ++ s.journalImage ++ s.portImage

end Sys2Proof.Machine
end

