-- ==== Sys2Proof/Machine/TariffRequests.lean ====
section
/-! DEFINITION. The requests of the tariff and clock unit: tariff sections and their ranges, activation, keys, the clock and the station's free period (spec/04_tariffs_products_and_the_calendar_clock.md, R189). -/

namespace Sys2Proof.Machine

/-- A request answered OK with fields. -/
def State.ok (s : State) (fields : List Byte) : State × Answer :=
  (s, { result := .ok, fields := fields })

/-- A request refused, with nothing changed: "A reply whose result is neither OK nor CLAMPED carries its result code alone" (R185). -/
def State.no (s : State) (r : Result) : State × Answer :=
  (s, { result := r, fields := [] })

/-! Sections (R76, R189). -/

/-- The length of a section's contents (R189). -/
def sectionLength (n : Nat) : Option Nat :=
  if n = 1 then some 256 else if n = 2 then some 35 else if n = 3 then some 51 else if n = 4 then some 40
  else if n = 5 then some 15 else if n = 6 then some 65 else if n = 7 then some 64 else none

/-- The one-byte numbers of a list of bytes. -/
def byteNumbers (bytes : List Byte) : List Nat :=
  bytes.map (·.toNat)

/-- The two-byte numbers of a list of bytes. -/
def wordNumbers : List Byte → List Nat
  | x :: y :: rest => beNat [x, y] :: wordNumbers rest
  | _ => []

/-- Section 1: "each zone 0 to 15" (R76). -/
def parseStations (bytes : List Byte) : Option (List Nat) :=
  if (byteNumbers bytes).all (· ≤ 15) then some (byteNumbers bytes) else none

/-- Section 2: "factors 500 to 3,000 per mille; R one of 1, 2, 5, 10, 50" (R76). -/
def parseBands (bytes : List Byte) : Option BandTable :=
  let peak := fieldAt 30 2 bytes
  let off := fieldAt 32 2 bytes
  let unit := fieldAt 34 1 bytes
  if (500 ≤ peak ∧ peak ≤ 3000) ∧ (500 ≤ off ∧ off ≤ 3000) ∧ (unit = 1 ∨ unit = 2 ∨ unit = 5 ∨ unit = 10 ∨ unit = 50) then
    some { fares := wordNumbers (bytes.take 30), peak := peak, offPeak := off, unit := unit }
  else none

/-- A list of windows, each a start and an end. -/
def windowPairs : List Nat → List (Nat × Nat)
  | x :: y :: rest => (x, y) :: windowPairs rest
  | _ => []

/-- The windows of one day type, 17 bytes: "start 0 to 1,439; end at most 1,440; start less than end" (R76); "windows beyond the count are 0
and not judged" (R189). -/
def parseWindows (bytes : List Byte) : Option (List (Nat × Nat)) :=
  let count := fieldAt 0 1 bytes
  let windows := (windowPairs (wordNumbers (bytes.drop 1))).take count
  if count ≤ 4 ∧ windows.all (fun w => decide (w.1 ≤ 1439 ∧ w.2 ≤ 1440 ∧ w.1 < w.2)) = true then some windows else none

/-- Section 3. -/
def parsePeaks (bytes : List Byte) : Option PeakWindows :=
  match parseWindows (bytes.take 17), parseWindows ((bytes.drop 17).take 17), parseWindows (bytes.drop 34) with
  | some w, some s, some h => some { weekday := w, saturday := s, sundayHoliday := h }
  | _, _, _ => none

/-- Section 4, `n` profiles of 5 bytes: "discount 0 to 100" (R76). -/
def parseProfiles : Nat → List Byte → Option (List Profile)
  | 0, _ => some []
  | n + 1, bytes =>
    match parseProfiles n (bytes.drop 5) with
    | none => none
    | some rest =>
      if fieldAt 0 1 bytes ≤ 100 then
        some ({ discount := fieldAt 0 1 bytes, cap := fieldAt 1 2 bytes, entryMinimum := fieldAt 3 2 bytes } :: rest)
      else none

/-- Whether the rules of section 5 lie within their ranges (R76). -/
def Rules.inRange (r : Rules) : Bool :=
  r.transferWindow ≤ 180 && r.reentryGrace ≤ 600 && r.sameStationWindow ≤ 60 && r.freeExitWindow ≤ 120 && r.overdraft ≤ 5000
    && r.boundary ≤ 359

/-- Section 5. -/
def parseRules (bytes : List Byte) : Option Rules :=
  let r : Rules :=
    { transferWindow := fieldAt 0 1 bytes, reentryGrace := fieldAt 1 2 bytes, sameStationWindow := fieldAt 3 1 bytes,
      sameStationCharge := fieldAt 4 2 bytes, incompleteCharge := fieldAt 6 2 bytes, unenteredCharge := fieldAt 8 2 bytes,
      freeExitWindow := fieldAt 10 1 bytes, overdraft := fieldAt 11 2 bytes, boundary := fieldAt 13 2 bytes }
  if r.inRange then some r else none

/-- Section 6: a list of 0 to 32 service days, "each 0 to 36,524" (R76); "days beyond the count are 0 and not judged" (R189). -/
def parseHolidays (bytes : List Byte) : Option (List Nat) :=
  let count := fieldAt 0 1 bytes
  let days := (wordNumbers (bytes.drop 1)).take count
  if count ≤ 32 ∧ days.all (· ≤ 36524) = true then some days else none

/-- Section 7: a kind and a profile for each code; "profile 0 to 7 for every kind" (R76). -/
def parseProducts : List Byte → Option (List (ProductKind × Nat))
  | k :: p :: rest =>
    match productOfCode k.toNat, parseProducts rest with
    | some kind, some rest => if p.toNat ≤ 7 then some ((kind, p.toNat) :: rest) else none
    | _, _ => none
  | _ => some []

/-- The bank with the section named absent (R75 step 5). -/
def Bank.clearSection (b : Bank) (n : Nat) : Bank :=
  if n = 1 then { b with stations := none } else if n = 2 then { b with bands := none } else if n = 3 then { b with peaks := none }
  else if n = 4 then { b with profiles := none } else if n = 5 then { b with rules := none }
  else if n = 6 then { b with holidays := none } else { b with products := none }

/-- The bank with the section named holding its new contents, if every value lies within its range (R75 steps 5 and 6). -/
def Bank.loadSection (b : Bank) (n : Nat) (bytes : List Byte) : Option Bank :=
  if n = 1 then (parseStations bytes).map fun x => { b with stations := some x }
  else if n = 2 then (parseBands bytes).map fun x => { b with bands := some x }
  else if n = 3 then (parsePeaks bytes).map fun x => { b with peaks := some x }
  else if n = 4 then (parseProfiles 8 bytes).map fun x => { b with profiles := some x }
  else if n = 5 then (parseRules bytes).map fun x => { b with rules := some x }
  else if n = 6 then (parseHolidays bytes).map fun x => { b with holidays := some x }
  else (parseProducts bytes).map fun x => { b with products := some x }

/-- The STANDBY bank changed. -/
def State.setStandby (s : State) (b : Bank) : State :=
  { s with tariff := { s.tariff with standby := b } }

/-- TARIFF_LOAD, judged in the order of R75. -/
def State.tariffLoad (s : State) (n : Nat) (contents : List Byte) : State × Answer :=
  if s.tariff.activation.isSome then s.no .tariffPending
  else if s.tariff.pinned then s.no .notNow
  else
    match sectionLength n with
    | none => s.no .badValue
    | some len =>
      if contents.length = len then
        let b := { s.tariff.standby with version := none, valid := false }
        match b.loadSection n contents with
        | some b => (s.setStandby b).ok []
        | none => (s.setStandby (b.clearSection n)).no .badValue
      else s.no .badLength

/-- TARIFF_ACTIVATE, judged in the order of R77. -/
def State.tariffActivate (s : State) (version day : Nat) : State × Answer :=
  if s.tariff.pinned then s.no .notNow
  else if version = 0 ∨ s.tariff.active.version = some version ∨ 65535 < version then s.no .badValue
  else if 36524 < day then s.no .badValue
  else if s.tariff.standby.complete then
    ({ s with
        tariff :=
          { s.tariff with
            standby := { s.tariff.standby with version := some version, valid := true }, activation := some (version, day) } }).ok []
  else s.no .badValue

/-- TARIFF_DISCARD (R80). -/
def State.tariffDiscard (s : State) : State × Answer :=
  if s.tariff.pinned then s.no .notNow
  else ({ s with tariff := { s.tariff with standby := .empty, activation := none } }).ok []

/-! Keys (R83). -/

/-- The key table changed. -/
def State.setKey (s : State) (slot : Nat) (k : Option Key) : State :=
  { s with tariff := { s.tariff with keys := s.tariff.keys.set slot k } }

/-- KEY_LOAD (R83). -/
def State.keyLoad (s : State) (slot : Nat) (k : Key) : State × Answer :=
  if 7 < slot then s.no .badValue else (s.setKey slot (some k)).ok []

/-- KEY_ERASE (R83). -/
def State.keyErase (s : State) (slot : Nat) : State × Answer :=
  if 7 < slot then s.no .badValue
  else if (s.tariff.keys.getD slot none).isSome then (s.setKey slot none).ok []
  else s.no .notFound

/-! The clock (R87 to R89). -/

/-- A setting taken (R88): the clock, the forced clearing of the sightings (R115), the minute step, the CLOCK_SET record and the clear of
CLOCK, in the order of R88 (log 34). -/
def State.takeSetting (s : State) (t : Nat) (forced : Bool) : State :=
  let before := s.now
  let s := s.setClock (some t)
  let s := if forced then { s with screen := { s.screen with sightings := [] } } else s
  let s := s.minuteStep t
  let s := s.appendUnreserved none (.clockSet before t forced)
  if before.isSome then s else s.clearPlain .clock

/-- SET_CLOCK: validity (R87), then the force flag's code (log 23), then the table of R88. -/
def State.setClockRequest (s : State) (d : DateTime) (force : Nat) : State × Answer :=
  if d.isValid then
    match flagOfCode force with
    | none => s.no .badValue
    | some force =>
      match s.now with
      | none => (s.takeSetting d.toSecond false).ok []
      | some t =>
        if t ≤ d.toSecond + 60 then (s.takeSetting d.toSecond false).ok []
        else if force then (s.takeSetting d.toSecond true).ok []
        else s.no .clockBackward
  else s.no .badClock

/-- The time fields of GET_CLOCK: year, month, day, hour, minute, second, network second, service day, weekday, day type and boundary. -/
def State.timeFields (s : State) : Option Nat → List Byte
  | none => List.replicate 17 0
  | some t =>
    let d := dateTimeOf t
    let day := serviceDay s.boundary (minuteOf t)
    beBytes 2 d.year ++ beBytes 1 d.month ++ beBytes 1 d.day ++ beBytes 1 d.hour ++ beBytes 1 d.minute ++ beBytes 1 d.second
      ++ beBytes 4 t ++ beBytes 2 day ++ beBytes 1 (weekday day) ++ [(dayTypeOf s.holidaysInUse day).code] ++ beBytes 2 s.boundary

/-- GET_CLOCK (R89, section 11.3). -/
def State.getClock (s : State) : State × Answer :=
  let p := s.tariff.period
  s.ok
    ([boolByte s.now.isSome, presence [s.now.isSome, p.isSome, (p.bind (·.stop)).isSome]] ++ s.timeFields s.now
      ++ optBytes 4 (p.map (·.start)) ++ optBytes 4 (p.bind (·.stop)) ++ [(p.map fun p => p.origin.code).getD 0])

/-- STATION_FREE_PERIOD, judged in the order of R92. -/
def State.stationFreePeriod (s : State) (start stop : Nat) : State × Answer :=
  if s.inFreeOpen then s.no .notNow
  else if lastMinuteOfRange < start ∨ lastMinuteOfRange < stop ∨ stop < start then s.no .badValue
  else ({ s with tariff := { s.tariff with period := some { start := start, stop := some stop, origin := .station } } }).ok []

end Sys2Proof.Machine
end

