-- ==== Sys2Proof/Machine/ScreenRequests.lean ====
section
/-! DEFINITION. The requests of the screening unit: hold list, denylist, bulk replace and sightings (spec/05_card_screening.md). -/

namespace Sys2Proof.Machine

/-- The screening unit changed. -/
def State.setScreen (s : State) (c : Screen) : State :=
  { s with screen := c }

/-- HOLD_RELEASE (R99). -/
def State.holdRelease (s : State) (card : CardId) : State × Answer :=
  if s.screen.holds.any (·.card = card) then
    (s.setScreen { s.screen with holds := s.screen.holds.filter (·.card ≠ card) }).ok []
  else s.no .notFound

/-- HOLD_LIST_READ (R99): "beginning at that position in the hold-until order, up to 32 entries". -/
def State.holdListRead (s : State) (start : Nat) : State × Answer :=
  if 63 < start then s.no .badValue
  else
    let entries := (s.screen.holds.drop start).take 32
    s.ok (beBytes 1 s.screen.holds.length ++ beBytes 1 entries.length ++ entries.flatMap fun e => cardBytes e.card ++ beBytes 4 e.until_)

/-- DENYLIST_ADD and DENYLIST_REMOVE, judged in the order of R101. -/
def State.denylistUpdate (s : State) (add : Bool) (card : CardId) : State × Answer :=
  if s.screen.build ≠ .idle then s.no .bulkInProgress
  else if 16 ≤ s.screen.queue.length then s.no .queueFull
  else (s.setScreen (s.screen.enqueue add card)).ok (beBytes 4 (arrivalSucc s.screen.arrivals))

/-- DENYLIST_BEGIN (R105): a version of 0 is refused before the build state is looked at; R105 gives an order to DENYLIST_PAGE alone
(DESIGN CHOICE, log 43). -/
def State.denylistBegin (s : State) (version : Nat) : State × Answer :=
  if version = 0 ∨ 65535 < version then s.no .badValue
  else if s.screen.build = .ending then s.no .notNow
  else (s.setScreen { s.screen with build := .building, buildList := [], buildVersion := version, buildLast := none }).ok []

/-- Whether a page follows the last card ID of the build area (R105 step 3). -/
def pageFollows (last : Option CardId) (cards : List CardId) : Bool :=
  ascending cards &&
    match last, cards with
    | some x, y :: _ => decide (x < y)
    | _, _ => true

/-- DENYLIST_PAGE, judged in the order of R105. -/
def State.denylistPage (s : State) (cards : List CardId) : State × Answer :=
  if s.screen.build ≠ .building then s.no .notNow
  else if cards.length = 0 ∨ 64 < cards.length then s.no .badValue
  else if pageFollows s.screen.buildLast cards = false then s.no .badValue
  else if 16384 < s.screen.buildList.length + cards.length then s.no .badValue
  else (s.setScreen { s.screen with buildList := s.screen.buildList ++ cards, buildLast := cards.getLast? }).ok []

/-- DENYLIST_END (R106): in BUILDING the state becomes ENDING and the reply is held until the swap, which is no answer yet. -/
def State.denylistEnd (s : State) : State × Option Answer :=
  if s.screen.build = .building then (s.setScreen { s.screen with build := .ending }, none)
  else (s, some { result := .notNow, fields := [] })

/-- The fields of the DENYLIST_END reply: the new list version and number of entries (R106). -/
def Screen.endFields (c : Screen) : List Byte :=
  beBytes 2 c.listVersion ++ beBytes 2 c.denylist.length

/-- DENYLIST_QUERY (R107). -/
def State.denylistQuery (s : State) (card : CardId) : State × Answer :=
  let c := s.screen
  s.ok
    ([boolByte (c.lookup c.arrivals card)] ++ beBytes 2 c.listVersion ++ beBytes 2 c.denylist.length ++ beBytes 1 c.queue.length
      ++ [c.build.code] ++ beBytes 2 c.buildList.length)

end Sys2Proof.Machine

namespace Sys2Proof
open Machine

/-- A SIGHTING request's record, if its fields lie in the ranges of R109. -/
def SightingFields.judged (f : SightingFields) : Option Commit :=
  if f.counter ≤ 16777215 ∧ (-99999 ≤ f.purse ∧ f.purse ≤ 9999999) ∧ f.second ≤ lastSecond ∧ f.station ≤ 255 ∧ f.gate ≤ 255 then
    match tapKindOfCode f.kind, passageOfCode f.passage with
    | some kind, some passage =>
      some
        { card := f.cardId, counter := f.counter, purse := f.purse, kind := kind, second := f.second, station := f.station,
          gate := f.gate, passage := passage }
    | _, _ => none
  else none

end Sys2Proof

namespace Sys2Proof.Machine

/-- SIGHTING (R113); its age is judged by the horizon in force (R109). A value out of range is BAD_VALUE while the clock is UNSET too: R113
gives both refusals and no order between them (DESIGN CHOICE, log 43). -/
def State.sightingRequest (s : State) (f : SightingFields) : State × Answer :=
  match f.judged with
  | none => s.no .badValue
  | some p =>
    match s.now with
    | none => s.no .notNow
    | some t =>
      if p.second + s.screen.horizonInForce * 60 < t then s.ok []
      else (s.setScreen (s.screen.merge p s.port.station s.port.gateNo)).ok []

end Sys2Proof.Machine
end

