-- ==== Sys2Proof/Machine/GateRequests.lean ====
section
/-! DEFINITION. The requests of the passage controller, supervision and the journal (R142, R152, R153, R157 to R161, R163, R170, R171). -/

namespace Sys2Proof.Machine

/-! The passage controller. -/

/-- A side's cadence follows a change of aisle mode (R3): to CLOSED an IDLE side becomes QUIET; from CLOSED a QUIET side becomes ACTIVE and
restarts its idle timer, which runs only while the link is SEARCHING or BOUND. -/
def Reader.modeChanged (r : Reader) (old new : AisleMode) : Reader :=
  if new = .closed then
    if r.cadence = .idle then { r with cadence := .quiet } else r
  else if old = .closed ∧ r.cadence = .quiet then
    { r with cadence := .active, idle := if r.link = .searching ∨ r.link = .bound then some idleMs else r.idle }
  else r

/-- SET_AISLE_MODE (R152): "Taking a mode equal to the current one changes nothing". -/
def State.setAisleMode (s : State) (code : Nat) : State × Answer :=
  match modeOfCode code with
  | none => s.no .badValue
  | some m =>
    if m = s.gate.mode then s.ok []
    else
      ({ s with
          gate := { s.gate with mode := m }
          readers := { a := s.readers.a.modeChanged s.gate.mode m, b := s.readers.b.modeChanged s.gate.mode m } }).ok []

/-- SET_DIRECTION_TABLE (R142). -/
def State.setDirectionTable (s : State) (entries : List Nat) : State × Answer :=
  match mapAll sideOfCode entries with
  | none => s.no .badValue
  | some sides => ({ s with gate := { s.gate with directions := sides, pointer := 0 } }).ok []

/-- The field of a GATE_COMMAND reply: "authorisations cancelled 1, 0 for commands other than CANCEL_GRANTS" (section 11.3). -/
def cancelledField (n : Nat) : List Byte :=
  beBytes 1 n

/-- GATE_COMMAND FREE_OPEN (R153). -/
def State.commandFreeOpen (s : State) : State × Answer :=
  (s.joinReason .command).ok (cancelledField 0)

/-- GATE_COMMAND RESUME (R153). -/
def State.commandResume (s : State) : State × Answer :=
  if s.aisle.active .emergency = true ∨ s.gate.reasons.command = false then s.no .notNow
  else (s.leaveReason .command).ok (cancelledField 0)

/-- GATE_COMMAND GRANT_A or GRANT_B (R153): a MANUAL authorisation "with no card ID and no journal sequence", granted at
the clock's second (R131). NOT_NOW comes before SIDE_FULL, which R153 does not order (DESIGN CHOICE, log 43). -/
def State.commandGrant (s : State) (sd : Side) : State × Answer :=
  if s.inFreeOpen ∨ s.gate.holdOrder = true ∨ s.gate.failClosedOrder = true then s.no .notNow
  else if 4 ≤ s.gate.load sd then s.no .sideFull
  else (s.join sd { origin := .manual, card := none, seq := none, granted := s.now, deadline := none }).ok (cancelledField 0)

/-- GATE_COMMAND CANCEL_GRANTS (R153); an OPEN barrier whose owner's queue has emptied then counts its close delay (R138). -/
def State.commandCancel (s : State) : State × Answer :=
  (s.cancelAll.delayEval).ok (cancelledField (s.gate.queues.a.length + s.gate.queues.b.length))

/-- GATE_COMMAND by its code; a code not shown is refused with BAD_VALUE (R184). -/
def State.gateCommand (s : State) (code : Nat) : State × Answer :=
  if code = 1 then s.commandFreeOpen
  else if code = 2 then s.commandResume
  else if code = 3 then s.commandGrant .a
  else if code = 4 then s.commandGrant .b
  else if code = 5 then s.commandCancel
  else s.no .badValue

/-! Supervision. -/

/-- Whether a class accepts a response (R157). -/
def FaultClass.accepts (c : FaultClass) (r : FaultResponse) : Bool :=
  match c, r with
  | .barrier, .failClosed => true
  | .barrier, .failFree => true
  | .sensor, .failClosed => true
  | .sensor, .failFree => true
  | .sensor, .continue_ => true
  | _, _ => false

/-- The response of a class changed. -/
def State.setResponse (s : State) (c : FaultClass) (r : FaultResponse) : State :=
  match c with
  | .barrier => { s with sup := { s.sup with barrierResponse := r } }
  | .sensor => { s with sup := { s.sup with sensorResponse := r } }
  | .readerA | .readerB | .clock | .journal | .tariff => s

/-- SET_FAULT_RESPONSE (R157): the stance is worked out again at once. -/
def State.setFaultResponse (s : State) (cls response : Nat) : State × Answer :=
  match faultClassOfCode cls, responseOfCode response with
  | some c, some r => if c.accepts r then ((s.setResponse c r).recompute).ok [] else s.no .badValue
  | _, _ => s.no .badValue

/-- CLEAR_FAULT, judged in the order of R158. -/
def State.clearFaultRequest (s : State) (cls : Nat) : State × Answer :=
  if faultClassOfCode cls ≠ some .barrier then s.no .badValue
  else if s.isRaised .barrier = false then s.no .notNow
  else if s.aisle.active .driveFault then s.no .notNow
  else (s.clearOrdered .barrier).ok []

/-- SERVICE_HOLD at the barrier (R159, R160). -/
def State.barrierHoldRequest (s : State) (enter : Bool) : State × Answer :=
  if s.sup.barrierHold = enter then s.no .notNow
  else (if enter then s.enterBarrierHold else s.leaveBarrierHold).ok []

/-- SERVICE_HOLD at a reader side (R159, R161). -/
def State.readerHoldRequest (s : State) (sd : Side) (enter : Bool) : State × Answer :=
  if s.sup.readerHold.get sd = enter then s.no .notNow
  else (if enter then s.enterReaderHold sd else s.leaveReaderHold sd).ok []

/-- SERVICE_HOLD by its codes (R159): target 1 BARRIER, 2 READER_A, 3 READER_B; action 1 ENTER, 2 LEAVE. -/
def State.serviceHold (s : State) (target action : Nat) : State × Answer :=
  if action ≠ 1 ∧ action ≠ 2 then s.no .badValue
  else if target = 1 then s.barrierHoldRequest (decide (action = 1))
  else if target = 2 then s.readerHoldRequest .a (decide (action = 1))
  else if target = 3 then s.readerHoldRequest .b (decide (action = 1))
  else s.no .badValue

/-- Whether a list names each of the seven lamp conditions once (R163). -/
def isLampOrder (l : List LampCond) : Bool :=
  l.length = 7 && [LampCond.free, .outOfService, .alarm, .refused, .retap, .go, .idle].all (fun c => decide (c ∈ l))

/-- SET_LAMP_PRIORITY (R163); the lamps are functions of the state, so they are decided again at once. -/
def State.setLampPriority (s : State) (codes : List Nat) : State × Answer :=
  match mapAll lampCondOfCode codes with
  | none => s.no .badValue
  | some l => if isLampOrder l then ({ s with sup := { s.sup with lampOrder := l } }).ok [] else s.no .badValue

/-! The journal. -/

/-- JOURNAL_READ, judged in the order of R170. Eight records of at most 60 bytes always fit in the payload (R187). -/
def State.journalRead (s : State) (start count : Nat) : State × Answer :=
  if count = 0 ∨ 8 < count then s.no .badValue
  else
    match s.journal.records.dropWhile (fun r => decide (r.seq ≠ start)) with
    | [] => s.no .badSeq
    | held =>
      let out := held.take count
      s.ok (beBytes 1 out.length ++ optBytes 4 s.figures.newest ++ out.flatMap JournalRecord.bytes)

/-- The offset of a sequence number, counted forward from the oldest held, or from the next number when none is held (R164, R171). -/
def Journal.offset (j : Journal) (n : Nat) : Nat :=
  let base := match j.records.head? with
    | some r => r.seq
    | none => j.next
  if base ≤ n then n - base else n + 4294967295 - base

/-- The journal after a release of its `n` oldest records: the low notice is armed when free entries rise above 256 (R169), and JOURNAL
clears when they rise above 16 (R171; in that order, log 34). -/
def State.freeRecords (s : State) (n : Nat) : State :=
  let was := s.free
  let s := { s with journal := { s.journal with records := s.journal.records.drop n } }
  let s := if was ≤ 256 ∧ 256 < s.free then { s with journal := { s.journal with armed := true } } else s
  if 16 < s.free ∧ was < s.free then s.clearJournal else s

/-- The fields of a JOURNAL_RELEASE reply, as the journal stands right after the release (log 34). -/
def releaseFields (j : Journal) (freed : Nat) : List Byte :=
  let j := { j with records := j.records.drop freed }
  let oldest := j.records.head?.map (·.seq)
  beBytes 2 freed ++ [presence [oldest.isSome]] ++ optBytes 4 oldest ++ beBytes 2 (2048 - j.records.length)

/-- JOURNAL_RELEASE by the table of R171. The number 0, which no record bears, is taken to lie before the oldest held (DESIGN CHOICE,
log 36). -/
def State.journalRelease (s : State) (n : Nat) : State × Answer :=
  let held := s.journal.records.length
  let offset := s.journal.offset n
  if n = 0 ∨ 2147483647 < offset then s.no .badSeq
  else if offset < held then (s.freeRecords (offset + 1), { result := .ok, fields := releaseFields s.journal (offset + 1) })
  else (s.freeRecords held, { result := .clamped, fields := releaseFields s.journal held })

end Sys2Proof.Machine
end

