-- ==== Sys2Proof/Machine/PortRequests.lean ====
section
/-! DEFINITION. The requests of the host port: notice masks, status, identity, parameters and RESTART (R178 to R181, R183). -/

namespace Sys2Proof.Machine

/-! Notice masks (R178). -/

/-- The present state that a summary notice of a condition class carries. -/
def State.summaryState (s : State) : NoticeClass → Option SummaryState
  | .alarm => some (.alarm s.gate.alarms.a.isSome s.gate.alarms.b.isSome)
  | .fault => some (.fault (faultClasses.map s.isRaised))
  | .journalLow => some (.journalLow s.figures)
  | .holdAdded => some (.holdAdded s.screen.holds.length)
  | .tapResult | .passage | .sightingOut => none

/-- One class unmasked: if its flag is SET, its summary is queued, or discarded and counted, and the flag and count are cleared. -/
def State.unmask (s : State) (c : NoticeClass) : State :=
  match s.summaryState c with
  | none => s
  | some present =>
    if s.port.flagged.get c then
      let s := s.notify (.summary c (s.port.withheld.get c) present)
      { s with port := { s.port with flagged := s.port.flagged.set c false, withheld := s.port.withheld.set c 0 } }
    else s

/-- One class of the request: unmasked when it changes from MASKED to UNMASKED. -/
def State.unmaskFrom (s : State) (old : PerClass Bool) (c : NoticeClass) : State :=
  if old.get c = true ∧ s.port.masked.get c = false then s.unmask c else s

/-- Seven masks as a value for each class. -/
def masksOf : List Bool → Option (PerClass Bool)
  | [a, b, c, d, e, f, g] =>
    some { tapResult := a, passage := b, sightingOut := c, alarm := d, fault := e, journalLow := f, holdAdded := g }
  | _ => none

/-- SET_NOTICE_MASK (R178): the summaries "in the order ALARM, FAULT, JOURNAL_LOW, HOLD_ADDED". -/
def State.setNoticeMask (s : State) (codes : List Nat) : State × Answer :=
  match (mapAll flagOfCode codes).bind masksOf with
  | none => s.no .badValue
  | some masks =>
    let old := s.port.masked
    let s := { s with port := { s.port with masked := masks } }
    ((((s.unmaskFrom old .alarm).unmaskFrom old .fault).unmaskFrom old .journalLow).unmaskFrom old .holdAdded).ok []

/-! Status and identity. -/

/-- The bytes of the image that one part carries (section 11.3). -/
def partBytes : Nat := 597

/-- The number of parts of an image. -/
def partCount (image : List Byte) : Nat :=
  (image.length + partBytes - 1) / partBytes

/-- GET_STATUS (R179). -/
def State.getStatus (s : State) (part : Nat) : State × Answer :=
  s.ok (beBytes 1 part ++ beBytes 1 (partCount s.image) ++ (s.image.drop (partBytes * part)).take partBytes)

/-- Whether a context is in POLLING, HOLDOFF or OUT_OF_SERVICE (R180). -/
def Context.resting (c : Context) : Bool :=
  !c.state.serving

/-- SET_IDENTITY (R180); BAD_VALUE before NOT_NOW, which R180 does not order (DESIGN CHOICE, log 43). -/
def State.setIdentity (s : State) (station gate : Nat) : State × Answer :=
  if 255 < station ∨ 255 < gate then s.no .badValue
  else if s.gate.mode = .closed ∧ s.ctxs.a.resting = true ∧ s.ctxs.b.resting = true then
    ({ s with port := { s.port with station := station, gateNo := gate } }).ok []
  else s.no .notNow

/-! Parameters (R181). -/

/-- A value clamped to "the nearer end of the range". -/
def clamp (lo hi v : Nat) : Nat :=
  max lo (min hi v)

/-- The answer to a timing parameter: the value taken, with CLAMPED when it is not the value sent. -/
def timingAnswer (v taken : Nat) : Answer :=
  { result := if v = taken then .ok else .clamped, fields := beBytes 4 taken }

/-- A per-input parameter changed. -/
def Aisle.setParam (x : Aisle) (i : Input) (p : InputParam) : Aisle :=
  { x with params := x.params.set i p }

/-- The debounce time of an input (R120): timers already running keep their length. -/
def State.setDebounce (s : State) (input v : Nat) : State × Answer :=
  match inputOfCode input with
  | none => s.no .badValue
  | some i =>
    let t := clamp 1 50 v
    ({ s with aisle := s.aisle.setParam i { s.aisle.params.get i with debounceMs := t } }, timingAnswer v t)

/-- The active level of an input (R120): its filter is read anew at once. -/
def State.setActiveLevel (s : State) (input v : Nat) : State × Answer :=
  match inputOfCode input, flagOfCode v with
  | some i, some high =>
    ({ s with aisle := (s.aisle.setParam i { s.aisle.params.get i with activeHigh := high }).refilter i }).ok (beBytes 4 v)
  | _, _ => s.no .badValue

/-- SET_PARAMETER by its parameter code (R181). -/
def State.setParameter (s : State) (param input v : Nat) : State × Answer :=
  if param = 1 then ({ s with doubt := { s.doubt with periodS := clamp 5 60 v } }, timingAnswer v (clamp 5 60 v))
  else if param = 2 then ({ s with screen := { s.screen with holdHours := clamp 1 72 v } }, timingAnswer v (clamp 1 72 v))
  else if param = 3 then ({ s with screen := { s.screen with horizonMin := clamp 1 120 v } }, timingAnswer v (clamp 1 120 v))
  else if param = 4 then
    match flagOfCode v with
    | none => s.no .badValue
    | some on => ({ s with screen := { s.screen with capture := on } }).ok (beBytes 4 v)
  else if param = 5 then s.setDebounce input v
  else if param = 6 then s.setActiveLevel input v
  else if param = 7 then ({ s with gate := { s.gate with travelMs := clamp 300 3000 v } }, timingAnswer v (clamp 300 3000 v))
  else if param = 8 then ({ s with gate := { s.gate with closeDelayMs := clamp 0 5000 v } }, timingAnswer v (clamp 0 5000 v))
  else if param = 9 then ({ s with gate := { s.gate with windowS := clamp 3 30 v } }, timingAnswer v (clamp 3 30 v))
  else if param = 10 then
    match flagOfCode v with
    | none => s.no .badValue
    | some on => ({ s with gate := { s.gate with autoResume := on } }).ok (beBytes 4 v)
  else s.no .badValue

/-- RESTART (R183): always taken; the warm start follows when its reply has left the transmitter. -/
def State.restartRequest (s : State) : State × Answer :=
  s.ok []

end Sys2Proof.Machine
end

