-- ==== Sys2Proof/Machine/Port.lean ====
section
/-! DEFINITION. The host port's request queue: arrival, service of the head by its owner, and the replies (R174 to R176). -/

namespace Sys2Proof.Machine

/-- The kinds of the requests (section 11.3); an unknown kind keeps the byte received. -/
def Request.kind : Request → Byte
  | .getStatus _ => 0x01
  | .setIdentity _ _ => 0x02
  | .setAisleMode _ => 0x03
  | .setParameter _ _ _ => 0x04
  | .gateCommand _ => 0x05
  | .serviceHold _ _ => 0x06
  | .clearFault _ => 0x07
  | .setFaultResponse _ _ => 0x08
  | .setLampPriority _ => 0x09
  | .setDirectionTable _ => 0x0A
  | .tariffLoad _ _ => 0x0B
  | .tariffActivate _ _ => 0x0C
  | .tariffDiscard => 0x0D
  | .keyLoad _ _ => 0x0E
  | .keyErase _ => 0x0F
  | .setClock _ _ => 0x10
  | .getClock => 0x11
  | .denylistAdd _ => 0x12
  | .denylistRemove _ => 0x13
  | .denylistBegin _ => 0x14
  | .denylistPage _ => 0x15
  | .denylistEnd => 0x16
  | .denylistQuery _ => 0x17
  | .holdRelease _ => 0x18
  | .holdListRead _ => 0x19
  | .sighting _ => 0x1A
  | .stationFreePeriod _ _ => 0x1B
  | .journalRead _ _ => 0x1C
  | .journalRelease _ => 0x1D
  | .setNoticeMask _ => 0x1E
  | .restart => 0x1F
  | .unknownKind k => k
  | .badLength k => k

/-- Whether a byte is a request kind (section 11.3). -/
def isRequestKind (k : Byte) : Bool :=
  decide (1 ≤ k.toNat ∧ k.toNat ≤ 31)

/-- The kind of a reply: the request's kind plus 0x80, and 0xFF for an unknown kind (R185). -/
def Request.replyKind : Request → Byte
  | .unknownKind _ => 0xFF
  | r => r.kind + 0x80

/-- The reply to a request. A reply to an unknown kind carries the kind byte received; any other that is neither OK nor CLAMPED carries
its result code alone (R185). -/
def Request.reply (r : Request) (tag : Byte) (result : Result) (fields : List Byte) : Reply :=
  match r with
  | .unknownKind k => { kind := 0xFF, tag := tag, result := result, fields := [k] }
  | _ => { kind := r.replyKind, tag := tag, result := result, fields := if result = .ok ∨ result = .clamped then fields else [] }

/-- The payload lengths that TARIFF_LOAD allows (section 11.3). -/
def tariffLengths : List Nat := [257, 36, 52, 41, 16, 66, 65]

/-- A request command whose operands have another number of elements than its payload can hold is a frame of a length its kind does not
allow (R174). -/
def Request.judged (r : Request) : Request :=
  match r with
  | .setLampPriority l => if l.length = 7 then r else .badLength r.kind
  | .setDirectionTable l => if l.length = 16 then r else .badLength r.kind
  | .setNoticeMask l => if l.length = 7 then r else .badLength r.kind
  | .tariffLoad _ c => if c.length + 1 ∈ tariffLengths then r else .badLength r.kind
  | .denylistPage l => if l.length ≤ 85 then r else .badLength r.kind
  | _ => r

/-- Whether a reply is the OK of RESTART. -/
def Reply.isRestart (r : Reply) : Bool :=
  decide (r.kind = 0x9F#8 ∧ r.result = .ok)

/-- Whether the line carries the OK of RESTART. -/
def LineFrame.isRestart : LineFrame → Bool
  | .reply r => r.isRestart
  | .rejected _ => false
  | .notice _ => false

/-- Whether a RESTART has been taken and its warm start is still to come; then no request is answered any more (R183, log 31). -/
def Port.restarting (p : Port) : Bool :=
  p.outgoing.any Reply.isRestart || p.line.any LineFrame.isRestart

/-- A request arrives (R175): it joins the queue, or is answered BUSY if the queue holds 4; "A BUSY that would join the outgoing replies
while 7 or more are already waiting is not made" (R176). -/
def Port.arrive (p : Port) (tag : Byte) (r : Request) : Port :=
  if p.requests.length < 4 then { p with requests := p.requests ++ [{ tag := tag, request := r }] }
  else if 7 ≤ p.outgoing.length ∨ p.restarting = true then p
  else { p with outgoing := p.outgoing ++ [r.reply tag .busy []] }

/-- An owner's result as an answer that is given at once. -/
def answered (x : State × Answer) : State × Option Answer :=
  (x.1, some x.2)

/-- The head handed to its owner, or its decided reply (R174, R175): the state after it and the answer, which DENYLIST_END in BUILDING
does not yet have. -/
def State.carry (s : State) : Request → State × Option Answer
  | .getStatus part => answered (s.getStatus part)
  | .setIdentity station gate => answered (s.setIdentity station gate)
  | .setAisleMode mode => answered (s.setAisleMode mode)
  | .setParameter param input v => answered (s.setParameter param input v)
  | .gateCommand code => answered (s.gateCommand code)
  | .serviceHold target action => answered (s.serviceHold target action)
  | .clearFault cls => answered (s.clearFaultRequest cls)
  | .setFaultResponse cls response => answered (s.setFaultResponse cls response)
  | .setLampPriority order => answered (s.setLampPriority order)
  | .setDirectionTable entries => answered (s.setDirectionTable entries)
  | .tariffLoad sect contents => answered (s.tariffLoad sect contents)
  | .tariffActivate version day => answered (s.tariffActivate version day)
  | .tariffDiscard => answered s.tariffDiscard
  | .keyLoad slot key => answered (s.keyLoad slot key)
  | .keyErase slot => answered (s.keyErase slot)
  | .setClock d force => answered (s.setClockRequest d force)
  | .getClock => answered s.getClock
  | .denylistAdd card => answered (s.denylistUpdate true card)
  | .denylistRemove card => answered (s.denylistUpdate false card)
  | .denylistBegin version => answered (s.denylistBegin version)
  | .denylistPage cards => answered (s.denylistPage cards)
  | .denylistEnd => s.denylistEnd
  | .denylistQuery card => answered (s.denylistQuery card)
  | .holdRelease card => answered (s.holdRelease card)
  | .holdListRead start => answered (s.holdListRead start)
  | .sighting f => answered (s.sightingRequest f)
  | .stationFreePeriod start stop => answered (s.stationFreePeriod start stop)
  | .journalRead start count => answered (s.journalRead start count)
  | .journalRelease n => answered (s.journalRelease n)
  | .setNoticeMask masks => answered (s.setNoticeMask masks)
  | .restart => answered s.restartRequest
  | .unknownKind _ => answered (s.no .unknownKind)
  | .badLength _ => answered (s.no .badLength)

/-- A reply decided: it goes to the outgoing replies and the head leaves the queue (R175). -/
def Port.replyHead (p : Port) (r : Reply) : Port :=
  { p with outgoing := p.outgoing ++ [r], requests := p.requests.drop 1, headTaken := false }

/-- The head answered. -/
def State.replyHead (s : State) (q : Queued) (a : Answer) : State :=
  { s with port := s.port.replyHead (q.request.reply q.tag a.result a.fields) }

/-- The head of the queue, where it can be handed to its owner now: "only while the outgoing replies (R176) hold fewer than 8" (R175), and
not while it holds its reply (R106) or a RESTART is under way (R183). -/
def Port.servable (p : Port) : Option Queued :=
  if p.restarting || p.headTaken || decide (8 ≤ p.outgoing.length) then none else p.requests.head?

/-- The head carried out (R175). -/
def State.serve (s : State) (q : Queued) : State :=
  match s.carry q.request with
  | (t, some a) => t.replyHead q a
  | (t, none) => { t with port := { t.port with headTaken := true } }

/-- The port after an event that may have made its head servable: the transmitter takes its turn, and heads are carried out while they
can be. The queue holds 4 requests at most, so the count `n` never runs out. -/
def State.settlePort : Nat → State → State
  | 0, s => s.pump
  | n + 1, s =>
    match s.pump.port.servable with
    | none => s.pump
    | some q => (s.pump.serve q).settlePort n

/-- The number of heads that one event can carry out: a full queue, and one to find it empty. -/
def portTurns : Nat := 5

/-- A request command: the arrival of a judged request, and its service as far as the port allows (R175, log 5). -/
def State.request (s : State) (tag : Byte) (r : Request) : State :=
  { s with port := s.port.arrive tag r.judged }.settlePort portTurns

end Sys2Proof.Machine
end

