-- ==== Sys2Proof/Machine/Receive.lean ====
section
/-! DEFINITION. The receiver of the host line: bytes, frames, and the judgment of a frame as a request (R173, R174, section 11.3). -/

namespace Sys2Proof.Machine

/-- A card ID read from 7 bytes. -/
def cardAt (at_ : Nat) (bytes : List Byte) : CardId :=
  BitVec.ofNat 56 (fieldAt at_ 7 bytes)

/-- The card IDs of a page, 7 bytes each; `n` bounds their number. -/
def cardsOf : Nat → List Byte → List CardId
  | 0, _ => []
  | n + 1, bytes => if bytes.length < 7 then [] else cardAt 0 bytes :: cardsOf n (bytes.drop 7)

/-- A purse read from 4 bytes in two's complement (R184). -/
def purseAt (at_ : Nat) (bytes : List Byte) : Int :=
  (BitVec.ofNat 32 (fieldAt at_ 4 bytes)).toInt

/-- The fields of a SIGHTING request (R186). -/
def sightingOf (p : List Byte) : SightingFields :=
  { cardId := cardAt 0 p, counter := fieldAt 7 3 p, purse := purseAt 10 p, kind := fieldAt 14 1 p, second := fieldAt 15 4 p,
    station := fieldAt 19 1 p, gate := fieldAt 20 1 p, passage := fieldAt 21 1 p }

/-- The date and time of a SET_CLOCK request. -/
def dateTimeAt (p : List Byte) : DateTime :=
  { year := fieldAt 0 2 p, month := fieldAt 2 1 p, day := fieldAt 3 1 p, hour := fieldAt 4 1 p, minute := fieldAt 5 1 p,
    second := fieldAt 6 1 p }

/-- Whether a payload length is one that a request kind allows (section 11.3). -/
def lengthAllowed (kind : Nat) (n : Nat) : Bool :=
  match kind with
  | 0x01 => n = 1
  | 0x02 => n = 2
  | 0x03 => n = 1
  | 0x04 => n = 6
  | 0x05 => n = 1
  | 0x06 => n = 2
  | 0x07 => n = 1
  | 0x08 => n = 2
  | 0x09 => n = 7
  | 0x0A => n = 16
  | 0x0B => n ∈ tariffLengths
  | 0x0C => n = 4
  | 0x0D => n = 0
  | 0x0E => n = 17
  | 0x0F => n = 1
  | 0x10 => n = 8
  | 0x11 => n = 0
  | 0x12 => n = 7
  | 0x13 => n = 7
  | 0x14 => n = 2
  | 0x15 => n ≤ 595 && n % 7 = 0
  | 0x16 => n = 0
  | 0x17 => n = 7
  | 0x18 => n = 7
  | 0x19 => n = 1
  | 0x1A => n = 22
  | 0x1B => n = 8
  | 0x1C => n = 5
  | 0x1D => n = 4
  | 0x1E => n = 7
  | 0x1F => n = 0
  | _ => false

/-- The request that a payload of an allowed length carries (section 11.3). -/
def requestOf (kind : Byte) (p : List Byte) : Request :=
  match kind.toNat with
  | 0x01 => .getStatus (fieldAt 0 1 p)
  | 0x02 => .setIdentity (fieldAt 0 1 p) (fieldAt 1 1 p)
  | 0x03 => .setAisleMode (fieldAt 0 1 p)
  | 0x04 => .setParameter (fieldAt 0 1 p) (fieldAt 1 1 p) (fieldAt 2 4 p)
  | 0x05 => .gateCommand (fieldAt 0 1 p)
  | 0x06 => .serviceHold (fieldAt 0 1 p) (fieldAt 1 1 p)
  | 0x07 => .clearFault (fieldAt 0 1 p)
  | 0x08 => .setFaultResponse (fieldAt 0 1 p) (fieldAt 1 1 p)
  | 0x09 => .setLampPriority (byteNumbers p)
  | 0x0A => .setDirectionTable (byteNumbers p)
  | 0x0B => .tariffLoad (fieldAt 0 1 p) (p.drop 1)
  | 0x0C => .tariffActivate (fieldAt 0 2 p) (fieldAt 2 2 p)
  | 0x0D => .tariffDiscard
  | 0x0E => .keyLoad (fieldAt 0 1 p) (BitVec.ofNat 128 (fieldAt 1 16 p))
  | 0x0F => .keyErase (fieldAt 0 1 p)
  | 0x10 => .setClock (dateTimeAt p) (fieldAt 7 1 p)
  | 0x11 => .getClock
  | 0x12 => .denylistAdd (cardAt 0 p)
  | 0x13 => .denylistRemove (cardAt 0 p)
  | 0x14 => .denylistBegin (fieldAt 0 2 p)
  | 0x15 => .denylistPage (cardsOf 85 p)
  | 0x16 => .denylistEnd
  | 0x17 => .denylistQuery (cardAt 0 p)
  | 0x18 => .holdRelease (cardAt 0 p)
  | 0x19 => .holdListRead (fieldAt 0 1 p)
  | 0x1A => .sighting (sightingOf p)
  | 0x1B => .stationFreePeriod (fieldAt 0 4 p) (fieldAt 4 4 p)
  | 0x1C => .journalRead (fieldAt 0 4 p) (fieldAt 4 1 p)
  | 0x1D => .journalRelease (fieldAt 0 4 p)
  | 0x1E => .setNoticeMask (byteNumbers p)
  | 0x1F => .restart
  | _ => .unknownKind kind

/-- A frame judged by its kind and its length (R174). -/
def judgeFrame (kind : Byte) (p : List Byte) : Request :=
  if isRequestKind kind then
    if lengthAllowed kind.toNat p.length then requestOf kind p else .badLength kind
  else .unknownKind kind

/-- The receiver back in HUNTING after a discard, which raises a rejection (R173, R176). -/
def Port.discardFrame (p : Port) : Port :=
  { p with receiver := .hunting, gap := none }.reject

/-- The length field of the bytes collected after the start byte. -/
def collectedLength (bytes : List Byte) : Nat :=
  fieldAt 0 2 bytes

/-- Whether the last byte collected completes a frame: length 2, kind, tag, the payload and the CRC (R173). -/
def frameComplete (bytes : List Byte) : Bool :=
  2 ≤ bytes.length && decide (bytes.length = collectedLength bytes + 6)

/-- Whether a complete frame's CRC matches; it covers the bytes from the length through the end of the payload (R173). -/
def crcMatches (bytes : List Byte) : Bool :=
  decide ((crc16 (bytes.take (collectedLength bytes + 4))).toNat = fieldAt (collectedLength bytes + 4) 2 bytes)

/-- A byte collected in RECEIVING: the port after it, and the tag and request of a frame it completes (R173, R174). -/
def Port.collect (p : Port) (bytes : List Byte) : Port × Option (Byte × Request) :=
  if bytes.length = 2 ∧ 600 < collectedLength bytes then (p.discardFrame, none)
  else if frameComplete bytes then
    if crcMatches bytes then
      ({ p with receiver := .hunting, gap := none },
        some (bytes.getD 3 0, judgeFrame (bytes.getD 2 0) ((bytes.drop 4).take (collectedLength bytes))))
    else (p.discardFrame, none)
  else ({ p with receiver := .receiving bytes, gap := some gapMs }, none)

/-- One byte at the receiver (R173). -/
def Port.takeByte (p : Port) (b : Byte) (stopBit : Bool) : Port × Option (Byte × Request) :=
  match p.receiver with
  | .hunting =>
    if stopBit = true ∧ b = 0x5C#8 then ({ p with receiver := .receiving [], gap := some gapMs }, none) else (p, none)
  | .receiving bytes => if stopBit then p.collect (bytes ++ [b]) else (p.discardFrame, none)

/-- One byte at the port: a frame it completes arrives as a request (R174, R175). -/
def State.takeByte (s : State) (b : Byte) (stopBit : Bool) : State :=
  match s.port.takeByte b stopBit with
  | (p, none) => { s with port := p }.pump
  | (p, some (tag, r)) => { s with port := p }.request tag r

/-- The gap timer expires: the frame in progress is discarded (R173). -/
def State.gapExpires (s : State) : State :=
  match s.port.gap with
  | none => s
  | some _ => { s with port := s.port.discardFrame }

end Sys2Proof.Machine
end

