-- ==== Sys2Proof/Machine/Start.lean ====
section
/-! DEFINITION. The two kinds of start (R182, R183) with the start work of every block (R44, R90, R109, R118, R122, R124, R134, R154, R169, R172), and the end of a frame on the line (R176). -/

namespace Sys2Proof.Machine

/-! Start values of the main domain. -/

/-- A reader side at a start (R1); its carrier is a pin and stays as it is. -/
def Reader.restart (r : Reader) : Reader :=
  { Reader.atStart with carrier := r.carrier }

/-- A filter at a start: "The result becomes the filtered state at once, with no debounce" (R118). -/
def Aisle.startFilter (x : Aisle) (i : Input) : Filter :=
  { filtered := x.level i, debounce := none }

/-- Aisle sensing at a start (R118, R122, R124); pins and parameters stay. -/
def Aisle.restart (x : Aisle) : Aisle :=
  let x : Aisle :=
    { x with
      filters :=
        { za := x.startFilter .za, zm := x.startFilter .zm, zb := x.startFilter .zb, openLimit := x.startFilter .openLimit,
          closedLimit := x.startFilter .closedLimit, driveFault := x.startFilter .driveFault, emergency := x.startFilter .emergency }
      stuck := { za := { timer := none, stuck := false }, zm := { timer := none, stuck := false }, zb := { timer := none, stuck := false } } }
  { x.startStuck with
    tracker := { state := .empty, resync := !x.zones.allClear, behind := false, byFollower := false, pattern := x.zones } }

/-- The passage controller at a start before its barrier state is chosen (R131, R134, R142, R147); its retained parameters stay. The last pattern
handed on is the starting values of all three zones, before aisle sensing has handed on any: R118 lets the controller read the emergency
input and the limits at a start, R134 reads ZM there, and no rule gives ZA and ZB (DESIGN CHOICE, log 41). -/
def Gate.restart (g : Gate) (zones : PerZone Bool) : Gate :=
  { g with
    queues := { a := [], b := [] }, reservations := { a := .absent, b := .absent }, barrier := .checking, phase := none, owner := none,
    drive := driveOf .checking none zones.zm .close, travel := none, closeDelay := none,
    reasons := { emergency := false, command := false, fault := false }, unverified := false, holdOrder := false,
    failClosedOrder := false, freeCount := 0, seen := zones, pointer := 0, alarms := { a := none, b := none } }

/-- Supervision at a start before its faults are raised (R154, R159, R162). -/
def Supervision.restart (x : Supervision) : Supervision :=
  { x with
    conds :=
      { barrier := .clear, sensor := .clear, readerA := .clear, readerB := .clear, clock := .clear, journal := .clear, tariff := .clear }
    barrierHold := false, readerHold := { a := false, b := false }, refusal := { a := none, b := none } }

/-- One value for all classes. -/
def PerClass.all (x : α) : PerClass α :=
  { tapResult := x, passage := x, sightingOut := x, alarm := x, fault := x, journalLow := x, holdAdded := x }

/-- The host port at a start (R182, R178); the identity stays. -/
def Port.restart (p : Port) : Port :=
  { p with
    receiver := .hunting, gap := none, requests := [], headTaken := false, outgoing := [], rejection := 0, notices := [], line := none,
    discarded := 0, masked := .all false, flagged := .all false, withheld := .all 0 }

/-- A screening unit at a start: the apply and the build are abandoned (R100). -/
def Screen.restart (c : Screen) : Screen :=
  { c with applying := false, build := .idle, buildList := [], buildVersion := 0, buildLast := none }

/-- The main-domain state of every block at its start value. -/
def State.mainReset (s : State) : State :=
  let aisle := s.aisle.restart
  { s with
    readers := { a := s.readers.a.restart, b := s.readers.b.restart }
    ctxs := { a := { state := .polling, tx := none }, b := { state := .polling, tx := none } }
    fares := { current := none, waiting := none }
    tariff := { s.tariff with pinned := false }
    screen := s.screen.restart
    aisle := aisle
    gate := s.gate.restart aisle.zones
    sup := s.sup.restart
    port := s.port.restart }

/-- Every retained state at its cold value (R182); the pins and the waiting commands are not the FG-2's to reset. -/
def State.coldRetained (s : State) : State :=
  { State.reset with
    readers :=
      { a := { Reader.atStart with carrier := s.readers.a.carrier }, b := { Reader.atStart with carrier := s.readers.b.carrier } }
    aisle := { State.reset.aisle with pins := s.aisle.pins }
    journal := { records := [], next := 1, reserved := 0, armed := true }
    markerValid := s.markerValid
    pending := s.pending }

/-! Start work. -/

/-- An in-doubt entry at a warm start: detached, with a fresh deadline (R44). -/
def InDoubt.rearm (e : InDoubt) (periodS : Nat) : InDoubt :=
  { e with attached := false, passed := false, deadline := some (periodS * secondMs) }

/-- The retained state at a warm start: the in-doubt re-arming with the reservation count (R44, R168), the sightings (R109) and the free
period end (R90). -/
def State.warmRetained (s : State) : State :=
  { s with
    doubt := { s.doubt with entries := s.doubt.entries.map fun e => e.rearm s.doubt.periodS }
    journal := { s.journal with reserved := s.doubt.entries.length }
    screen := { s.screen with sightings := s.screen.sightings.map warmSighting }
    tariff := { s.tariff with period := endPeriod s.tariff.period s.now } }

/-- The start's own journal record (R172). -/
def State.startRecord (s : State) (cause : Option StartCause) (kept : Nat) (abandoned : Bool) : State :=
  match cause with
  | none => s.appendRaw none none .journalStart
  | some c => if s.free > s.journal.reserved then s.appendRaw s.now none (.warmStart c kept abandoned) else s

/-- STARTED, "at the head of the empty notice queue" (R182). -/
def State.startedNotice (s : State) (cause : Option StartCause) (kept : Nat) (abandoned : Bool) : State :=
  s.notify (.started
    { cause := cause, nextSeq := s.journal.next, kept := kept, abandoned := abandoned, clockRunning := s.now.isSome,
      tariff := s.activeVersion, barrier := if s.aisle.active .emergency then .freeOpen else .checking })

/-- The low notice at a start (R169). -/
def State.startLow (s : State) : State :=
  { s with journal := { s.journal with armed := true } }.lowCheck

/-- The barrier at a start: free-open if the emergency input is ACTIVE, else the check cycle (R134, R140, R149). -/
def State.startBarrier (s : State) : State :=
  if s.aisle.active .emergency then
    { s with gate := { s.gate with reasons := { s.gate.reasons with emergency := true } } }.enterFreeOpen .emergency
  else s.beginChecking

/-- A reader whose front end reports no carrier enters DOWN with its fault (R7, R154). -/
def State.startReader (s : State) (sd : Side) : State :=
  if (s.reader sd).carrier then s else (s.linkDown sd).raisePlain sd.readerClass

/-- The faults whose cause holds at the start, in the order of R154. -/
def State.startFaults (s : State) : State :=
  let s := if s.aisle.active .driveFault then s.driveFaultActive else s
  let s := (s.startReader .a).startReader .b
  let s := if s.now.isNone then s.raisePlain .clock else s
  let s := if s.tariffActive then s else s.raisePlain .tariff
  if s.free ≤ 16 then s.raiseJournal else s

/-- The start event after the domains hold their start values: record, STARTED, the low notice, the barrier and the faults (R172, R182;
log 10). The marker is VALID at its end, and the transmitter begins. -/
def State.startWork (s : State) (cause : Option StartCause) (abandoned : Bool) : State :=
  let kept := s.doubt.entries.length
  let s := s.startRecord cause kept abandoned
  let s := s.startedNotice cause kept abandoned
  let s := ((s.startLow).startBarrier).startFaults
  { s with markerValid := true }.pump

/-- A cold start (R182). STARTED says that no denylist build was abandoned, whatever the build state was: R100 speaks of the abandonment of
a build at a warm start only, and R182 does not say what a cold start reports (DESIGN CHOICE, log 40). -/
def State.coldStart (s : State) : State :=
  s.coldRetained.mainReset.startWork none false

/-- A warm start with its cause (R182); a build in BUILDING or ENDING is abandoned (R100). -/
def State.warmStart (s : State) (cause : StartCause) : State :=
  s.mainReset.warmRetained.startWork (some cause) (decide (s.screen.build ≠ .idle))

/-- A start: "If it is INVALID, the start is a cold start. If it is VALID, the start is a warm start" (R182). -/
def State.start (s : State) (cause : StartCause) : State :=
  if s.markerValid then s.warmStart cause else s.coldStart

/-! The end of a frame and the swap of a bulk replace. -/

/-- The last byte of the frame on the line has left (R176): the next frame begins, heads that waited for room are carried out (R175), and
the OK of a RESTART is followed by its warm start (R183). -/
def State.frameLeaves (s : State) : State :=
  match s.port.line with
  | none => s.pump
  | some f => if f.isRestart then s.start .restart else { s with port := { s.port with line := none } }.settlePort portTurns

/-- The END reply that the swap sends (R106). -/
def State.endReply (s : State) : State :=
  match s.port.requests with
  | [] => s
  | q :: _ =>
    if s.port.headTaken then s.replyHead q { result := .ok, fields := s.screen.endFields } else s

/-- The swap of a bulk replace, when its conditions hold (R106): the new list, the ordinary marks, the lookups that waited, and the reply
of DENYLIST_END. Where both contexts wait, side A's lookup is made before side B's, and so are what follow it, a pricing request among them
(DESIGN CHOICE, log 34). -/
def State.listSwap (s : State) : State :=
  if s.canSwapList then
    let s := { s with screen := s.screen.swapList }
    let s := (s.ordinaryMark .a).ordinaryMark .b
    let s := (s.screenWaiting .a).screenWaiting .b
    s.endReply.settlePort portTurns
  else s.pump

end Sys2Proof.Machine
end

