-- ==== Sys2Proof/Machine/GateCommands.lean ====
section
/-! DEFINITION. The events and requests of aisle sensing and of the passage controller (spec/06_aisle_sensing.md, spec/07_barrier_and_passage_control.md). -/

namespace Sys2Proof.Machine

/-- The raw level of an input changed; the debounce timer follows (R119). -/
def State.rawChange (s : State) (i : Input) (high : Bool) : State :=
  { s with aisle := { s.aisle with pins := s.aisle.pins.set i high }.refilter i }

/-- RAW_INPUT_CHANGE (R119): the raw level of an input. -/
def execRawInputChange (i : Input) (high : Bool) (s : State) : Host.Outcome State Fault Refusal :=
  finishEvent (s.rawChange i high)

/-- The filtered change of one input, or of the zones whose timers expire at one instant (R119, R121, R125). -/
def State.debounced (s : State) : DebounceGroup → State
  | .zones za zm zb => s.zonesSettle (zoneList za zm zb)
  | .single i =>
    match i.zone with
    | some z => s.zonesSettle [z]
    | none => s.equipmentSettles i

/-- DEBOUNCE_EXPIRY (R119, R125). -/
def execDebounceExpiry (group : DebounceGroup) (s : State) : Host.Outcome State Fault Refusal :=
  finishEvent (s.debounced group)

/-- STUCK_TIMER_EXPIRY (R122). -/
def execStuckTimerExpiry (z : Zone) (s : State) : Host.Outcome State Fault Refusal :=
  finishEvent (s.stuckExpires z)

/-- SET_PARAMETER (R120, R181). -/
def execSetParameter (tag : Byte) (param input value : Nat) (s : State) : Host.Outcome State Fault Refusal :=
  .next (s.request tag (.setParameter param input value))

/-- TRAVEL_TIMER_EXPIRY (R136, R140): the travel did not reach its limit. -/
def execTravelTimerExpiry (s : State) : Host.Outcome State Fault Refusal :=
  finishEvent s.travelFails

/-- The passage deadline of the owner's head expires (R133, R137); an emptied queue lets the close delay run (R138). -/
def State.passageExpires (s : State) : State :=
  match s.gate.barrier, s.gate.owner with
  | .opened, some sd =>
    match s.gate.queues.get sd with
    | [] => s
    | x :: xs =>
      match x.deadline with
      | none => s
      | some _ =>
        let s := (s.setQueue sd xs).endUnused sd x .expired
        { s with gate := s.gate.headDeadline }.delayEval
  | _, _ => s

/-- PASSAGE_DEADLINE_EXPIRY (R137). -/
def execPassageDeadlineExpiry (s : State) : Host.Outcome State Fault Refusal :=
  finishEvent s.passageExpires

/-- The close-delay timer expires where it runs (R138, R139). -/
def State.closeDelayExpires (s : State) : State :=
  match s.gate.closeDelay with
  | none => s
  | some _ => s.delayExpires

/-- CLOSE_DELAY_EXPIRY (R138, R139). -/
def execCloseDelayExpiry (s : State) : Host.Outcome State Fault Refusal :=
  finishEvent s.closeDelayExpires

/-- ALARM_TIMER_EXPIRY: the side's alarm ends (R147). -/
def execAlarmTimerExpiry (sd : Side) (s : State) : Host.Outcome State Fault Refusal :=
  finishEvent { s with gate := { s.gate with alarms := s.gate.alarms.set sd none } }

/-- SET_AISLE_MODE (R152). -/
def execSetAisleMode (tag : Byte) (mode : Nat) (s : State) : Host.Outcome State Fault Refusal :=
  .next (s.request tag (.setAisleMode mode))

/-- SET_DIRECTION_TABLE (R142). -/
def execSetDirectionTable (tag : Byte) (entries : List Nat) (s : State) : Host.Outcome State Fault Refusal :=
  .next (s.request tag (.setDirectionTable entries))

/-- FREE_OPEN: GATE_COMMAND 1 (R153). -/
def execFreeOpen (tag : Byte) (s : State) : Host.Outcome State Fault Refusal :=
  .next (s.request tag (.gateCommand 1))

/-- RESUME: GATE_COMMAND 2 (R153). -/
def execResume (tag : Byte) (s : State) : Host.Outcome State Fault Refusal :=
  .next (s.request tag (.gateCommand 2))

/-- GRANT_A: GATE_COMMAND 3 (R153). -/
def execGrantA (tag : Byte) (s : State) : Host.Outcome State Fault Refusal :=
  .next (s.request tag (.gateCommand 3))

/-- GRANT_B: GATE_COMMAND 4 (R153). -/
def execGrantB (tag : Byte) (s : State) : Host.Outcome State Fault Refusal :=
  .next (s.request tag (.gateCommand 4))

/-- CANCEL_GRANTS: GATE_COMMAND 5 (R153). -/
def execCancelGrants (tag : Byte) (s : State) : Host.Outcome State Fault Refusal :=
  .next (s.request tag (.gateCommand 5))

end Sys2Proof.Machine
end

