-- ==== Sys2Proof/Machine/PortCommands.lean ====
section
/-! DEFINITION. The commands of the revenue journal and of the host port (spec/09_the_revenue_journal.md, spec/10_host_port_and_start_up.md). -/

namespace Sys2Proof.Machine

/-- JOURNAL_READ (R170). -/
def execJournalRead (tag : Byte) (start count : Nat) (s : State) : Host.Outcome State Fault Refusal :=
  .next (s.request tag (.journalRead start count))

/-- JOURNAL_RELEASE (R171). -/
def execJournalRelease (tag : Byte) (n : Nat) (s : State) : Host.Outcome State Fault Refusal :=
  .next (s.request tag (.journalRelease n))

/-- RX_BYTE: a byte on the host line (R173). -/
def execRxByte (byte : Byte) (stopBit : Bool) (s : State) : Host.Outcome State Fault Refusal :=
  .next (s.takeByte byte stopBit)

/-- GAP_TIMER_EXPIRY (R173): the frame in progress is discarded. -/
def execGapTimerExpiry (s : State) : Host.Outcome State Fault Refusal :=
  finishEvent s.gapExpires

/-- UNKNOWN_KIND (R174): a frame whose kind is not a request kind. -/
def execUnknownKind (tag : Byte) (kind : Byte) (s : State) : Host.Outcome State Fault Refusal :=
  .next (s.request tag (.unknownKind kind))

/-- BAD_LENGTH (R174): a request kind with a payload length it does not allow. -/
def execBadLength (tag : Byte) (kind : Byte) (s : State) : Host.Outcome State Fault Refusal :=
  .next (s.request tag (.badLength kind))

/-- FRAME_SENT (R176, R183): the frame on the line has left the transmitter. -/
def execFrameSent (s : State) : Host.Outcome State Fault Refusal :=
  .next s.frameLeaves

/-- SET_NOTICE_MASK (R178). -/
def execSetNoticeMask (tag : Byte) (masks : List Nat) (s : State) : Host.Outcome State Fault Refusal :=
  .next (s.request tag (.setNoticeMask masks))

/-- GET_STATUS (R179). -/
def execGetStatus (tag : Byte) (part : Nat) (s : State) : Host.Outcome State Fault Refusal :=
  .next (s.request tag (.getStatus part))

/-- SET_IDENTITY (R180). -/
def execSetIdentity (tag : Byte) (station gate : Nat) (s : State) : Host.Outcome State Fault Refusal :=
  .next (s.request tag (.setIdentity station gate))

/-- RESTART (R183). -/
def execRestart (tag : Byte) (s : State) : Host.Outcome State Fault Refusal :=
  .next (s.request tag .restart)

end Sys2Proof.Machine
end

