-- ==== Sys2Proof/Machine/ReaderCommands.lean ====
section
/-! DEFINITION. The events of the reader sides and of the card link (spec/01_readers_and_the_card_link.md). -/

namespace Sys2Proof.Machine

/-- SETTLE_TIMER_EXPIRY (R2): SEARCHING, the cadence, the idle timer and the first summons. -/
def execSettleTimerExpiry (sd : Side) (s : State) : Host.Outcome State Fault Refusal :=
  finishEvent (s.settleExpires sd)

/-- SUMMONS_TIMER_EXPIRY (R3, R5): the next summons, unless the holdoff timer runs. -/
def execSummonsTimerExpiry (sd : Side) (s : State) : Host.Outcome State Fault Refusal :=
  finishEvent (s.summonsExpires sd)

/-- An answer in an open hail window (R4); an answer with no window and no exchange is ignored (R13). -/
def Reader.hearHail (r : Reader) (clean : Bool) (card : CardId) : Reader :=
  { r with
    window := r.window.map fun w => if clean then { w with ids := w.ids ++ [card] } else { w with garbled := true } }

/-- HAIL: an answer reaches the front end in the hail window, clean or garbled (R4). -/
def execHail (sd : Side) (clean : Bool) (card : CardId) (s : State) : Host.Outcome State Fault Refusal :=
  finishEvent (s.setReader sd ((s.reader sd).hearHail clean card))

/-- HAIL_WINDOW_CLOSE: "When the hail window closes, the side judges its contents" (R4). -/
def execHailWindowClose (sd : Side) (s : State) : Host.Outcome State Fault Refusal :=
  match (s.reader sd).window with
  | none => finishEvent s
  | some w => finishEvent ((s.setReader sd { s.reader sd with window := none }).judgeWindow sd w)

/-- IDLE_TIMER_EXPIRY: QUIET "if the aisle mode is CLOSED at that moment, and IDLE otherwise" (R3). -/
def execIdleTimerExpiry (sd : Side) (s : State) : Host.Outcome State Fault Refusal :=
  finishEvent (s.idleExpires sd)

/-- HOLDOFF_TIMER_EXPIRY: a summons at once, and the context returns to POLLING (R5, R26). -/
def execHoldoffTimerExpiry (sd : Side) (s : State) : Host.Outcome State Fault Refusal :=
  finishEvent (s.holdoffExpires sd)

/-- SAME_CARD_HOLD_EXPIRY: "When the absence timer expires, the hold is removed" (R6). -/
def execSameCardHoldExpiry (sd : Side) (s : State) : Host.Outcome State Fault Refusal :=
  finishEvent (s.holdExpires sd)

/-- CARRIER_LOSS (R7): DOWN, the reader fault, and CARD_LOST for an exchange in progress. -/
def execCarrierLoss (sd : Side) (s : State) : Host.Outcome State Fault Refusal :=
  finishEvent (s.carrierLost sd)

/-- CARRIER_RETURN (R7, R8): the reader fault clears, and the side settles unless a reader hold keeps it DOWN. -/
def execCarrierReturn (sd : Side) (s : State) : Host.Outcome State Fault Refusal :=
  finishEvent (s.carrierReturns sd)

/-- CLAIMED (R11, R13). -/
def execClaimed (sd : Side) (frameOk : Bool) (area : StaticArea) (blocked : Bool) (s : State) : Host.Outcome State Fault Refusal :=
  finishEvent (s.claimedArrives sd frameOk area blocked)

/-- SLOT (R13, R15, R27). -/
def execSlot (sd : Side) (frameOk turn : Bool) (no : SlotNo) (contents : RawRecord) (s : State) : Host.Outcome State Fault Refusal :=
  finishEvent (s.slotArrives sd frameOk turn no contents)

/-- DONE (R13, R15, R31, R35). -/
def execDone (sd : Side) (frameOk turn : Bool) (s : State) : Host.Outcome State Fault Refusal :=
  finishEvent (s.doneArrives sd frameOk turn)

/-- ANSWER_TIMER_EXPIRY (R14): the frame again, or CARD_LOST after the third attempt. -/
def execAnswerTimerExpiry (sd : Side) (s : State) : Host.Outcome State Fault Refusal :=
  finishEvent (s.answerExpires sd)

end Sys2Proof.Machine
end

