-- ==== Sys2Proof/Machine/ScreenCommands.lean ====
section
/-! DEFINITION. The commands of the screening unit (spec/05_card_screening.md). -/

namespace Sys2Proof.Machine

/-- HOLD_RELEASE (R99). -/
def execHoldRelease (tag : Byte) (card : CardId) (s : State) : Host.Outcome State Fault Refusal :=
  .next (s.request tag (.holdRelease card))

/-- HOLD_LIST_READ (R99). -/
def execHoldListRead (tag : Byte) (start : Nat) (s : State) : Host.Outcome State Fault Refusal :=
  .next (s.request tag (.holdListRead start))

/-- DENYLIST_ADD (R101). -/
def execDenylistAdd (tag : Byte) (card : CardId) (s : State) : Host.Outcome State Fault Refusal :=
  .next (s.request tag (.denylistAdd card))

/-- DENYLIST_REMOVE (R101). -/
def execDenylistRemove (tag : Byte) (card : CardId) (s : State) : Host.Outcome State Fault Refusal :=
  .next (s.request tag (.denylistRemove card))

/-- DENYLIST_APPLY_BEGIN (R102): the head update is begun when it can be. -/
def execDenylistApplyBegin (s : State) : Host.Outcome State Fault Refusal :=
  finishEvent (if s.canBeginApply then { s with screen := { s.screen with applying := true } } else s)

/-- DENYLIST_APPLY_COMPLETE (R102): "The update takes effect at the completion of its apply". -/
def execDenylistApplyComplete (s : State) : Host.Outcome State Fault Refusal :=
  finishEvent s.completeApply

/-- DENYLIST_BEGIN (R105). -/
def execDenylistBegin (tag : Byte) (version : Nat) (s : State) : Host.Outcome State Fault Refusal :=
  .next (s.request tag (.denylistBegin version))

/-- DENYLIST_PAGE (R105). -/
def execDenylistPage (tag : Byte) (cards : List CardId) (s : State) : Host.Outcome State Fault Refusal :=
  .next (s.request tag (.denylistPage cards))

/-- DENYLIST_END (R106). -/
def execDenylistEnd (tag : Byte) (s : State) : Host.Outcome State Fault Refusal :=
  .next (s.request tag .denylistEnd)

/-- DENYLIST_SWAP (R106): the swap, at a moment at which its conditions hold. -/
def execDenylistSwap (s : State) : Host.Outcome State Fault Refusal :=
  .next s.listSwap

/-- DENYLIST_QUERY (R107). -/
def execDenylistQuery (tag : Byte) (card : CardId) (s : State) : Host.Outcome State Fault Refusal :=
  .next (s.request tag (.denylistQuery card))

/-- SIGHTING (R113). -/
def execSighting (tag : Byte) (fields : SightingFields) (s : State) : Host.Outcome State Fault Refusal :=
  .next (s.request tag (.sighting fields))

end Sys2Proof.Machine
end

