-- ==== Sys2Proof/Machine/StartCommands.lean ====
section
/-! DEFINITION. The starts: POWER_ON, RESET_PIN, SUPPLY_DIP and BACKUP_SUPPLY_FAILURE (R182). -/

namespace Sys2Proof.Machine

/-- POWER_ON: a start with cause POWER_ON if the marker is VALID (R182). -/
def execPowerOn (s : State) : Host.Outcome State Fault Refusal :=
  .next (s.start .powerOn)

/-- RESET_PIN: "the reset pin asserted" (R182). -/
def execResetPin (s : State) : Host.Outcome State Fault Refusal :=
  .next (s.start .resetPin)

/-- SUPPLY_DIP: "a main-supply dip with the retention domain intact" (R182). -/
def execSupplyDip (s : State) : Host.Outcome State Fault Refusal :=
  .next (s.start .supplyDip)

/-- BACKUP_SUPPLY_FAILURE: "The marker is INVALID when the backup supply has failed"; the next start is cold (R182, log 18). -/
def execBackupSupplyFailure (s : State) : Host.Outcome State Fault Refusal :=
  .next { s with markerValid := false }

end Sys2Proof.Machine
end

