-- ==== Sys2Proof/Machine/SupervisionCommands.lean ====
section
/-! DEFINITION. The commands of supervision (spec/08_faults_service_hold_and_aisle_lamps.md). -/

namespace Sys2Proof.Machine

/-- The code of a reader hold's target: 2 READER_A, 3 READER_B (section 11.1). -/
def holdTarget : Side → Nat
  | .a => 2
  | .b => 3

/-- SET_FAULT_RESPONSE (R157). -/
def execSetFaultResponse (tag : Byte) (cls response : Nat) (s : State) : Host.Outcome State Fault Refusal :=
  .next (s.request tag (.setFaultResponse cls response))

/-- CLEAR_FAULT (R158). -/
def execClearFault (tag : Byte) (cls : Nat) (s : State) : Host.Outcome State Fault Refusal :=
  .next (s.request tag (.clearFault cls))

/-- SERVICE_HOLD, BARRIER, ENTER (R159, R160). -/
def execServiceHoldBarrierEnter (tag : Byte) (s : State) : Host.Outcome State Fault Refusal :=
  .next (s.request tag (.serviceHold 1 1))

/-- SERVICE_HOLD, BARRIER, LEAVE (R159, R160). -/
def execServiceHoldBarrierLeave (tag : Byte) (s : State) : Host.Outcome State Fault Refusal :=
  .next (s.request tag (.serviceHold 1 2))

/-- SERVICE_HOLD, READER_A or READER_B, ENTER (R159, R161). -/
def execServiceHoldReaderEnter (tag : Byte) (sd : Side) (s : State) : Host.Outcome State Fault Refusal :=
  .next (s.request tag (.serviceHold (holdTarget sd) 1))

/-- SERVICE_HOLD, READER_A or READER_B, LEAVE (R159, R161). -/
def execServiceHoldReaderLeave (tag : Byte) (sd : Side) (s : State) : Host.Outcome State Fault Refusal :=
  .next (s.request tag (.serviceHold (holdTarget sd) 2))

/-- REFUSAL_TIMER_EXPIRY: the REFUSED lamp condition ends (R162). -/
def execRefusalTimerExpiry (sd : Side) (s : State) : Host.Outcome State Fault Refusal :=
  finishEvent { s with sup := { s.sup with refusal := s.sup.refusal.set sd none } }

/-- SET_LAMP_PRIORITY (R163). -/
def execSetLampPriority (tag : Byte) (order : List Nat) (s : State) : Host.Outcome State Fault Refusal :=
  .next (s.request tag (.setLampPriority order))

end Sys2Proof.Machine
end

