-- ==== Sys2Proof/Machine/TariffCommands.lean ====
section
/-! DEFINITION. The commands of the tariff and clock unit (spec/04_tariffs_products_and_the_calendar_clock.md). -/

namespace Sys2Proof.Machine

/-- TARIFF_LOAD (R75, R189). -/
def execTariffLoad (tag : Byte) (sect : Nat) (contents : List Byte) (s : State) : Host.Outcome State Fault Refusal :=
  .next (s.request tag (.tariffLoad sect contents))

/-- TARIFF_ACTIVATE (R77). -/
def execTariffActivate (tag : Byte) (version day : Nat) (s : State) : Host.Outcome State Fault Refusal :=
  .next (s.request tag (.tariffActivate version day))

/-- TARIFF_DISCARD (R80). -/
def execTariffDiscard (tag : Byte) (s : State) : Host.Outcome State Fault Refusal :=
  .next (s.request tag .tariffDiscard)

/-- KEY_LOAD (R83). -/
def execKeyLoad (tag : Byte) (slot : Nat) (key : Key) (s : State) : Host.Outcome State Fault Refusal :=
  .next (s.request tag (.keyLoad slot key))

/-- KEY_ERASE (R83). -/
def execKeyErase (tag : Byte) (slot : Nat) (s : State) : Host.Outcome State Fault Refusal :=
  .next (s.request tag (.keyErase slot))

/-- CLOCK_ADVANCE: one second of the tick at a RUNNING clock (R85). -/
def execClockAdvance (s : State) : Host.Outcome State Fault Refusal :=
  finishEvent s.advanceClock

/-- SET_CLOCK (R87, R88). -/
def execSetClock (tag : Byte) (d : DateTime) (force : Nat) (s : State) : Host.Outcome State Fault Refusal :=
  .next (s.request tag (.setClock d force))

/-- GET_CLOCK (R89). -/
def execGetClock (tag : Byte) (s : State) : Host.Outcome State Fault Refusal :=
  .next (s.request tag .getClock)

/-- STATION_FREE_PERIOD (R92). -/
def execStationFreePeriod (tag : Byte) (start stop : Nat) (s : State) : Host.Outcome State Fault Refusal :=
  .next (s.request tag (.stationFreePeriod start stop))

end Sys2Proof.Machine
end

