-- ==== Sys2Proof/Machine/TransactionCommands.lean ====
section
/-! DEFINITION. The events of the transaction engine and of the fare calculator (R29, R43, R49, R94). -/

namespace Sys2Proof.Machine

/-- GUARD_TIMER_EXPIRY (R29): TIMEOUT before the commit point. -/
def execGuardTimerExpiry (sd : Side) (s : State) : Host.Outcome State Fault Refusal :=
  finishEvent (s.guardExpires sd)

/-- SCREENING (R94): the screening of a side's card, taken as one event. -/
def execScreening (sd : Side) (s : State) : Host.Outcome State Fault Refusal :=
  finishEvent (s.screenEvent sd)

/-- PRICING_COMPLETE (R49): the calculator ends the pricing in progress. -/
def execPricingComplete (s : State) : Host.Outcome State Fault Refusal :=
  finishEvent s.pricingEnds

/-- IN_DOUBT_DEADLINE_EXPIRY (R43): the deadline of the card's entry passes. -/
def execInDoubtDeadlineExpiry (card : CardId) (s : State) : Host.Outcome State Fault Refusal :=
  finishEvent (s.deadlinePasses card)

end Sys2Proof.Machine
end

