-- ==== Sys2Proof/Machine/Dispatch.lean ====
section
/-! DEFINITION. The dispatch: one arm per command, each a direct call of its meaning. -/

namespace Sys2Proof.Machine

def exec (i : Instr) (s : State) : Host.Outcome State Fault Refusal :=
  match i with
  | .powerOn => Sys2Proof.Machine.execPowerOn s
  | .resetPin => Sys2Proof.Machine.execResetPin s
  | .supplyDip => Sys2Proof.Machine.execSupplyDip s
  | .settleTimerExpiry side => Sys2Proof.Machine.execSettleTimerExpiry side s
  | .summonsTimerExpiry side => Sys2Proof.Machine.execSummonsTimerExpiry side s
  | .hail side clean card => Sys2Proof.Machine.execHail side clean card s
  | .hailWindowClose side => Sys2Proof.Machine.execHailWindowClose side s
  | .idleTimerExpiry side => Sys2Proof.Machine.execIdleTimerExpiry side s
  | .holdoffTimerExpiry side => Sys2Proof.Machine.execHoldoffTimerExpiry side s
  | .sameCardHoldExpiry side => Sys2Proof.Machine.execSameCardHoldExpiry side s
  | .carrierLoss side => Sys2Proof.Machine.execCarrierLoss side s
  | .carrierReturn side => Sys2Proof.Machine.execCarrierReturn side s
  | .claimed side frameOk area blocked => Sys2Proof.Machine.execClaimed side frameOk area blocked s
  | .slot side frameOk turn no contents => Sys2Proof.Machine.execSlot side frameOk turn no contents s
  | .done side frameOk turn => Sys2Proof.Machine.execDone side frameOk turn s
  | .answerTimerExpiry side => Sys2Proof.Machine.execAnswerTimerExpiry side s
  | .guardTimerExpiry side => Sys2Proof.Machine.execGuardTimerExpiry side s
  | .screening side => Sys2Proof.Machine.execScreening side s
  | .pricingComplete => Sys2Proof.Machine.execPricingComplete s
  | .inDoubtDeadlineExpiry card => Sys2Proof.Machine.execInDoubtDeadlineExpiry card s
  | .tariffLoad tag sect contents => Sys2Proof.Machine.execTariffLoad tag sect contents s
  | .tariffActivate tag version day => Sys2Proof.Machine.execTariffActivate tag version day s
  | .tariffDiscard tag => Sys2Proof.Machine.execTariffDiscard tag s
  | .keyLoad tag slot key => Sys2Proof.Machine.execKeyLoad tag slot key s
  | .keyErase tag slot => Sys2Proof.Machine.execKeyErase tag slot s
  | .clockAdvance => Sys2Proof.Machine.execClockAdvance s
  | .setClock tag d force => Sys2Proof.Machine.execSetClock tag d force s
  | .getClock tag => Sys2Proof.Machine.execGetClock tag s
  | .stationFreePeriod tag start stop => Sys2Proof.Machine.execStationFreePeriod tag start stop s
  | .holdRelease tag card => Sys2Proof.Machine.execHoldRelease tag card s
  | .holdListRead tag start => Sys2Proof.Machine.execHoldListRead tag start s
  | .denylistAdd tag card => Sys2Proof.Machine.execDenylistAdd tag card s
  | .denylistRemove tag card => Sys2Proof.Machine.execDenylistRemove tag card s
  | .denylistApplyBegin => Sys2Proof.Machine.execDenylistApplyBegin s
  | .denylistApplyComplete => Sys2Proof.Machine.execDenylistApplyComplete s
  | .denylistBegin tag version => Sys2Proof.Machine.execDenylistBegin tag version s
  | .denylistPage tag cards => Sys2Proof.Machine.execDenylistPage tag cards s
  | .denylistEnd tag => Sys2Proof.Machine.execDenylistEnd tag s
  | .denylistSwap => Sys2Proof.Machine.execDenylistSwap s
  | .denylistQuery tag card => Sys2Proof.Machine.execDenylistQuery tag card s
  | .sighting tag fields => Sys2Proof.Machine.execSighting tag fields s
  | .rawInputChange input high => Sys2Proof.Machine.execRawInputChange input high s
  | .debounceExpiry group => Sys2Proof.Machine.execDebounceExpiry group s
  | .stuckTimerExpiry zone => Sys2Proof.Machine.execStuckTimerExpiry zone s
  | .setParameter tag param input value => Sys2Proof.Machine.execSetParameter tag param input value s
  | .travelTimerExpiry => Sys2Proof.Machine.execTravelTimerExpiry s
  | .passageDeadlineExpiry => Sys2Proof.Machine.execPassageDeadlineExpiry s
  | .closeDelayExpiry => Sys2Proof.Machine.execCloseDelayExpiry s
  | .alarmTimerExpiry side => Sys2Proof.Machine.execAlarmTimerExpiry side s
  | .setAisleMode tag mode => Sys2Proof.Machine.execSetAisleMode tag mode s
  | .setDirectionTable tag entries => Sys2Proof.Machine.execSetDirectionTable tag entries s
  | .freeOpen tag => Sys2Proof.Machine.execFreeOpen tag s
  | .resume tag => Sys2Proof.Machine.execResume tag s
  | .grantA tag => Sys2Proof.Machine.execGrantA tag s
  | .grantB tag => Sys2Proof.Machine.execGrantB tag s
  | .cancelGrants tag => Sys2Proof.Machine.execCancelGrants tag s
  | .setFaultResponse tag cls response => Sys2Proof.Machine.execSetFaultResponse tag cls response s
  | .clearFault tag cls => Sys2Proof.Machine.execClearFault tag cls s
  | .serviceHoldBarrierEnter tag => Sys2Proof.Machine.execServiceHoldBarrierEnter tag s
  | .serviceHoldBarrierLeave tag => Sys2Proof.Machine.execServiceHoldBarrierLeave tag s
  | .serviceHoldReaderEnter tag side => Sys2Proof.Machine.execServiceHoldReaderEnter tag side s
  | .serviceHoldReaderLeave tag side => Sys2Proof.Machine.execServiceHoldReaderLeave tag side s
  | .refusalTimerExpiry side => Sys2Proof.Machine.execRefusalTimerExpiry side s
  | .setLampPriority tag order => Sys2Proof.Machine.execSetLampPriority tag order s
  | .journalRead tag start count => Sys2Proof.Machine.execJournalRead tag start count s
  | .journalRelease tag seq => Sys2Proof.Machine.execJournalRelease tag seq s
  | .rxByte byte stopBit => Sys2Proof.Machine.execRxByte byte stopBit s
  | .gapTimerExpiry => Sys2Proof.Machine.execGapTimerExpiry s
  | .unknownKind tag kind => Sys2Proof.Machine.execUnknownKind tag kind s
  | .badLength tag kind => Sys2Proof.Machine.execBadLength tag kind s
  | .frameSent => Sys2Proof.Machine.execFrameSent s
  | .setNoticeMask tag masks => Sys2Proof.Machine.execSetNoticeMask tag masks s
  | .getStatus tag part => Sys2Proof.Machine.execGetStatus tag part s
  | .setIdentity tag station gate => Sys2Proof.Machine.execSetIdentity tag station gate s
  | .restart tag => Sys2Proof.Machine.execRestart tag s
  | .backupSupplyFailure => Sys2Proof.Machine.execBackupSupplyFailure s

end Sys2Proof.Machine
end

