-- ==== Sys2Proof/Machine/Tick.lean ====
section
/-! DEFINITION. The tick: what a step does while no command waits (spec/00_scope.md, Two kinds of time; log 2, log 4, log 32). -/

namespace Sys2Proof.Machine

/-- One millisecond off a running timer. -/
def Timer.tick (t : Timer) : Timer :=
  t.map (· - 1)

/-- Whether a timer has run out and its expiry is to be taken. -/
def Timer.due (t : Timer) : Bool :=
  decide (t = some 0)

/-! One millisecond of every running timer. -/

def Reader.tick (r : Reader) : Reader :=
  { r with
    settle := Timer.tick r.settle, summons := Timer.tick r.summons, idle := Timer.tick r.idle, holdoff := Timer.tick r.holdoff
    hold := r.hold.map fun h => { h with absence := h.absence - 1 }
    exchange := r.exchange.map fun x => { x with answer := Timer.tick x.answer }
    window := r.window.map fun w => { w with timer := w.timer - 1 } }

def Context.tick (c : Context) : Context :=
  { c with tx := c.tx.map fun t => { t with guard := Timer.tick t.guard } }

def DoubtTable.tick (d : DoubtTable) : DoubtTable :=
  { d with entries := d.entries.map fun e => { e with deadline := Timer.tick e.deadline } }

/-- The second of a RUNNING clock runs; an UNSET clock "does not advance" (R85). -/
def TariffUnit.tick (t : TariffUnit) : TariffUnit :=
  if t.clock.isSome then { t with toAdvance := t.toAdvance - 1 } else t

def Filter.tick (f : Filter) : Filter :=
  { f with debounce := Timer.tick f.debounce }

def StuckMonitor.tick (m : StuckMonitor) : StuckMonitor :=
  { m with timer := Timer.tick m.timer }

def Aisle.tick (x : Aisle) : Aisle :=
  { x with
    filters :=
      { za := x.filters.za.tick, zm := x.filters.zm.tick, zb := x.filters.zb.tick, openLimit := x.filters.openLimit.tick,
        closedLimit := x.filters.closedLimit.tick, driveFault := x.filters.driveFault.tick, emergency := x.filters.emergency.tick }
    stuck := { za := x.stuck.za.tick, zm := x.stuck.zm.tick, zb := x.stuck.zb.tick } }

def Auth.tick (x : Auth) : Auth :=
  { x with deadline := Timer.tick x.deadline }

def Gate.tick (g : Gate) : Gate :=
  { g with
    queues := { a := g.queues.a.map Auth.tick, b := g.queues.b.map Auth.tick }, travel := Timer.tick g.travel
    closeDelay := Timer.tick g.closeDelay, alarms := { a := Timer.tick g.alarms.a, b := Timer.tick g.alarms.b } }

def Supervision.tick (x : Supervision) : Supervision :=
  { x with refusal := { a := Timer.tick x.refusal.a, b := Timer.tick x.refusal.b } }

/-- One millisecond passes: every running timer has one millisecond less to run (log 2). -/
def State.tick (s : State) : State :=
  { s with
    readers := { a := s.readers.a.tick, b := s.readers.b.tick }
    ctxs := { a := s.ctxs.a.tick, b := s.ctxs.b.tick }
    doubt := s.doubt.tick
    tariff := s.tariff.tick
    aisle := s.aisle.tick
    gate := s.gate.tick
    sup := s.sup.tick
    port := { s.port with gap := Timer.tick s.port.gap } }

/-! What is due. -/

/-- The events of the aisle and the barrier that are due. The zones whose timers run out at one instant form one event (R125). -/
def State.dueAisle (s : State) : List (Bool × Instr) :=
  let f := s.aisle.filters
  let za := Timer.due f.za.debounce
  let zm := Timer.due f.zm.debounce
  let zb := Timer.due f.zb.debounce
  let head (sd : Side) : Bool := ((s.gate.queues.get sd).head?.bind (·.deadline)) = some 0
  [(Timer.due f.emergency.debounce, .debounceExpiry (.single .emergency)),
   (Timer.due f.driveFault.debounce, .debounceExpiry (.single .driveFault)),
   (Timer.due f.openLimit.debounce, .debounceExpiry (.single .openLimit)),
   (Timer.due f.closedLimit.debounce, .debounceExpiry (.single .closedLimit)),
   (za || zm || zb, .debounceExpiry (.zones za zm zb)),
   (Timer.due s.aisle.stuck.za.timer, .stuckTimerExpiry .za),
   (Timer.due s.aisle.stuck.zm.timer, .stuckTimerExpiry .zm),
   (Timer.due s.aisle.stuck.zb.timer, .stuckTimerExpiry .zb),
   (Timer.due s.gate.travel, .travelTimerExpiry),
   (decide (s.gate.barrier = .opened) && s.gate.owner.any head, .passageDeadlineExpiry),
   (Timer.due s.gate.closeDelay, .closeDelayExpiry),
   (Timer.due s.gate.alarms.a, .alarmTimerExpiry .a),
   (Timer.due s.gate.alarms.b, .alarmTimerExpiry .b)]

/-- The events of one reader side and its context that are due. -/
def State.dueReader (s : State) (sd : Side) : List (Bool × Instr) :=
  let r := s.reader sd
  [(r.window.any fun w => decide (w.timer = 0), .hailWindowClose sd),
   (r.exchange.any fun x => Timer.due x.answer, .answerTimerExpiry sd),
   (Timer.due ((s.ctx sd).tx.bind (·.guard)), .guardTimerExpiry sd),
   (Timer.due r.settle, .settleTimerExpiry sd),
   (Timer.due r.holdoff, .holdoffTimerExpiry sd),
   (Timer.due r.summons, .summonsTimerExpiry sd),
   (Timer.due r.idle, .idleTimerExpiry sd),
   (r.hold.any fun h => decide (h.absence = 0), .sameCardHoldExpiry sd),
   (Timer.due (s.sup.refusal.get sd), .refusalTimerExpiry sd)]

/-- The in-doubt entries whose deadlines are due. -/
def State.dueDoubt (s : State) : List (Bool × Instr) :=
  s.doubt.entries.map fun e => (Timer.due e.deadline, .inDoubtDeadlineExpiry e.card)

/-- The events that come at once when their conditions hold: the swap of a bulk replace "at the first moment" (R106) and the beginning of
an apply (R102). -/
def State.duePrompt (s : State) : List (Bool × Instr) :=
  [(s.canSwapList, .denylistSwap), (s.canBeginApply, .denylistApplyBegin)]

/-- All that may be due, in the order in which the idle step takes it (DESIGN CHOICE, log 4). -/
def State.dueList (s : State) : List (Bool × Instr) :=
  s.duePrompt ++ (Timer.due s.port.gap, .gapTimerExpiry) :: s.dueAisle ++ s.dueReader .a ++ s.dueReader .b ++ s.dueDoubt
    ++ [(s.tariff.clock.isSome && decide (s.tariff.toAdvance = 0), .clockAdvance)]

/-- The first event that is due, if one is. -/
def State.due (s : State) : Option Instr :=
  (s.dueList.find? (·.1)).map (·.2)

end Sys2Proof.Machine
end

