-- ==== Sys2Proof/Machine/Card.lean ====
section
/-! DEFINITION. The card's side of the link (R9, R10): a card is outside the FG-2 and no part of State; this small machine says what "the FG-2 depends on" (log 33). -/

namespace Sys2Proof.Machine

/-- A card in or out of the field: its areas (R17, R18), whether it is claimed, and the turn and answer of the last frame it acted on. -/
structure Card where
  area : StaticArea
  blocked : Bool
  slot0 : RawRecord
  slot1 : RawRecord
  claimed : Bool
  lastTurn : Option Bool
  saved : Option Instr
deriving DecidableEq, Repr

/-- The card unclaimed, with no saved answer and no turn. -/
def Card.unclaim (c : Card) : Card :=
  { c with claimed := false, lastTurn := none, saved := none }

/-- "A card that leaves the field loses its claimed state and its saved answer" (R9); one that enters is unclaimed. -/
def Card.leaveField (c : Card) : Card :=
  c.unclaim

/-- A slot's contents. -/
def Card.slot (c : Card) : SlotNo → RawRecord
  | .zero => c.slot0
  | .one => c.slot1

/-- A slot written. -/
def Card.setSlot (c : Card) (n : SlotNo) (w : RawRecord) : Card :=
  match n with
  | .zero => { c with slot0 := w }
  | .one => { c with slot1 := w }

/-- A claimed card takes a frame with a turn bit (R9): a turn equal to the recorded one is a repeat, answered with the saved answer and not
acted on; otherwise it acts, saves its answer and records the turn. -/
def Card.act (c : Card) (turn : Bool) (acted : Card) (answer : Option Instr) : Card × Option Instr :=
  if c.claimed then
    if c.lastTurn = some turn then (c, c.saved) else ({ acted with lastTurn := some turn, saved := answer }, answer)
  else (c, none)

/-- The card's action on a frame at a side, with its answer as the command it becomes there (R9); CLAIMED, SLOT and STORE travel in the
layouts of R188. -/
def Card.receive (c : Card) (sd : Side) : LinkFrame → Card × Option Instr
  | .summon => (c.unclaim, some (.hail sd true c.area.cardId))
  | .claim card =>
    if card = c.area.cardId then
      ({ c with claimed := true, lastTurn := none, saved := none }, claimedAnswer sd true (claimedPayload c.area c.blocked))
    else (c.unclaim, none)
  | .fetch turn no => c.act turn c (slotAnswer sd true turn (slotPayload no (c.slot no)))
  | .store turn no record =>
    match readSlot (storePayload no record) with
    | some (n, w) => c.act turn (c.setSlot n w) (some (.done sd true turn))
    | none => (c, none)
  | .mark turn => c.act turn { c with blocked := true } (some (.done sd true turn))
  | .part _ => (c.unclaim, none)

/-- A card that leaves the field during a STORE: "the named slot may be left holding its old contents, the complete new record, or a mixture
of the two", which `left` stands for; "The other slot keeps its contents" (R10). -/
def Card.tearStore (c : Card) (no : SlotNo) (left : RawRecord) : Card :=
  (c.setSlot no left).leaveField

end Sys2Proof.Machine
end

