-- ==== Sys2Proof/Safety.lean ====
section
/-! DEFINITION. The laws of the device as predicates on State, and what a safe step is. -/

namespace Sys2Proof.Machine

/-- The host port holds no more than its lists have places for (R175 to R177): 4 requests, 8 outgoing replies, of which a held head keeps
the last, 255 rejections, 32 notices and a discarded count of 65,535. -/
def Port.law (p : Port) : Prop :=
  p.requests.length ≤ 4 ∧ p.outgoing.length ≤ 8 ∧ p.rejection ≤ 255 ∧ p.notices.length ≤ 32 ∧ p.discarded ≤ 65535
    ∧ (p.headTaken = true → p.requests ≠ [] ∧ p.outgoing.length ≤ 7)

/-- "The denylist is strictly ascending and holds at most 16,384 entries; this is the law of the device for its order and capacity" (R100);
the build area, which becomes the list, keeps the same law under its last card ID, and the update queue holds 16 at most. -/
def Screen.denylistLaw (c : Screen) : Prop :=
  ascending c.denylist = true ∧ c.denylist.length ≤ 16384 ∧ ascending c.buildList = true ∧ c.buildList.length ≤ 16384
    ∧ c.buildLast = c.buildList.getLast? ∧ c.queue.length ≤ 16

/-- "For each side, authorisations held plus reservations never exceed 4; this is the law of the device for the queue" (R131). -/
def Gate.queueLaw (g : Gate) : Prop :=
  g.load .a ≤ 4 ∧ g.load .b ≤ 4

/-- The hold list is in its order, "holds at most 64 entries and at most one entry per card ID", and the hold time is in its range (R95,
R181). -/
def Screen.holdLaw (c : Screen) : Prop :=
  c.holds.Pairwise (fun x y => holdBefore y x = false) ∧ c.holds.length ≤ 64 ∧ (c.holds.map (·.card)).Nodup
    ∧ (1 ≤ c.holdHours ∧ c.holdHours ≤ 72)

/-- The sightings table is in its order, "holds at most 512 entries and at most one entry per card ID", and the horizon that is set and the
one in force are in their range (R109, R181). -/
def Screen.sightingLaw (c : Screen) : Prop :=
  c.sightings.Pairwise (fun x y => sightingBefore y x = false) ∧ c.sightings.length ≤ 512 ∧ (c.sightings.map (·.card)).Nodup
    ∧ (1 ≤ c.horizonMin ∧ c.horizonMin ≤ 120) ∧ (1 ≤ c.horizonInForce ∧ c.horizonInForce ≤ 120)

/-- The debounce time of every input is in its range (R120, R181). -/
def Aisle.paramLaw (x : Aisle) : Prop :=
  ∀ i, 1 ≤ (x.params.get i).debounceMs ∧ (x.params.get i).debounceMs ≤ 50

/-- The gate's parameters lie in their ranges (R134, R181), the direction table has 16 entries and the pointer names one of them (R142). -/
def Gate.rangeLaw (g : Gate) : Prop :=
  (300 ≤ g.travelMs ∧ g.travelMs ≤ 3000) ∧ g.closeDelayMs ≤ 5000 ∧ (3 ≤ g.windowS ∧ g.windowS ≤ 30) ∧ g.pointer < 16
    ∧ g.directions.length = 16 ∧ g.freeCount ≤ 65535

/-- A lamp always shows an active condition: "IDLE is always active, so a lamp always shows something" (R163). -/
def State.lampLaw (s : State) : Prop :=
  isLampOrder s.sup.lampOrder = true

/-- The receiver collects the beginning of a frame of at most 600 payload bytes that is not yet complete, with its gap timer running (R173),
and every request that waits in the queue has been judged, so that its fields are as many as its kind allows (R174). -/
def Port.receiverLaw (p : Port) : Prop :=
  (∀ q ∈ p.requests, q.request.judged = q.request) ∧
    match p.receiver with
    | .hunting => p.gap = none
    | .receiving bytes =>
      p.gap.isSome = true ∧ (2 ≤ bytes.length → collectedLength bytes ≤ 600 ∧ bytes.length < collectedLength bytes + 6)

/-- Records with consecutive sequence numbers, oldest first, whose newest is followed by `next` (R164). -/
def numbered : List JournalRecord → Nat → Prop
  | [], _ => True
  | [r], next => next = seqSucc r.seq
  | r :: q :: rest, next => q.seq = seqSucc r.seq ∧ numbered (q :: rest) next

/-- "Journal records held have consecutive sequence numbers" from 1 to 4,294,967,295, and the next number follows the newest (R164). -/
def Journal.numberLaw (j : Journal) : Prop :=
  numbered j.records j.next ∧ (1 ≤ j.next ∧ j.next ≤ 4294967295) ∧ ∀ r ∈ j.records, 1 ≤ r.seq ∧ r.seq ≤ 4294967295

/-- The in-doubt table "holds at most 4 entries", and the in-doubt period is in its range (R38, R181). -/
def DoubtTable.law (d : DoubtTable) : Prop :=
  d.entries.length ≤ 4 ∧ (5 ≤ d.periodS ∧ d.periodS ≤ 60)

/-- A reader side's parts agree with its link state: without carrier it is DOWN (R7), the settle timer runs in SETTLING (R2), a hail window
and a holdoff belong to SEARCHING and exclude each other (R4, R5), a claimed card and an exchange to BOUND (R11, R16). -/
def Reader.linkLaw (r : Reader) : Prop :=
  (r.carrier = false → r.link = .down) ∧ (r.settle.isSome = true ↔ r.link = .settling) ∧
  (r.window.isSome = true → r.link = .searching ∧ r.holdoff = none) ∧ (r.holdoff.isSome = true → r.link = .searching) ∧
  (r.claimed.isSome = true ↔ r.link = .bound) ∧ (r.exchange.isSome = true → r.link = .bound)

/-- The state in which a context waits for the answer to a frame (R22). -/
def LinkFrame.ctxState : LinkFrame → Option CtxState
  | .claim _ => some .claiming
  | .fetch _ _ => some .reading
  | .store _ _ _ => some .writing
  | .mark _ => some .marking
  | .summon | .part _ => none

/-- A context agrees with its side, with its authorisation reservation and with the in-doubt table: it has a transaction in the states that
serve a card (R21, R22, R25), with the card that the side has claimed (R11); an exchange is in progress in CLAIMING, READING, WRITING and
MARKING, for the frame of that state; it rests in OUT_OF_SERVICE while the link is DOWN, and in HOLDOFF only while the holdoff runs (R26);
its side's authorisation reservation is there as long as the transaction (R24, R132); its journal reservation is its own up to the commit
point (R24, R34, R38); a transaction in WRITING has its entry in the in-doubt table, and one in SCREENING or PRICING has none (R38, R39). -/
def State.contextLaw (s : State) (sd : Side) : Prop :=
  ((s.ctx sd).tx.isSome = (s.ctx sd).state.serving ∧ (s.ctx sd).state ≠ .finishing) ∧
  ((s.reader sd).claimed = none ∨ (s.reader sd).claimed = (s.ctx sd).tx.map (·.card)) ∧
  (∀ e, (s.reader sd).exchange = some e → e.frame.ctxState = some (s.ctx sd).state) ∧
  ((s.reader sd).exchange = none → (s.ctx sd).state ∉ [CtxState.claiming, .reading, .writing, .marking]) ∧
  ((s.reader sd).link = .down → (s.ctx sd).state ∉ [CtxState.polling, .holdoff]) ∧
  ((s.ctx sd).state = .outOfService → (s.reader sd).link ∈ [LinkState.down, .settling]) ∧
  ((s.ctx sd).state = .holdoff → (s.reader sd).holdoff.isSome = true) ∧
  (s.gate.reservations.get sd = .absent ↔ (s.ctx sd).tx = none) ∧
  ∀ x, (s.ctx sd).tx = some x →
    (x.journalHeld = decide ((s.ctx sd).state ≠ .writing)) ∧
    ((s.ctx sd).state = .reading → x.area.isSome = true) ∧
    ((s.ctx sd).state = .writing → x.fare.isSome = true ∧ ∃ e ∈ s.doubt.entries, e.card = x.card) ∧
    ((s.ctx sd).state = .marking → x.verdict.isSome = true) ∧
    ((s.ctx sd).state ∈ [CtxState.screening, .pricing] → ∀ e ∈ s.doubt.entries, e.card ≠ x.card) ∧
    (x.attached = none ∨ ((s.ctx sd).state = .writing ∧ x.attached = some x.card))

/-- How many journal reservations a context holds: "A context holds at most one" (R168). -/
def Context.held (c : Context) : Nat :=
  if c.tx.any (·.journalHeld) then 1 else 0

/-- The laws of the device for transactions: each side and its context agree; "no two contexts hold the same card ID at once" (R25, R38);
the calculator prices what is in PRICING (R49); the in-doubt table holds "at most one per card ID" (R38); and "The reservation count is
the number of journal reservations that transaction contexts and in-doubt entries hold", which "never exceeds free entries" (R168). -/
def State.tapLaw (s : State) : Prop :=
  (∀ sd, (s.reader sd).linkLaw ∧ s.contextLaw sd) ∧
  (∀ x y, s.ctxs.a.tx = some x → s.ctxs.b.tx = some y → x.card ≠ y.card) ∧
  (∀ p, s.fares.current = some p → (s.ctx p.side).state = .pricing) ∧
  (∀ sd, s.fares.waiting = some sd → (s.ctx sd).state = .pricing ∧ s.fares.current.map (·.side) ≠ some sd) ∧
  (s.doubt.entries.map (·.card)).Nodup ∧ s.journal.reserved = s.ctxs.a.held + s.ctxs.b.held + s.doubt.entries.length ∧
  s.journal.records.length + s.journal.reserved ≤ 2048

/-- The tracker's flags: "both are CLEAR whenever the tracker state is EMPTY" (R124). -/
def Tracker.law (t : Tracker) : Prop :=
  t.state = .empty → t.behind = false ∧ t.byFollower = false

/-- The owner, phase, timers and drive command of the barrier are those of its state (R134, R136 to R141): an owner only in OPENING and OPEN,
a phase only in CLOSING, a travel only in OPENING, DRIVING and CHECKING with ZM clear, a close delay only in OPEN, YIELDING and CLEARING,
and the drive of the table, but for HELD and for a travel that a fault has stopped. -/
def Gate.barrierLaw (g : Gate) : Prop :=
  (g.owner.isSome = true ↔ g.barrier = .opening ∨ g.barrier = .opened) ∧
  (g.phase.isSome = true ↔ g.barrier = .closing) ∧
  (g.travel.isSome = true →
    g.barrier = .opening ∨ (g.barrier = .closing ∧ g.phase = some .driving) ∨ (g.barrier = .checking ∧ g.seen.zm = false)) ∧
  (g.closeDelay.isSome = true → g.barrier = .opened ∨ (g.barrier = .closing ∧ g.phase ≠ some .driving)) ∧
  (g.barrier = .held ∨
    g.drive =
      (match g.barrier with
       | .closed => Drive.close
       | .opening | .opened | .freeOpen | .faultOpen => .open_
       | .closing => if g.phase = some .driving then .close else .open_
       | .checking | .faultClosed => if g.seen.zm then .stop else .close
       | .held => g.drive) ∨
    (g.drive = .stop ∧ g.travel = none ∧
      (g.barrier = .opening ∨ (g.barrier = .closing ∧ g.phase = some .driving) ∨ g.barrier = .checking)))

/-- The barrier under its rules: the line of R135 that governs gives its state, and supervision's hold and the passage controller's order
are the same. -/
def State.barrierLaw (s : State) : Prop :=
  s.gate.barrierLaw ∧ s.sup.barrierHold = s.gate.holdOrder ∧
    if s.inFreeOpen then s.gate.barrier = if s.gate.unverified then .faultOpen else .freeOpen
    else if s.gate.holdOrder then s.gate.barrier = .held
    else if s.gate.failClosedOrder then s.gate.barrier = .faultClosed
    else s.gate.barrier ∈ [BarrierState.closed, .opening, .opened, .closing, .checking]

/-- A page with "a first ID that is not above the build area's last card ID when one is present" (R105). -/
def pageBehind (last : Option CardId) (cards : List CardId) : Bool :=
  match last, cards with
  | some x, y :: _ => decide (y ≤ x)
  | _, _ => false

/-! What the statements about requests say: a port that carries a request out in the event of its arrival, and the reply it makes. -/

/-- A request that arrives now is handed to its owner in the same event: the request queue is empty, no head is held, the outgoing replies
hold fewer than 8, and no RESTART is on its way (R175, R176, R183). -/
def Port.ready (p : Port) : Prop :=
  p.requests = [] ∧ p.headTaken = false ∧ p.outgoing.length < 8 ∧ p.restarting = false

/-- The port after a reply is decided in an event in which nothing else is queued: the reply goes to the end of the outgoing replies, and
the transmitter begins the next frame where the line is free, before the request is handed over and after it is answered (log 6). -/
def Port.answer (p : Port) (r : Reply) : Port :=
  ({ p.pump with outgoing := p.pump.outgoing ++ [r] } : Port).pump

/-- The state with a request of kind `kind` answered: "Each reply carries its request's tag and kind and a result code" (R175); the kind of
a reply is its request's plus 0x80 (R185). -/
def State.reply (s : State) (kind tag : Byte) (result : Result) (fields : List Byte) : State :=
  { s with port := s.port.answer { kind := kind + 0x80, tag := tag, result := result, fields := fields } }

/-- Whether a reply has been made: it waits among the outgoing replies or is on the line. -/
def Port.made (p : Port) (r : Reply) : Prop :=
  r ∈ p.outgoing ∨ p.line = some (.reply r)

/-- A side's hail window that has heard one card alone, which the same-card hold does not keep back, at a context in POLLING: its close is
a hail event (R4, R6, R23). -/
def State.hears (s : State) (sd : Side) (card : CardId) : Prop :=
  (∃ w, (s.reader sd).window = some w ∧ w.garbled = false ∧ w.ids ≠ [] ∧ ∀ x ∈ w.ids, x = card) ∧
    (∀ h, (s.reader sd).hold = some h → h.card ≠ card) ∧ (s.ctx sd).state = .polling

/-- The reader side after a hail event: the window is closed, the cadence ACTIVE and the idle timer restarted (R3, R4). -/
def Reader.hailed (r : Reader) : Reader :=
  { r with window := none, cadence := .active, idle := some 30000 }

/-- A hail refused without a claim: the same-card hold is set to the card, the refusal timer runs for 2 s, and a TAP_RESULT names the
outcome; the context is as it was (R6, R23). -/
def State.hailRefused (s : State) (sd : Side) (card : CardId) (o : TapOutcome) (reason : Option CloneReason) (tariff : Option Nat) :
    State :=
  { s with
    readers := s.readers.set sd { (s.reader sd).hailed with hold := some { card := card, absence := 1500 } }
    sup := { s.sup with refusal := s.sup.refusal.set sd (some 2000) }
    port := (s.port.notify (.tapResult
      { side := sd, outcome := o, card := some card, reason := reason, capture := none, grant := .none, charge := none,
        tariff := tariff })).pump }

/-- A side after the engine has asked for PART, which a side that is not BOUND does not send: the binding ends and the link is SEARCHING,
or DOWN under a reader hold (R16). -/
def Reader.parted (r : Reader) (held : Bool) : Reader :=
  if r.link ≠ .bound then r
  else if held then
    { r with
      link := .down, settle := none, summons := none, idle := none, holdoff := none, claimed := none, exchange := none, window := none
      lastFrame := some (.part r.turn) }
  else
    { r with
      link := .searching, claimed := none, exchange := none, lastFrame := some (.part r.turn), idle := some 30000
      summons := some (match r.cadence with | .active => 15 | .idle => 120 | .quiet => 500) }

/-- The side after a transaction has ended: parted, with the same-card hold set to the card unless the outcome is CARD_LOST or RETAP (R6,
R37). -/
def Reader.afterTap (r : Reader) (held : Bool) (card : CardId) (o : TapOutcome) : Reader :=
  { r.parted held with
    hold := if o = .cardLost ∨ o = .retap then (r.parted held).hold else some { card := card, absence := 1500 } }

/-- The transaction `x` of a side, without an attached entry, has been closed with `f`: the reservations that it held are released, a
refusal starts the refusal timer, TAP_RESULT is queued, the side parts, and the context's fields are absent; nothing else has changed
but the calculator's requests and the pin (R37, R48, R49, R81). -/
def State.endedTo (s t : State) (sd : Side) (x : Transaction) (f : Finish) : Prop :=
  t.readers = s.readers.set sd ((s.reader sd).afterTap (s.sup.readerHold.get sd) x.card f.outcome) ∧
  t.ctxs = s.ctxs.set sd { state := if (t.reader sd).link = .down then .outOfService else .polling, tx := none } ∧
  t.gate = { s.gate with reservations := s.gate.reservations.set sd .absent } ∧
  t.journal = { s.journal with reserved := s.journal.reserved - (if x.journalHeld then 1 else 0) } ∧
  t.sup = { s.sup with
    refusal :=
      if f.outcome ∈ [TapOutcome.accepted, .repeated, .resolved, .retap] then s.sup.refusal else s.sup.refusal.set sd (some 2000) } ∧
  t.port = (s.port.notify (.tapResult
    { side := sd, outcome := f.outcome, card := some x.card, reason := f.reason, capture := f.capture, grant := f.grant,
      charge := f.charge, tariff := some x.tariff })).pump ∧
  (t.fares.waiting ≠ some sd ∧ t.fares.current.map (·.side) ≠ some sd) ∧ t.tariff = { s.tariff with pinned := t.tariff.pinned } ∧
  t.screen = s.screen ∧ t.doubt = s.doubt ∧ t.aisle = s.aisle ∧ t.markerValid = s.markerValid ∧ t.pending = s.pending

/-- The commit of a side's completed write in the card's sighting, line by line as R110's table: the commit's fields where there is no
sighting, one below the new counter, or one at it with the same purse; the conflict flag alone otherwise. The passage is PENDING, and
NOT_TAKEN where the reservation was withdrawn (R46). -/
def State.commitTaken (s t : State) (sd : Side) (x : Transaction) (f : FareRecord) : Prop :=
  let taken (conflict : Bool) (joined : Nat) : Sighting :=
    { card := x.card, counter := f.counterAfter, purse := f.purseAfter, alternate := none
      kind := match f.side with | .a => .entry | .b => .exit
      second := x.instant, station := s.port.station, gate := s.port.gateNo, source := .local
      passage := if s.gate.reservations.get sd = .held then .pending else .notTaken, conflict := conflict, joined := joined }
  (s.screen.sightingOf x.card = none → t.screen.sightingOf x.card = some (taken false s.screen.nextJoin)) ∧
  ∀ y, s.screen.sightingOf x.card = some y →
    (y.counter < f.counterAfter ∨ (y.counter = f.counterAfter ∧ y.purse = f.purseAfter) →
      t.screen.sightingOf x.card = some (taken y.conflict y.joined)) ∧
    (f.counterAfter < y.counter ∨ (y.counter = f.counterAfter ∧ y.purse ≠ f.purseAfter) →
      t.screen.sightingOf x.card = some { y with conflict := true })

/-- The request that a request command stands for, with the kind of its reply, "the request's kind plus 0x80" or 0xFF, and its tag (section
11.3, R185); none for any other command. -/
def commandRequest : Instr → Option (Byte × Byte × Request)
  | .getStatus tag part => some (0x81, tag, .getStatus part)
  | .setIdentity tag station gate => some (0x82, tag, .setIdentity station gate)
  | .setAisleMode tag mode => some (0x83, tag, .setAisleMode mode)
  | .setParameter tag param input v => some (0x84, tag, .setParameter param input v)
  | .freeOpen tag => some (0x85, tag, .gateCommand 1)
  | .resume tag => some (0x85, tag, .gateCommand 2)
  | .grantA tag => some (0x85, tag, .gateCommand 3)
  | .grantB tag => some (0x85, tag, .gateCommand 4)
  | .cancelGrants tag => some (0x85, tag, .gateCommand 5)
  | .serviceHoldBarrierEnter tag => some (0x86, tag, .serviceHold 1 1)
  | .serviceHoldBarrierLeave tag => some (0x86, tag, .serviceHold 1 2)
  | .serviceHoldReaderEnter tag .a => some (0x86, tag, .serviceHold 2 1)
  | .serviceHoldReaderEnter tag .b => some (0x86, tag, .serviceHold 3 1)
  | .serviceHoldReaderLeave tag .a => some (0x86, tag, .serviceHold 2 2)
  | .serviceHoldReaderLeave tag .b => some (0x86, tag, .serviceHold 3 2)
  | .clearFault tag cls => some (0x87, tag, .clearFault cls)
  | .setFaultResponse tag cls response => some (0x88, tag, .setFaultResponse cls response)
  | .setLampPriority tag order => some (0x89, tag, .setLampPriority order)
  | .setDirectionTable tag entries => some (0x8A, tag, .setDirectionTable entries)
  | .tariffLoad tag sect contents => some (0x8B, tag, .tariffLoad sect contents)
  | .tariffActivate tag version day => some (0x8C, tag, .tariffActivate version day)
  | .tariffDiscard tag => some (0x8D, tag, .tariffDiscard)
  | .keyLoad tag n key => some (0x8E, tag, .keyLoad n key)
  | .keyErase tag n => some (0x8F, tag, .keyErase n)
  | .setClock tag d force => some (0x90, tag, .setClock d force)
  | .getClock tag => some (0x91, tag, .getClock)
  | .denylistAdd tag card => some (0x92, tag, .denylistAdd card)
  | .denylistRemove tag card => some (0x93, tag, .denylistRemove card)
  | .denylistBegin tag version => some (0x94, tag, .denylistBegin version)
  | .denylistPage tag cards => some (0x95, tag, .denylistPage cards)
  | .denylistEnd tag => some (0x96, tag, .denylistEnd)
  | .denylistQuery tag card => some (0x97, tag, .denylistQuery card)
  | .holdRelease tag card => some (0x98, tag, .holdRelease card)
  | .holdListRead tag start => some (0x99, tag, .holdListRead start)
  | .sighting tag f => some (0x9A, tag, .sighting f)
  | .stationFreePeriod tag start stop => some (0x9B, tag, .stationFreePeriod start stop)
  | .journalRead tag start count => some (0x9C, tag, .journalRead start count)
  | .journalRelease tag n => some (0x9D, tag, .journalRelease n)
  | .setNoticeMask tag masks => some (0x9E, tag, .setNoticeMask masks)
  | .restart tag => some (0x9F, tag, .restart)
  | .unknownKind tag kind => some (0xFF, tag, .unknownKind kind)
  | .badLength tag kind => some (kind + 0x80, tag, .badLength kind)
  | .powerOn | .resetPin | .supplyDip | .settleTimerExpiry _ | .summonsTimerExpiry _ | .hail _ _ _ | .hailWindowClose _
  | .idleTimerExpiry _ | .holdoffTimerExpiry _ | .sameCardHoldExpiry _ | .carrierLoss _ | .carrierReturn _ | .claimed _ _ _ _
  | .slot _ _ _ _ _ | .done _ _ _ | .answerTimerExpiry _ | .guardTimerExpiry _ | .screening _ | .pricingComplete
  | .inDoubtDeadlineExpiry _ | .clockAdvance | .denylistApplyBegin | .denylistApplyComplete | .denylistSwap | .rawInputChange _ _
  | .debounceExpiry _ | .stuckTimerExpiry _ | .travelTimerExpiry | .passageDeadlineExpiry | .closeDelayExpiry | .alarmTimerExpiry _
  | .refusalTimerExpiry _ | .rxByte _ _ | .gapTimerExpiry | .frameSent | .backupSupplyFailure => none

/-- A safe step answers a next state. -/
def Safe (s : State) : Prop :=
  ∃ t, step s = .next t

end Sys2Proof.Machine
end

