-- ==== Sys2Proof/Certificates/Slice0/Obligations.lean ====
section
/-! DEFINITION. The statements for the provers, from the numbered rules of spec/. -/

section Statements

open Sys2Proof Sys2Proof.Machine

/-! The queue of commands. -/

/-- The command at the front of the queue is carried out on the state with the queue's rest. -/
def Obligations.StepRunsFront : Prop :=
  ∀ (c : Instr) (rest : List Instr) (s : State), s.pending = c :: rest → step s = exec c { s with pending := rest }

/-- While no command waits, a step carries out the first event that is due, and lets one millisecond pass when none is: every running timer
has one millisecond less to run, the second of a RUNNING clock too, and nothing else changes. The model's choice (log 2, log 4). -/
def Obligations.IdleStep : Prop :=
  ∀ s : State, s.pending = [] →
    (∀ c, s.due = some c → step s = exec c s) ∧
      (s.due = none →
        let less (t : Timer) : Timer := t.map (· - 1)
        let side (r : Reader) : Reader :=
          { r with
            settle := less r.settle, summons := less r.summons, idle := less r.idle, holdoff := less r.holdoff
            hold := r.hold.map fun h => { h with absence := h.absence - 1 }
            exchange := r.exchange.map fun x => { x with answer := less x.answer }
            window := r.window.map fun w => { w with timer := w.timer - 1 } }
        let context (c : Context) : Context := { c with tx := c.tx.map fun x => { x with guard := less x.guard } }
        let queue (q : List Auth) : List Auth := q.map fun x => { x with deadline := less x.deadline }
        step s = .next s.tick ∧
          s.tick = { s with
            readers := { a := side s.readers.a, b := side s.readers.b }, ctxs := { a := context s.ctxs.a, b := context s.ctxs.b }
            doubt := { s.doubt with entries := s.doubt.entries.map fun e => { e with deadline := less e.deadline } }
            tariff :=
              { s.tariff with toAdvance := if s.tariff.clock = none then s.tariff.toAdvance else s.tariff.toAdvance - 1 }
            aisle := s.tick.aisle
            gate := { s.gate with
              queues := { a := queue s.gate.queues.a, b := queue s.gate.queues.b }, travel := less s.gate.travel
              closeDelay := less s.gate.closeDelay, alarms := { a := less s.gate.alarms.a, b := less s.gate.alarms.b } }
            sup := { s.sup with refusal := { a := less s.sup.refusal.a, b := less s.sup.refusal.b } }
            port := { s.port with gap := less s.port.gap } } ∧
          s.tick.aisle = { s.aisle with filters := s.tick.aisle.filters, stuck := s.tick.aisle.stuck } ∧
          (∀ i, s.tick.aisle.filters.get i =
            { s.aisle.filters.get i with debounce := less (s.aisle.filters.get i).debounce }) ∧
          ∀ z, s.tick.aisle.stuck.get z = { s.aisle.stuck.get z with timer := less (s.aisle.stuck.get z).timer })

/-- Every command completes, and none changes the queue of commands. No numbered rule says this in one sentence: that no command ends in a
fault or a refusal is the model's choice (DESIGN CHOICE, log 35), and so is that an expiry command whose timer does not run answers a next
state too (DESIGN CHOICE, log 3). -/
def Obligations.EveryCommandCompletes : Prop :=
  ∀ (c : Instr) (s : State), ∃ t, exec c s = .next t ∧ t.pending = s.pending

/-! The starts. -/

/-- BACKUP_SUPPLY_FAILURE makes the marker INVALID, and the start that finds it so is a cold start: every retained state takes its cold
value, whatever it was, and the marker becomes VALID. A cold start with every input at its inactive level and both carriers present
leaves the state that the model names as the reset. Two clauses are the model's, not the spec's. That the failure itself changes the marker
alone is an inference (DEDUCED, log 18). The last clause rests on what the model takes as its reset (DESIGN CHOICE, log 1; DEDUCED, log 9),
on the order of the FAULT records of CLOCK and TARIFF (DESIGN CHOICE, log 10), on STARTED standing on the line already (DESIGN CHOICE,
log 6), on its saying that no denylist build was abandoned (DESIGN CHOICE, log 40), and on the last pattern of the passage controller at a
start (DESIGN CHOICE, log 41). -/
def Obligations.ColdStart : Prop :=
  ((∀ s : State, exec .backupSupplyFailure s = .next { s with markerValid := false }) ∧
     ∀ s : State, s.markerValid = false → ∀ c ∈ [Instr.powerOn, .resetPin, .supplyDip], ∃ t, exec c s = .next t ∧
       t.markerValid = true ∧ t.screen = State.reset.screen ∧ t.doubt = State.reset.doubt ∧ t.tariff = State.reset.tariff ∧
       t.aisle.params = State.reset.aisle.params ∧ t.gate.directions = State.reset.gate.directions ∧ t.gate.pointer = 0 ∧
       t.gate.travelMs = 1200 ∧ t.gate.closeDelayMs = 500 ∧ t.gate.windowS = 10 ∧ t.gate.autoResume = false ∧ t.gate.mode = .closed ∧
       t.sup.lampOrder = State.reset.sup.lampOrder ∧ t.sup.barrierResponse = .failClosed ∧ t.sup.sensorResponse = .failClosed ∧
       t.journal.records.head? = some { seq := 1, second := none, side := none, body := .journalStart } ∧ t.journal.reserved = 0 ∧
       t.port.receiver = .hunting ∧ t.port.requests = [] ∧ t.port.outgoing = [] ∧ t.port.rejection = 0 ∧ t.port.station = 0 ∧
       t.port.gateNo = 0 ∧ t.port.masked = State.reset.port.masked ∧ t.aisle.pins = s.aisle.pins ∧ t.pending = s.pending) ∧
  (∀ s : State, s.markerValid = false → s.aisle.pins = State.reset.aisle.pins → s.readers.a.carrier = true → s.readers.b.carrier = true →
     exec .powerOn s = .next { State.reset with pending := s.pending })

/-- A start that finds the marker VALID is a warm start. The retained state is kept: tariffs, keys, clock, lists, settings, parameters,
responses and identity; each in-doubt entry is re-armed and the reservation count is their number, pending local sightings become
NOT_TAKEN, and a free period without an end is ended. The main domain takes its start values: masks, queues, orders, timers and filters.
WARM_START is appended where there is room, and STARTED leads. Four clauses rest on choices of the model, not on a rule: STARTED stands on
the line already at the end of the start (DESIGN CHOICE, log 6); a POWER_ON leaves the clock as it is, since the seconds without main
power are commands of their own (DESIGN CHOICE, log 19); the screening unit keeps the horizon in force beside the horizon set (DEDUCED,
log 39); the passage controller's last pattern is the starting values of the three zones (DESIGN CHOICE, log 41). Each reader side takes
all its start values: with carrier it is SETTLING with the settle timer at 50 ms, and without it is DOWN with no settle timer; the cadence
is ACTIVE, the turn bit 0, and every other timer, the same-card hold, the claimed card, the exchange and the hail window are absent. Every
fault class is CLEAR but those whose cause holds at the start: BARRIER with the drive-fault line, the readers without carrier, CLOCK,
TARIFF and JOURNAL, each with the current second. The barrier starts its check with CLOSE and the travel timer while ZM is clear, is
CLOSED at once where the limits say so, or starts in FREE_OPEN with the emergency input; with the drive-fault line ACTIVE it is unverified
and in the state of its response. -/
def Obligations.WarmStart : Prop :=
  ∀ (s : State) (c : Instr) (cause : StartCause), s.markerValid = true →
    (c, cause) ∈ [(Instr.powerOn, StartCause.powerOn), (.resetPin, .resetPin), (.supplyDip, .supplyDip)] →
    let level (i : Input) : Bool := s.aisle.pins.get i == (s.aisle.params.get i).activeHigh
    let room := s.doubt.entries.length < 2048 - s.journal.records.length
    let building := decide (s.screen.build ≠ .idle)
    let unended (p : FreePeriod) : Bool := decide (p.origin = .local ∧ p.stop = none)
    let em := level .emergency
    let fault := level .driveFault
    let sound := level .closedLimit && !level .openLimit
    let raised (cause : Bool) : FaultCond := if cause then .raised s.tariff.clock else .clear
    ∃ t, exec c s = .next t ∧
    t.doubt = { s.doubt with
      entries := s.doubt.entries.map fun e =>
        { e with attached := false, passed := false, deadline := some (s.doubt.periodS * 1000) } } ∧
    t.journal.reserved = s.doubt.entries.length ∧ s.journal.records <+: t.journal.records ∧
    (room → s.journal.records ++
      [{ seq := s.journal.next, second := s.tariff.clock, side := none, body := .warmStart cause s.doubt.entries.length building }]
      <+: t.journal.records) ∧
    t.journal.armed = decide (256 < 2048 - t.journal.records.length) ∧
    t.port.line = some (.notice (.started
      { cause := some cause
        nextSeq := if room then if s.journal.next = 4294967295 then 1 else s.journal.next + 1 else s.journal.next
        kept := s.doubt.entries.length, abandoned := building, clockRunning := s.tariff.clock.isSome
        tariff := if s.tariff.active.valid then s.tariff.active.version else none
        barrier := if level .emergency then .freeOpen else .checking })) ∧
    t.screen = { s.screen with
      applying := false, build := .idle, buildList := [], buildVersion := 0, buildLast := none
      sightings := s.screen.sightings.map fun x =>
        if x.source = .local ∧ x.passage = .pending then { x with passage := .notTaken } else x } ∧
    t.tariff = { s.tariff with pinned := false, period := t.tariff.period } ∧
    (∀ now, s.tariff.clock = some now →
      t.tariff.period =
        if t.inFreeOpen then some { start := now / 60, stop := none, origin := .local }
        else s.tariff.period.map fun p => if unended p then { p with stop := some (max p.start (now / 60)) } else p) ∧
    (s.tariff.clock = none → t.tariff.period = s.tariff.period.filter fun p => !unended p) ∧
    t.fares = { current := none, waiting := none } ∧
    t.aisle.pins = s.aisle.pins ∧ t.aisle.params = s.aisle.params ∧
    (∀ i, t.aisle.filters.get i = { filtered := level i, debounce := none }) ∧
    (∀ z, t.aisle.stuck.get z = { timer := if level z.input then some 60000 else none, stuck := false }) ∧
    t.aisle.tracker =
      { state := .empty, resync := level .za || level .zm || level .zb, behind := false, byFollower := false
        pattern := { za := level .za, zm := level .zm, zb := level .zb } } ∧
    t.gate.queues = { a := [], b := [] } ∧ t.gate.reservations = { a := .absent, b := .absent } ∧ t.gate.pointer = 0 ∧
    t.gate.freeCount = 0 ∧ t.gate.owner = none ∧ t.gate.holdOrder = false ∧ t.gate.alarms = { a := none, b := none } ∧
    t.gate.phase = none ∧ t.gate.closeDelay = none ∧ t.gate.unverified = fault ∧
    t.gate.seen = { za := level .za, zm := level .zm, zb := level .zb } ∧
    (fault = false →
      t.gate.failClosedOrder = false ∧ t.gate.reasons = { emergency := em, command := false, fault := false } ∧
      t.gate.barrier = (if em then .freeOpen else if sound then .closed else .checking) ∧
      t.gate.drive = (if em then .open_ else if sound then .close else if level .zm then .stop else .close) ∧
      t.gate.travel = (if em || sound || level .zm then none else some s.gate.travelMs)) ∧
    (fault = true → s.sup.barrierResponse = .failClosed →
      t.gate.failClosedOrder = true ∧ t.gate.reasons = { emergency := em, command := false, fault := false } ∧
      t.gate.barrier = (if em then .faultOpen else .faultClosed) ∧
      t.gate.drive = (if em then .open_ else if level .zm then .stop else .close) ∧ t.gate.travel = none) ∧
    (fault = true → s.sup.barrierResponse = .failFree →
      t.gate.failClosedOrder = false ∧ t.gate.reasons = { emergency := em, command := false, fault := true } ∧
      t.gate.barrier = .faultOpen ∧ t.gate.drive = .open_ ∧ t.gate.travel = none) ∧
    t.gate.mode = s.gate.mode ∧ t.gate.directions = s.gate.directions ∧ t.gate.travelMs = s.gate.travelMs ∧
    t.gate.closeDelayMs = s.gate.closeDelayMs ∧ t.gate.windowS = s.gate.windowS ∧ t.gate.autoResume = s.gate.autoResume ∧
    t.sup = { s.sup with
      conds :=
        { barrier := raised fault, sensor := .clear, readerA := raised (!s.readers.a.carrier), readerB := raised (!s.readers.b.carrier)
          clock := raised s.tariff.clock.isNone, tariff := raised (!s.tariff.active.valid)
          journal := raised (decide (2048 - t.journal.records.length ≤ 16)) }
      barrierHold := false, readerHold := { a := false, b := false }, refusal := { a := none, b := none } } ∧
    (∀ sd,
      t.ctx sd = { state := if (s.reader sd).carrier then .polling else .outOfService, tx := none } ∧
      t.reader sd =
        { link := if (s.reader sd).carrier then .settling else .down, cadence := .active
          settle := if (s.reader sd).carrier then some 50 else none, summons := none, idle := none, holdoff := none, hold := none
          claimed := none, turn := false, exchange := none, window := none, carrier := (s.reader sd).carrier, needsSettle := false
          lastFrame := (t.reader sd).lastFrame }) ∧
    t.port =
      { receiver := .hunting, gap := none, requests := [], headTaken := false, outgoing := [], rejection := 0, notices := t.port.notices
        line := t.port.line, discarded := 0, masked := PerClass.all false, flagged := PerClass.all false, withheld := PerClass.all 0
        station := s.port.station, gateNo := s.port.gateNo } ∧
    t.markerValid = true ∧ t.pending = s.pending

/-! The reader sides and the card link. -/

/-- When the settle timer expires the side enters SEARCHING, sends its first summons at once, sets its cadence state and starts the idle
timer; a context in OUT_OF_SERVICE returns to POLLING. The summons and holdoff timers. A summons timer that expires in SEARCHING with no
holdoff running sends the next summons, at the interval of the cadence state; while the holdoff runs no summons is sent; the end of the
holdoff sends one at once with the ACTIVE interval, and its context returns to POLLING. The idle timer sets QUIET in aisle mode CLOSED and
IDLE otherwise, without touching a running summons timer; the absence timer removes the same-card hold; the refusal timer and the alarm
timer of a side end. Three points are the model's choice (DESIGN CHOICE): an expiry is carried out whenever its timer runs, whatever it
has left, and one named for an absence, refusal or alarm timer that does not run changes nothing but the port's turn (log 3); a summons
sent while a hail window is open opens a new window in its place, and what the old one heard is lost (log 44, with log 3); and the port's
turn at the end of the event (log 6). -/
def Obligations.SideTimers : Prop :=
  (∀ (s : State) (sd : Side), (s.reader sd).settle.isSome →
     exec (.settleTimerExpiry sd) s = .next
       { s with
         readers := s.readers.set sd
           { s.reader sd with
             link := .searching, settle := none, idle := some 30000
             cadence := if s.gate.mode = .closed then .quiet else .active
             summons := some (if s.gate.mode = .closed then 500 else 15)
             window := some { ids := [], garbled := false, timer := 3 }, lastFrame := some .summon }
         ctxs := if (s.ctx sd).state = .outOfService then s.ctxs.set sd { s.ctx sd with state := .polling } else s.ctxs
         port := s.port.pump }) ∧
  (∀ (s : State) (sd : Side),
     ((s.reader sd).summons.isSome → (s.reader sd).link = .searching → (s.reader sd).holdoff = none →
       exec (.summonsTimerExpiry sd) s = .next
         { s with
           readers := s.readers.set sd
             { s.reader sd with
               summons := some (match (s.reader sd).cadence with | .active => 15 | .idle => 120 | .quiet => 500)
               window := some { ids := [], garbled := false, timer := 3 }, lastFrame := some .summon }
           port := s.port.pump }) ∧
     ((s.reader sd).summons.isSome → (s.reader sd).holdoff.isSome →
       exec (.summonsTimerExpiry sd) s = .next
         { s with readers := s.readers.set sd { s.reader sd with summons := none }, port := s.port.pump }) ∧
     ((s.reader sd).holdoff.isSome →
       exec (.holdoffTimerExpiry sd) s = .next
         { s with
           readers := s.readers.set sd
             { s.reader sd with
               holdoff := none, summons := some 15
               window := some { ids := [], garbled := false, timer := 3 }, lastFrame := some .summon }
           ctxs := if (s.ctx sd).state = .holdoff then s.ctxs.set sd { s.ctx sd with state := .polling } else s.ctxs
           port := s.port.pump })) ∧
  ∀ (s : State) (sd : Side),
    ((s.reader sd).idle.isSome →
      exec (.idleTimerExpiry sd) s = .next
        { s with
          readers := s.readers.set sd
            { s.reader sd with idle := none, cadence := if s.gate.mode = .closed then .quiet else .idle }
          port := s.port.pump }) ∧
    exec (.sameCardHoldExpiry sd) s = .next
      { s with readers := s.readers.set sd { s.reader sd with hold := none }, port := s.port.pump } ∧
    exec (.refusalTimerExpiry sd) s = .next
      { s with sup := { s.sup with refusal := s.sup.refusal.set sd none }, port := s.port.pump } ∧
    exec (.alarmTimerExpiry sd) s = .next
      { s with gate := { s.gate with alarms := s.gate.alarms.set sd none }, port := s.port.pump }

/-- The hail window: a clean HAIL joins what the open window has heard and any other answer makes it garbled, a CLAIMED, SLOT or DONE that
arrives while no exchange is in progress too (DEDUCED, log 13: R4 before R13); at the close, a window with
a garbled answer or with two card IDs is a collision, which ends a context in POLLING with MULTIPLE_CARDS, and a window that hears only
the held card restarts its absence timer and hands nothing on. The port's turn at the end of the event is the model's choice (log 6). -/
def Obligations.HailWindowJudged : Prop :=
  ∀ (s : State) (sd : Side) (w : HailWindow), (s.reader sd).window = some w →
    (∀ card, exec (.hail sd true card) s = .next
      { s with readers := s.readers.set sd { s.reader sd with window := some { w with ids := w.ids ++ [card] } }, port := s.port.pump }) ∧
    (∀ card, exec (.hail sd false card) s = .next
      { s with readers := s.readers.set sd { s.reader sd with window := some { w with garbled := true } }, port := s.port.pump }) ∧
    (∀ answer, (∃ ok area blocked, answer = Instr.claimed sd ok area blocked) ∨ (∃ ok turn no contents, answer = .slot sd ok turn no contents) ∨
        (∃ ok turn, answer = .done sd ok turn) →
      (s.reader sd).exchange = none →
      exec answer s = .next
        { s with readers := s.readers.set sd { s.reader sd with window := some { w with garbled := true } }, port := s.port.pump }) ∧
    (w.garbled = false → w.ids = [] →
      exec (.hailWindowClose sd) s = .next
        { s with readers := s.readers.set sd { s.reader sd with window := none }, port := s.port.pump }) ∧
    ((w.garbled = true ∨ ∃ x ∈ w.ids, ∃ y ∈ w.ids, x ≠ y) → (s.ctx sd).state = .polling →
      exec (.hailWindowClose sd) s = .next
        { s with
          readers := s.readers.set sd
            { s.reader sd with
              window := none, cadence := .active, idle := some 30000, holdoff := some 300
              hold := (s.reader sd).hold.map fun h => { h with absence := 1500 } }
          ctxs := s.ctxs.set sd { s.ctx sd with state := .holdoff }
          sup := { s.sup with refusal := s.sup.refusal.set sd (some 2000) }
          port := (s.port.notify (.tapResult
            { side := sd, outcome := .multipleCards, card := none, reason := none, capture := none, grant := .none,
              charge := none, tariff := none })).pump }) ∧
    (∀ h, w.garbled = false → w.ids ≠ [] → (∀ x ∈ w.ids, x = h.card) → (s.reader sd).hold = some h →
      exec (.hailWindowClose sd) s = .next
        { s with
          readers := s.readers.set sd
            { s.reader sd with window := none, cadence := .active, idle := some 30000, hold := some { h with absence := 1500 } }
          port := s.port.pump })

/-- The six pre-claim checks in their order, the first that fails giving the outcome; a card that the other context is serving is refused
with BOTH_SIDES and both reservations are released; otherwise the transaction starts: both reservations are held, the context takes its
fields, its guard timer and its denylist mark, and the side sends CLAIM. `u` is the state after any swap that is due. The port's turn at
the end of the event is the model's choice (log 6). -/
def Obligations.PreClaimChecks : Prop :=
  ∀ (s : State) (sd : Side) (card : CardId), s.hears sd card →
    let u := s.swapTest
    let released : State := { u with gate := { u.gate with reservations := u.gate.reservations.set sd .absent } }
    exec (.hailWindowClose sd) s = .next (
      if s.sup.barrierHold ∨ s.gate.failClosedOrder ∨ s.sup.readerHold.get sd ∨ s.sup.conds.get sd.readerClass ≠ .clear then
        s.hailRefused sd card .outOfService none none
      else if s.gate.reasons.emergency ∨ s.gate.reasons.command ∨ s.gate.reasons.fault then s.hailRefused sd card .freeOpen none none
      else if u.tariff.active.valid = false then u.hailRefused sd card .noTariff none none
      else
        match u.tariff.clock with
        | none => u.hailRefused sd card .clockUnset none none
        | some now =>
          if 4 ≤ (u.gate.queues.get sd).length + (if u.gate.reservations.get sd = .absent then 0 else 1) then
            u.hailRefused sd card .sideFull none none
          else if 2048 - u.journal.records.length ≤ u.journal.reserved + 16 then
            released.hailRefused sd card .journalFull none none
          else if (u.ctx sd.other).serves card then
            released.hailRefused sd card .cloneSuspect (some .bothSides) (some (u.tariff.active.version.getD 0))
          else
            { u with
              readers := u.readers.set sd
                { (u.reader sd).hailed with
                  link := .bound, claimed := some card, summons := none, lastFrame := some (.claim card)
                  exchange := some { frame := .claim card, attempt := 1, answer := some 3 } }
              ctxs := u.ctxs.set sd
                { state := .claiming
                  tx := some
                    { card := card, instant := now, tariff := u.tariff.active.version.getD 0, keys := some u.tariff.keys
                      mark := some { arrival := u.screen.arrivals, afterSwap := decide (u.screen.build = .ending) }
                      journalHeld := true, area := none, blocked := false, slot0 := none, slot1 := none, current := none
                      product := none, attached := none, intended := none, fare := none, verdict := none, guard := some 400
                      waitsForSwap := false } }
              gate := { u.gate with reservations := u.gate.reservations.set sd .held }
              journal := { u.journal with reserved := u.journal.reserved + 1 }
              port := u.port.pump })

/-- A transaction starts only while free entries minus reservations exceed 16, with both reservations held. An unreserved append is made
where free entries exceed the reservation count, and not made otherwise; a reserved append takes its reservation. JOURNAL_LOW, with the
figures of the journal, is handed to the port by an append that takes free entries to 256 or fewer while the flag is armed, which then is
not; free entries of 16 raise JOURNAL with its FAULT notice and, where there is room, its record. That JOURNAL_LOW and the raise come right
after the append, JOURNAL_LOW first, is the model's choice (DESIGN CHOICE, log 34). -/
def Obligations.JournalKeepsReserve : Prop :=
  (∀ (s t : State) (sd : Side), (s.ctx sd).state = .polling → exec (.hailWindowClose sd) s = .next t → (t.ctx sd).state = .claiming →
   t.free ≥ t.journal.reserved + 16 ∧ t.journal.reserved ≥ 1 ∧ t.gate.reservations.get sd = .held ∧
     (t.gate.queues.get sd).length + 1 ≤ 4 ∧ t.tariff.active.valid = true ∧ t.tariff.clock.isSome ∧ t.inFreeOpen = false ∧
     t.inService sd = true) ∧
  ∀ (s : State) (second : Option Nat) (side : Option Side) (body : RecordBody),
    let r : JournalRecord := { seq := s.journal.next, second := second, side := side, body := body }
    let next (n : Nat) : Nat := if n = 4294967295 then 1 else n + 1
    let records := s.journal.records ++ [r]
    let free := 2048 - records.length
    let after (reserved : Nat) (t : State) : Prop :=
      let low := decide (free ≤ 256) && s.journal.armed
      let u : State := { s with
        journal := { records := records, next := next s.journal.next, reserved := reserved, armed := s.journal.armed && !low }
        port :=
          if low then
            s.port.notify (.journalLow
              { free := free, reserved := reserved, oldest := records.head?.map (·.seq), newest := some s.journal.next })
          else s.port }
      (free ≠ 16 ∨ s.sup.conds.journal ≠ .clear → t = u) ∧
      (free = 16 → s.sup.conds.journal = .clear →
        t = { u with
          sup := { s.sup with conds := { s.sup.conds with journal := .raised s.tariff.clock } }
          journal :=
            if reserved < 16 then
              { u.journal with
                records := records ++
                  [{ seq := next s.journal.next, second := s.tariff.clock, side := none, body := .fault .journal true .fixed }]
                next := next (next s.journal.next) }
            else u.journal
          port := u.port.notify (.fault (.cls .journal true .fixed)) })
    (2048 - s.journal.records.length ≤ s.journal.reserved → s.appendUnreserved side body = s) ∧
      (second = s.tariff.clock → s.journal.reserved < 2048 - s.journal.records.length →
        after s.journal.reserved (s.appendUnreserved side body)) ∧
      after (s.journal.reserved - 1) (s.appendReserved second side body)

/-- Loss of carrier puts the side DOWN at once from any link state, stops its timers, clears its claim, raises its reader fault, with its
record and notice, and puts a context in POLLING or HOLDOFF out of service. No PART is sent. An exchange in progress ends with CARD_LOST:
in CLAIMING or READING the tap ends with that outcome; in WRITING with RETAP, and the in-doubt entry stays, detached, with its reservation
and without a record, or expires where its deadline went by while it was attached; in MARKING with the outcome fixed before and the
capture FAILED, which appends CLONE_CAPTURE and puts the card in the hold list. The return of carrier clears the fault and begins a settle
of 50 ms, unless a reader hold keeps the side as it is. The other side, the queues and the barrier are unchanged. These points are the
model's: that a hail window which is open at the loss comes to nothing, so that the same-card hold and the context's transaction are as
before (DESIGN CHOICE, log 44); that the record and the notice of the reader fault come before what CARD_LOST makes of the context, and
HOLD_ADDED before TAP_RESULT (DESIGN CHOICE, log 34); that a deadline which goes by in WRITING waits for the end of the write, whose entry
need not be attached (DESIGN CHOICE, log 24), and that the expiry of a detached entry carries the clock's second (DEDUCED, log 20); that
the last frame sent is kept as an output (DESIGN CHOICE, log 30); and the port's turn at the end of the event (DESIGN CHOICE, log 6). -/
def Obligations.CarrierLostAndBack : Prop :=
  ∀ (s : State) (sd : Side),
    ((s.reader sd).carrier = true → ∃ t, exec (.carrierLoss sd) s = .next t ∧
      (t.reader sd).link = .down ∧ (t.reader sd).carrier = false ∧ (t.reader sd).settle = none ∧ (t.reader sd).summons = none ∧
      (t.reader sd).idle = none ∧ (t.reader sd).holdoff = none ∧ (t.reader sd).claimed = none ∧ (t.reader sd).exchange = none ∧
      t.sup.conds.get sd.readerClass ≠ .clear ∧
      ((s.ctx sd).state = .polling ∨ (s.ctx sd).state = .holdoff → (t.ctx sd).state = .outOfService) ∧
      ((s.reader sd).exchange.isSome → (s.ctx sd).state = .claiming ∨ (s.ctx sd).state = .reading → (s.ctx sd).tx.isSome →
        t.ctx sd = { state := .outOfService, tx := none }) ∧
      ((s.reader sd).exchange = none → (t.reader sd).hold = (s.reader sd).hold ∧ (t.ctx sd).tx = (s.ctx sd).tx) ∧
      (t.reader sd).lastFrame = (s.reader sd).lastFrame ∧
      (let cls := sd.readerClass
       let told : State :=
         if s.sup.conds.get cls ≠ .clear then s
         else (s.appendUnreserved none (.fault cls true .fixed)).notify (.fault (.cls cls true .fixed))
       ((s.reader sd).exchange = none → t.journal = told.journal ∧ t.port = told.port.pump) ∧
       ∀ x, (s.reader sd).exchange.isSome → (s.ctx sd).tx = some x →
         let tap (o : TapOutcome) (reason : Option CloneReason) (capture : Option CaptureResult) : Notice :=
           .tapResult
             { side := sd, outcome := o, card := some x.card, reason := reason, capture := capture, grant := .none, charge := none
               tariff := some x.tariff }
         let released : Gate := { s.gate with reservations := s.gate.reservations.set sd .absent }
         ((s.ctx sd).state = .claiming ∨ (s.ctx sd).state = .reading → x.attached = none →
           t.port = (told.port.notify (tap .cardLost none none)).pump ∧ t.gate = released ∧ t.sup.refusal.get sd = some 2000 ∧
           t.journal = { told.journal with reserved := told.journal.reserved - (if x.journalHeld then 1 else 0) } ∧
           (t.reader sd).hold = (s.reader sd).hold ∧ t.doubt = s.doubt ∧ t.screen = s.screen) ∧
         ((s.ctx sd).state = .writing → x.attached = none ∨ x.attached = some x.card → x.journalHeld = false →
           t.ctx sd = { state := .outOfService, tx := none } ∧ t.gate = released ∧ t.sup.refusal = s.sup.refusal ∧
           (t.reader sd).hold = (s.reader sd).hold ∧ t.screen = s.screen ∧
           ((∀ d ∈ s.doubt.entries, d.card = x.card → d.passed = false) →
             t.doubt = { s.doubt with
               entries := s.doubt.entries.map fun d => if d.card = x.card then { d with attached := false } else d } ∧
             t.journal = told.journal ∧ t.port = (told.port.notify (tap .retap none none)).pump) ∧
           ∀ e, s.entryOf x.card = some e → e.passed = true →
             t.doubt = { s.doubt with entries := s.doubt.entries.filter (fun d => d.card ≠ x.card) } ∧
             told.journal.records ++
               [{ seq := told.journal.next, second := s.tariff.clock, side := some e.side
                  body := .inDoubtExpired e.card e.oldCounter e.record e.fare.kind e.fare.charge e.tariff }] <+: t.journal.records ∧
             t.journal.reserved = s.journal.reserved - 1) ∧
         ∀ o reason, (s.ctx sd).state = .marking → x.verdict = some (o, reason) → x.attached = none →
           o = .denylisted ∨ o = .cloneSuspect →
           let body : RecordBody := .cloneCapture x.card x.captureCounter o reason .failed x.tariff
           let until_ := min 3155759999 (x.instant + s.screen.holdHours * 3600)
           t.ctx sd = { state := .outOfService, tx := none } ∧ t.gate = released ∧ t.sup.refusal.get sd = some 2000 ∧
           (t.reader sd).hold = some { card := x.card, absence := 1500 } ∧ t.doubt = s.doubt ∧
           told.journal.records ++ [{ seq := told.journal.next, second := some x.instant, side := some sd, body := body }]
             <+: t.journal.records ∧
           t.journal.reserved = s.journal.reserved - 1 ∧
           (∃ h ∈ t.screen.holds, h.card = x.card ∧ h.until_ = until_) ∧
           (∀ h ∈ s.screen.holds, h.card ≠ x.card → s.screen.holds.length < 64 → h ∈ t.screen.holds) ∧
           t.screen.denylist = s.screen.denylist ∧ t.screen.sightings = s.screen.sightings ∧
           t.port =
             (((told.appendReserved (some x.instant) (some sd) body).port.notify (.holdAdded x.card until_ .failed)).notify
               (tap o reason (some .failed))).pump) ∧
      t.reader sd.other = s.reader sd.other ∧ t.ctx sd.other = s.ctx sd.other ∧ t.gate.queues = s.gate.queues ∧
      t.gate.barrier = s.gate.barrier ∧ t.aisle = s.aisle) ∧
    ((s.reader sd).carrier = false → ∃ t, exec (.carrierReturn sd) s = .next t ∧
      t.readers = s.readers.set sd
        (if s.sup.readerHold.get sd then { s.reader sd with carrier := true }
         else { s.reader sd with carrier := true, link := .settling, settle := some 50 }) ∧
      t.sup.conds.get sd.readerClass = .clear ∧ t.ctxs = s.ctxs ∧ t.gate = s.gate ∧ t.aisle = s.aisle ∧ t.screen = s.screen ∧
      t.doubt = s.doubt ∧ t.tariff = s.tariff)

/-- The claim and the first half of the reading of a card: CLAIMED sets the turn bit to 0 and leads to the fetch of slot 0; SLOT for slot 0
with the awaited turn inverts the turn bit and leads to the fetch of slot 1. The answer for slot 1 is in CardChecks. The port's turn at the
end of the event is the model's choice (log 6). -/
def Obligations.ClaimAndFetch : Prop :=
  ∀ (s : State) (sd : Side) (x : Exchange), (s.reader sd).exchange = some x → (s.reader sd).link = .bound →
    (∀ card area blocked, x.frame = .claim card →
      exec (.claimed sd true area blocked) s = .next
        { s with
          readers := s.readers.set sd
            { s.reader sd with
              turn := false, exchange := some { frame := .fetch false .zero, attempt := 1, answer := some 3 }
              lastFrame := some (.fetch false .zero) }
          ctxs := s.ctxs.set sd
            { state := .reading, tx := (s.ctx sd).tx.map fun t => { t with area := some area, blocked := blocked } }
          port := s.port.pump }) ∧
    (∀ turn w, x.frame = .fetch turn .zero →
      exec (.slot sd true turn .zero w) s = .next
        { s with
          readers := s.readers.set sd
            { s.reader sd with
              turn := !(s.reader sd).turn
              exchange := some { frame := .fetch (!(s.reader sd).turn) .one, attempt := 1, answer := some 3 }
              lastFrame := some (.fetch (!(s.reader sd).turn) .one) }
          ctxs := s.ctxs.set sd { s.ctx sd with tx := (s.ctx sd).tx.map fun t => { t with slot0 := some w } }
          port := s.port.pump })

/-- The card checks after slot 1, in their order: no key, a wrong static code, no slot that verifies; then the product and the direction;
then SCREENING, where a card without an in-doubt entry waits for its screening. Two slots that verify and conflict are SLOT_CONFLICT:
with capture the outcome is fixed and MARK goes out, without capture the tap ends with it. When a slot verifies stands in
SlotAndCounterRules. The port's turn at the end of the event is the
model's choice (log 6). -/
def Obligations.CardChecks : Prop :=
  ∀ (s : State) (sd : Side) (e : Exchange) (x : Transaction) (area : StaticArea) (turn : Bool) (w : RawRecord),
    (s.reader sd).exchange = some e → e.frame = .fetch turn .one → (s.ctx sd).tx = some x → x.area = some area → x.attached = none →
    let r := { s.reader sd with turn := !(s.reader sd).turn, exchange := none }
    let u : State := { s with
      readers := s.readers.set sd r, ctxs := s.ctxs.set sd { s.ctx sd with tx := some { x with slot1 := some w } } }
    (x.key = none → ∃ t, exec (.slot sd true turn .one w) s = .next t ∧ u.endedTo t sd x { outcome := .keyUnknown }) ∧
    ∀ key, x.key = some key →
      (Config.checkFn key x.card area.protectedBytes ≠ area.code →
        ∃ t, exec (.slot sd true turn .one w) s = .next t ∧ u.endedTo t sd x { outcome := .checkFailed }) ∧
      (Config.checkFn key x.card area.protectedBytes = area.code →
        (verifiedSlot key x.card x.slot0 = none → verifiedSlot key x.card (some w) = none →
          ∃ t, exec (.slot sd true turn .one w) s = .next t ∧ u.endedTo t sd x { outcome := .checkFailed }) ∧
        (chooseSlot (verifiedSlot key x.card x.slot0) (verifiedSlot key x.card (some w)) = .conflict →
          (s.screen.capture = false →
            ∃ t, exec (.slot sd true turn .one w) s = .next t ∧
              u.endedTo t sd x { outcome := .cloneSuspect, reason := some .slotConflict }) ∧
          (s.screen.capture = true → (s.reader sd).link = .bound →
            ∃ t, exec (.slot sd true turn .one w) s = .next t ∧
              t = { s with
                readers := s.readers.set sd
                  { r with
                    exchange := some { frame := .mark r.turn, attempt := 1, answer := some 3 }, lastFrame := some (.mark r.turn) }
                ctxs := s.ctxs.set sd
                  { state := .marking
                    tx := some
                      { x with
                        slot1 := some w, verdict := some (.cloneSuspect, some .slotConflict), mark := none, guard := none
                        waitsForSwap := false } }
                tariff := { s.tariff with pinned := t.tariff.pinned }
                port := s.port.pump })) ∧
        ∀ n record, chooseSlot (verifiedSlot key x.card x.slot0) (verifiedSlot key x.card (some w)) = .current n record →
          let product := (s.bankOf x.tariff).productFor area.productCode.toNat
          (product.1 = .unmapped →
            ∃ t, exec (.slot sd true turn .one w) s = .next t ∧ u.endedTo t sd x { outcome := .productUnknown }) ∧
          (product.1 ≠ .unmapped → product.1 ≠ .staff → s.gate.mode = .closed →
            ∃ t, exec (.slot sd true turn .one w) s = .next t ∧ u.endedTo t sd x { outcome := .stationClosed }) ∧
          (product.1 ≠ .unmapped → product.1 ≠ .staff →
            (s.gate.mode = .entryOnly ∧ sd = .b) ∨ (s.gate.mode = .exitOnly ∧ sd = .a) →
            ∃ t, exec (.slot sd true turn .one w) s = .next t ∧ u.endedTo t sd x { outcome := .directionClosed }) ∧
          (product.1 ≠ .unmapped →
            product.1 = .staff ∨ s.gate.mode = .bidirectional ∨ (s.gate.mode = .entryOnly ∧ sd = .a) ∨
              (s.gate.mode = .exitOnly ∧ sd = .b) →
            (∀ d ∈ s.doubt.entries, d.card ≠ x.card) →
            exec (.slot sd true turn .one w) s = .next
              { u with
                ctxs := s.ctxs.set sd
                  { state := .screening, tx := some { x with slot1 := some w, current := some n, product := some product } }
                port := s.port.pump }))

/-- Of two slots of which at least one verifies, the current slot is the one that verifies, or the one with the higher counter; with
equal counters, slot 0 when the records are identical, and a conflict when they differ. The counter rules of screening step 5: a counter
below the sighting's that the alternate counter does not accept, or an equal counter with another purse, is COUNTER; a set conflict flag
is CONFLICT_FLAG; a card without a sighting passes. What the card checks and the screening ask: a slot verifies with the record that it
decodes to, its fields in their ranges, when the check function gives its check code; a card is held while the hold list has it with a
hold-until strictly after the instant; a tap is a re-entry when it is an entry of an OPEN journey begun at this station whose start lies
from 0 to the grace in seconds before the instant. -/
def Obligations.SlotAndCounterRules : Prop :=
  (∀ x y : CardRecord,
     chooseSlot (some x) none = .current .zero x ∧ chooseSlot none (some y) = .current .one y ∧ chooseSlot none none = .neither ∧
     (x.counter > y.counter → chooseSlot (some x) (some y) = .current .zero x) ∧
     (x.counter < y.counter → chooseSlot (some x) (some y) = .current .one y) ∧
     (x.counter = y.counter → x = y → chooseSlot (some x) (some y) = .current .zero x) ∧
     (x.counter = y.counter → x ≠ y → chooseSlot (some x) (some y) = .conflict)) ∧
  ((∀ k p, counterRules none k p = none) ∧
     ∀ (x : Sighting) (k : Nat) (p : Int),
       (counterRules (some x) k p = some .counter ↔
         (k < x.counter ∧ x.alternate ≠ some k ∧ x.alternate ≠ some (k + 1)) ∨ (k = x.counter ∧ p ≠ x.purse)) ∧
       (counterRules (some x) k p = some .conflictFlag ↔
         x.conflict = true ∧ (k < x.counter → x.alternate = some k ∨ x.alternate = some (k + 1)) ∧ (k = x.counter → p = x.purse))) ∧
  (∀ (key : Key) (card : CardId) (w : Option RawRecord) (r : CardRecord),
     (verifiedSlot key card w = some r ↔
       ∃ raw, w = some raw ∧ raw.decode = some r ∧ Config.checkFn key card r.protectedBytes = r.code) ∧
     (verifiedSlot key card w = some r → r.inRange = true)) ∧
  (∀ (c : Screen) (card : CardId) (instant : Nat),
     c.isHeld card instant = true ↔ ∃ e ∈ c.holds, e.card = card ∧ instant < e.until_) ∧
  ∀ (kind : TapKind) (r : CardRecord) (station instant grace : Nat),
    isReentry kind r station instant grace = true ↔
      kind = .entry ∧ r.journey = .opened ∧ r.origin = station ∧ r.start * 60 ≤ instant ∧ instant ≤ r.start * 60 + grace

/-- An answer with another turn bit, another slot or of another kind than the frame in progress calls for is ignored, and so is every
answer while no exchange is in progress and no hail window is open, and every HAIL while no hail window is open: the side goes on waiting
and its timer runs on. The expiry of the answer timer sends the same frame again after the first and second attempt; after the third the
side parts and CARD_LOST ends a transaction that was claiming or reading. The transaction guard: in CLAIMING, READING, SCREENING or
PRICING its expiry ends the transaction with TIMEOUT, and no STORE is sent. The port's turn at the end of the event is the model's choice
(log 6). -/
def Obligations.AnswersAndGuard : Prop :=
  (∀ (s : State) (sd : Side), (s.reader sd).window = none →
     (∀ ok turn no w, (∀ e turn' no', (s.reader sd).exchange = some e → e.frame = .fetch turn' no' → ok = false ∨ turn ≠ turn' ∨ no ≠ no') →
       exec (.slot sd ok turn no w) s = .next { s with port := s.port.pump }) ∧
     (∀ ok turn, (∀ e turn' no' record, (s.reader sd).exchange = some e →
         e.frame = .store turn' no' record ∨ e.frame = .mark turn' → ok = false ∨ turn ≠ turn') →
       exec (.done sd ok turn) s = .next { s with port := s.port.pump }) ∧
     (∀ ok area blocked, (∀ e card, (s.reader sd).exchange = some e → e.frame = .claim card → ok = false) →
       exec (.claimed sd ok area blocked) s = .next { s with port := s.port.pump }) ∧
     (∀ ok card, exec (.hail sd ok card) s = .next { s with port := s.port.pump })) ∧
  (∀ (s : State) (sd : Side) (e : Exchange), (s.reader sd).exchange = some e →
     (e.attempt < 3 →
       exec (.answerTimerExpiry sd) s = .next
         { s with
           readers := s.readers.set sd
             { s.reader sd with
               exchange := some { e with attempt := e.attempt + 1, answer := some 3 }, lastFrame := some e.frame }
           port := s.port.pump }) ∧
     (∀ x, e.attempt = 3 → (s.reader sd).link = .bound → (s.ctx sd).tx = some x → x.attached = none →
       (s.ctx sd).state = .claiming ∨ (s.ctx sd).state = .reading →
       ∃ t, exec (.answerTimerExpiry sd) s = .next t ∧ s.endedTo t sd x { outcome := .cardLost })) ∧
  ∀ (s : State) (sd : Side) (x : Transaction), (s.ctx sd).tx = some x → x.guard.isSome → x.attached = none →
    (s.ctx sd).state ∈ [CtxState.claiming, .reading, .screening, .pricing] →
    ∃ t, exec (.guardTimerExpiry sd) s = .next t ∧ s.endedTo t sd x { outcome := .timeout }

/-! Screening, pricing and the write. -/

/-- The screening of a card that is not STAFF, step by step: the first test that applies decides. With capture enabled DENYLISTED and
CLONE_SUSPECT lead to MARKING with the outcome fixed, without capture they end the tap; COUNTER sets the sighting's conflict flag either
way. A re-entry is a PASSBACK with every sighting but the two of a REPEAT, which GrantsWithoutWrite states. A served card goes on to
PRICING with its mark closed and its request handed to the calculator. A card that is held is HELD under a mark flagged "after the swap"
too; one that is not waits for the swap, and nothing else changes; that a second SCREENING of a lookup that waits changes nothing is the
model's choice (log 3). What held, the counter rules and a re-entry are stands in SlotAndCounterRules. The port's turn at the end of the
event is the model's choice (log 6). -/
def Obligations.ScreeningOrder : Prop :=
  (∀ (s : State) (sd : Side) (x : Transaction) (product : ProductKind × Nat) (r : CardRecord) (m : DenyMark),
    (s.ctx sd).state = .screening → (s.ctx sd).tx = some x → x.product = some product → product.1 ≠ .staff →
    x.currentRecord = some r → x.mark = some m →
    (x.waitsForSwap = true → exec (.screening sd) s = .next { s with port := s.port.pump }) ∧
    (x.waitsForSwap = false → m.afterSwap = true → s.screen.isHeld x.card x.instant = false →
      exec (.screening sd) s = .next
        { s with
          ctxs := s.ctxs.set sd { state := .screening, tx := some { x with waitsForSwap := true } }
          port := s.port.pump }) ∧
    (x.waitsForSwap = false → m.afterSwap = true → s.screen.isHeld x.card x.instant = true → x.attached = none →
      ∃ t, exec (.screening sd) s = .next t ∧ s.endedTo t sd x { outcome := .held })) ∧
  ∀ (s : State) (sd : Side) (x : Transaction) (product : ProductKind × Nat) (r : CardRecord) (m : DenyMark),
    (s.ctx sd).state = .screening → (s.ctx sd).tx = some x → x.attached = none → x.waitsForSwap = false → x.product = some product →
    product.1 ≠ .staff → x.currentRecord = some r → x.mark = some m → m.afterSwap = false →
    let held := s.screen.isHeld x.card x.instant
    let listed := s.screen.lookup m.arrival x.card
    let reason := counterRules (s.screen.sightingOf x.card) r.counter r.purse
    let reentry := isReentry sd.tapKind r s.port.station x.instant (s.bankOf x.tariff).ruleSet.reentryGrace
    let marking (t : State) (o : TapOutcome) (why : Option CloneReason) : Prop :=
      (t.ctx sd).state = .marking ∧
        (t.ctx sd).tx = some { x with verdict := some (o, why), mark := none, guard := none, waitsForSwap := false } ∧
        (t.reader sd).exchange = some { frame := .mark (s.reader sd).turn, attempt := 1, answer := some 3 } ∧
        t.gate = s.gate ∧ t.journal = s.journal ∧ t.doubt = s.doubt
    (held = true → ∃ t, exec (.screening sd) s = .next t ∧ s.endedTo t sd x { outcome := .held }) ∧
    (held = false → listed = true → s.screen.capture = false →
      ∃ t, exec (.screening sd) s = .next t ∧ s.endedTo t sd x { outcome := .denylisted }) ∧
    (held = false → listed = true → s.screen.capture = true → (s.reader sd).link = .bound →
      ∃ t, exec (.screening sd) s = .next t ∧ marking t .denylisted none ∧ t.screen = s.screen) ∧
    (held = false → listed = false → x.blocked = true →
      ∃ t, exec (.screening sd) s = .next t ∧ s.endedTo t sd x { outcome := .cardBlocked }) ∧
    (held = false → listed = false → x.blocked = false → reason = some .conflictFlag → s.screen.capture = false →
      ∃ t, exec (.screening sd) s = .next t ∧
        s.endedTo t sd x { outcome := .cloneSuspect, reason := some .conflictFlag }) ∧
    (held = false → listed = false → x.blocked = false → reason = some .counter → s.screen.capture = false →
      ∃ t, exec (.screening sd) s = .next t ∧
        ({ s with screen := t.screen } : State).endedTo t sd x { outcome := .cloneSuspect, reason := some .counter } ∧
        (t.screen.sightingOf x.card).map (·.conflict) = some true) ∧
    (held = false → listed = false → x.blocked = false → s.screen.capture = true → (s.reader sd).link = .bound →
      (reason = some .conflictFlag →
        ∃ t, exec (.screening sd) s = .next t ∧ marking t .cloneSuspect (some .conflictFlag) ∧ t.screen = s.screen) ∧
      (reason = some .counter → ∀ y, s.screen.sightingOf x.card = some y →
        ∃ t, exec (.screening sd) s = .next t ∧ marking t .cloneSuspect (some .counter) ∧
          t.screen = { s.screen with sightings := t.screen.sightings } ∧
          t.screen.sightingOf x.card = some { y with conflict := true })) ∧
    (held = false → listed = false → x.blocked = false → reason = none → reentry = true → s.screen.sightingOf x.card = none →
      ∃ t, exec (.screening sd) s = .next t ∧ s.endedTo t sd x { outcome := .passback }) ∧
    (∀ y, held = false → listed = false → x.blocked = false → reason = none → reentry = true → s.screen.sightingOf x.card = some y →
      (y.counter = r.counter ∧ y.passage ∈ [PassageState.none, .pending, .taken]) ∨
        (y.counter ≠ r.counter ∧ (y.counter + 1 ≠ r.counter ∨ y.alternate ≠ some r.counter)) →
      ∃ t, exec (.screening sd) s = .next t ∧ s.endedTo t sd x { outcome := .passback }) ∧
    (held = false → listed = false → x.blocked = false → reason = none → reentry = false →
      exec (.screening sd) s = .next
        { s with
          ctxs := s.ctxs.set sd { state := .pricing, tx := some { x with mark := none, waitsForSwap := false } }
          fares :=
            if s.fares.current = none then { current := some { side := sd, period := s.tariff.period }, waiting := none }
            else { s.fares with waiting := some sd }
          port := s.port.pump })

/-- The end of a pricing. A refusal ends the tap without a write. A record to write leads to the commit point: in free-open the tap ends
with FREE_OPEN, with the barrier HELD or the side out of service with OUT_OF_SERVICE, with four entries in the table with IN_DOUBT_FULL, in
that order. Otherwise the in-doubt entry is created before the STORE of the completed record goes to the target slot, the guard stopped
and the journal reservation passed to the entry, and a card that has a sighting has its alternate counter set to the new counter. The
port's turn at the end of the event is the model's choice (log 6). -/
def Obligations.CommitPoint : Prop :=
  ∀ (s : State) (p : Pricing) (x : Transaction) (q : PricingRequest), s.fares.current = some p → (s.ctx p.side).tx = some x →
    x.attached = none → s.pricingRequest p.side x = some q →
    let ends (o : TapOutcome) : Prop := ∃ t, exec .pricingComplete s = .next t ∧ s.endedTo t p.side x { outcome := o }
    (∀ o, price q (s.bankOf x.tariff) p.period = .refuse o → ends o) ∧
    ∀ record fare key current, price q (s.bankOf x.tariff) p.period = .write record fare → x.key = some key →
      x.current = some current →
      (s.inFreeOpen = true → ends .freeOpen) ∧
      (s.inFreeOpen = false → s.gate.barrier = .held ∨ s.inService p.side = false → ends .outOfService) ∧
      (s.inFreeOpen = false → s.gate.barrier ≠ .held → s.inService p.side = true →
        (4 ≤ s.doubt.entries.length → ends .inDoubtFull) ∧
        (s.doubt.entries.length < 4 → (s.reader p.side).link = .bound →
          let complete := { record with code := Config.checkFn key x.card record.protectedBytes }
          ∃ t, exec .pricingComplete s = .next t ∧
            t.doubt = { s.doubt with
              entries := s.doubt.entries ++
                [{ card := x.card, side := p.side, oldCounter := fare.counterBefore, target := current.other, record := complete,
                   fare := fare, tariff := x.tariff, deadline := some (s.doubt.periodS * 1000), passed := false
                   attached := false }] } ∧
            (t.ctx p.side).state = .writing ∧
            (t.ctx p.side).tx = some
              { x with
                intended := some complete, fare := some fare, keys := none, journalHeld := false, guard := none, mark := none } ∧
            t.readers = s.readers.set p.side
              { s.reader p.side with
                exchange := some
                  { frame := .store (s.reader p.side).turn current.other complete, attempt := 1, answer := some 3 }
                lastFrame := some (.store (s.reader p.side).turn current.other complete) } ∧
            (s.screen.sightingOf x.card = none → t.screen = s.screen) ∧
            (∀ y, s.screen.sightingOf x.card = some y →
              t.screen = { s.screen with sightings := t.screen.sightings } ∧
              t.screen.sightingOf x.card = some { y with alternate := some (fare.counterBefore + 1) } ∧
              ∀ card ≠ x.card, t.screen.sightingOf card = s.screen.sightingOf card) ∧
            t.journal = s.journal ∧ t.gate = s.gate ∧ t.sup = s.sup ∧ t.port = s.port.pump ∧
            t.ctx p.side.other = s.ctx p.side.other))

/-- DONE to a STORE completes the write, the first one of a tap and the rewrite of an attached entry alike: the in-doubt entry goes, the
fare record is appended from its reservation with the next sequence number, the authorisation with that number joins the side's queue, the
side parts and the context is free. The commit is recorded: a card without a sighting gets one; one whose sighting has a lower counter, or
the same counter and purse, takes the commit's fields and keeps its conflict flag; any other sighting has its conflict flag set.
TAP_RESULT, where its class is not masked and the notice queue has room for what comes before it, carries ACCEPTED, or RESOLVED for a
rewrite, with the grant, the charge and the sequence number. That a rewrite's sighting takes the instant of the transaction that resolves
is an inference (DEDUCED, log 21), and that TAP_RESULT may stand on the line already is the model's choice (DESIGN CHOICE, log 6). -/
def Obligations.WriteCompleted : Prop :=
  ∀ (s : State) (sd : Side) (e : Exchange) (turn : Bool) (no : SlotNo) (record : CardRecord) (x : Transaction) (f : FareRecord),
    (s.reader sd).exchange = some e → e.frame = .store turn no record → (s.reader sd).link = .bound →
    (s.ctx sd).state = .writing → (s.ctx sd).tx = some x → x.fare = some f → x.attached = none ∨ x.attached = some x.card →
    x.journalHeld = false →
    ∃ t, exec (.done sd true turn) s = .next t ∧
      (let result : Notice := .tapResult
         { side := sd, outcome := if x.attached = none then .accepted else .resolved, card := some x.card, reason := none, capture := none
           grant :=
             match s.gate.reservations.get sd with
             | .held => .queued
             | .withdrawn .freeOpen => .discarded
             | .withdrawn .holdOrFailClosed => .cancelled
             | .absent => .none
           charge := some { charge := f.charge, purse := f.purseAfter, seq := s.journal.next }, tariff := some x.tariff }
       s.port.masked.get .tapResult = false → s.port.notices.length ≤ 28 →
         result ∈ t.port.notices ∨ t.port.line = some (.notice result)) ∧
      t.doubt.entries = s.doubt.entries.filter (fun d => d.card ≠ x.card) ∧
      s.journal.records ++ [{ seq := s.journal.next, second := some f.instant, side := some f.side, body := .fare f }]
        <+: t.journal.records ∧
      t.journal.reserved = s.journal.reserved - 1 ∧
      (s.gate.reservations.get sd = .held →
        (t.gate.queues.get sd).map (fun a => { a with deadline := none }) =
          (s.gate.queues.get sd).map (fun a => { a with deadline := none }) ++
            [{ origin := .card, card := some x.card, seq := some s.journal.next, granted := s.tariff.clock, deadline := none }]) ∧
      (s.gate.reservations.get sd ≠ .held → t.gate.queues = s.gate.queues) ∧
      (t.gate.queues.get sd.other).map (fun a => { a with deadline := none }) =
        (s.gate.queues.get sd.other).map (fun a => { a with deadline := none }) ∧ t.gate.reservations.get sd = .absent ∧
      (let taken (conflict : Bool) (joined : Nat) : Sighting :=
         { card := x.card, counter := f.counterAfter, purse := f.purseAfter, alternate := none
           kind := match f.side with | .a => .entry | .b => .exit
           second := x.instant, station := s.port.station, gate := s.port.gateNo, source := .local
           passage := if s.gate.reservations.get sd = .held then .pending else .notTaken, conflict := conflict, joined := joined }
       (s.screen.sightingOf x.card = none → t.screen.sightingOf x.card = some (taken false s.screen.nextJoin)) ∧
       ∀ y, s.screen.sightingOf x.card = some y →
         (y.counter < f.counterAfter ∨ (y.counter = f.counterAfter ∧ y.purse = f.purseAfter) →
           t.screen.sightingOf x.card = some (taken y.conflict y.joined)) ∧
         (f.counterAfter < y.counter ∨ (y.counter = f.counterAfter ∧ y.purse ≠ f.purseAfter) →
           t.screen.sightingOf x.card = some { y with conflict := true })) ∧
      (t.reader sd).link = (if s.sup.readerHold.get sd then .down else .searching) ∧
      (t.reader sd).turn = (!(s.reader sd).turn) ∧ (t.reader sd).hold = some { card := x.card, absence := 1500 } ∧
      (t.ctx sd).tx = none ∧ t.ctx sd.other = s.ctx sd.other ∧ t.reader sd.other = s.reader sd.other

/-- CARD_LOST in WRITING, at the first STORE of a tap or at the rewrite of an attached entry, leaves the write in doubt: the outcome is
RETAP, the entry stays with its fields, its deadline and its journal reservation, detached if it was attached, every other entry stays as
it is, the authorisation reservation is released, no record is made, and no same-card hold is set. An entry whose deadline went by
meanwhile is in DeadlinePasses. The port's turn at the end of the event is the model's choice
(log 6). -/
def Obligations.WriteInDoubt : Prop :=
  ∀ (s : State) (sd : Side) (e : Exchange) (x : Transaction), (s.reader sd).exchange = some e → e.attempt = 3 →
    (s.reader sd).link = .bound → (s.ctx sd).state = .writing → (s.ctx sd).tx = some x →
    x.attached = none ∨ x.attached = some x.card → x.journalHeld = false →
    (∀ d ∈ s.doubt.entries, d.card = x.card → d.passed = false) →
    ∃ t, exec (.answerTimerExpiry sd) s = .next t ∧
      t.doubt = { s.doubt with
        entries := s.doubt.entries.map fun d => if d.card = x.card then { d with attached := false } else d } ∧
      t.journal = s.journal ∧ t.gate = { s.gate with reservations := s.gate.reservations.set sd .absent } ∧
      (t.reader sd).hold = (s.reader sd).hold ∧ (t.ctx sd).tx = none ∧ t.screen = s.screen ∧
      t.port = (s.port.notify (.tapResult
        { side := sd, outcome := .retap, card := some x.card, reason := none, capture := none, grant := .none, charge := none,
          tariff := some x.tariff })).pump

/-- The deadline of an in-doubt entry: an entry that is neither attached nor being written expires, with an IN_DOUBT_EXPIRED record from
its reservation; an attached entry is only marked. An entry so marked expires when it is detached: CARD_LOST to its STORE removes it with
the same record, in the same event. The second of the record is the clock's (DEDUCED, log 20). The port's turn at the end of the event is
the model's choice (log 6). -/
def Obligations.DeadlinePasses : Prop :=
  ∀ (s : State) (e : InDoubt), s.entryOf e.card = some e →
    let expired (t : State) : Prop :=
      t.doubt = { s.doubt with entries := s.doubt.entries.filter (fun d => d.card ≠ e.card) } ∧
      s.journal.records ++
        [{ seq := s.journal.next, second := s.tariff.clock, side := some e.side
           body := .inDoubtExpired e.card e.oldCounter e.record e.fare.kind e.fare.charge e.tariff }] <+: t.journal.records ∧
      t.journal.reserved = s.journal.reserved - 1 ∧ t.screen = s.screen ∧ t.tariff = { s.tariff with pinned := t.tariff.pinned } ∧
      t.aisle = s.aisle
    (e.deadline.isSome → e.attached = false → s.writingCard e.card = false →
      ∃ t, exec (.inDoubtDeadlineExpiry e.card) s = .next t ∧ expired t ∧ t.readers = s.readers ∧ t.ctxs = s.ctxs ∧
        t.gate = s.gate ∧ t.tariff = s.tariff) ∧
    (e.deadline.isSome → e.attached = true →
      exec (.inDoubtDeadlineExpiry e.card) s = .next
        { s with
          doubt := { s.doubt with
            entries := s.doubt.entries.map fun d => if d.card = e.card then { d with passed := true, deadline := none } else d }
          port := s.port.pump }) ∧
    (∀ (sd : Side) (x : Transaction) (c : Exchange), e.passed = true → (s.ctx sd).state = .writing → (s.ctx sd).tx = some x →
      x.card = e.card → x.attached = some e.card → x.journalHeld = false → (s.reader sd).exchange = some c → c.attempt = 3 →
      ∃ t, exec (.answerTimerExpiry sd) s = .next t ∧ expired t ∧ (t.ctx sd).tx = none ∧
        t.gate = { s.gate with reservations := s.gate.reservations.set sd .absent })

/-- The end of a capture: DONE to the MARK, or CARD_LOST after its third attempt, appends CLONE_CAPTURE from the journal reservation, puts
the card in the hold list for the hold time, and ends the tap with the outcome fixed before; no authorisation joins. HOLD_ADDED carries
the hold-until, and TAP_RESULT the outcome, the clone reason and the capture result, with no grant and no charge. That the consequences of
the append come first and HOLD_ADDED before TAP_RESULT is the model's choice (DESIGN CHOICE, log 34), and so is the port's turn at the end
of the event (log 6). -/
def Obligations.CaptureFinished : Prop :=
  ∀ (s : State) (sd : Side) (e : Exchange) (turn : Bool) (x : Transaction) (o : TapOutcome) (reason : Option CloneReason),
    (s.reader sd).exchange = some e → e.frame = .mark turn → (s.reader sd).link = .bound → (s.ctx sd).state = .marking →
    (s.ctx sd).tx = some x → x.verdict = some (o, reason) → x.attached = none → o = .denylisted ∨ o = .cloneSuspect →
    let ended (capture : CaptureResult) (t : State) : Prop :=
      let body : RecordBody := .cloneCapture x.card x.captureCounter o reason capture x.tariff
      t.port =
        (((s.appendReserved (some x.instant) (some sd) body).port.notify
          (.holdAdded x.card (min 3155759999 (x.instant + s.screen.holdHours * 3600)) capture)).notify
          (.tapResult
            { side := sd, outcome := o, card := some x.card, reason := reason, capture := some capture, grant := .none, charge := none
              tariff := some x.tariff })).pump ∧
      s.journal.records ++ [{ seq := s.journal.next, second := some x.instant, side := some sd, body := body }] <+: t.journal.records ∧
      t.journal.reserved = s.journal.reserved - 1 ∧
      (∃ h ∈ t.screen.holds, h.card = x.card ∧ h.until_ = min 3155759999 (x.instant + s.screen.holdHours * 3600)) ∧
      (∀ h ∈ s.screen.holds, h.card ≠ x.card → s.screen.holds.length < 64 → h ∈ t.screen.holds) ∧
      t.screen.denylist = s.screen.denylist ∧ t.screen.sightings = s.screen.sightings ∧
      (t.ctx sd).tx = none ∧ (t.reader sd).link = (if s.sup.readerHold.get sd then .down else .searching) ∧
      (t.reader sd).hold = some { card := x.card, absence := 1500 } ∧ t.gate.queues = s.gate.queues ∧
      t.gate.reservations.get sd = .absent ∧ t.sup.refusal.get sd = some 2000 ∧ t.doubt = s.doubt ∧
      t.ctx sd.other = s.ctx sd.other ∧ t.reader sd.other = s.reader sd.other
    (∃ t, exec (.done sd true turn) s = .next t ∧ ended .done t ∧ (t.reader sd).turn = !(s.reader sd).turn) ∧
    (e.attempt = 3 → ∃ t, exec (.answerTimerExpiry sd) s = .next t ∧ ended .failed t)

/-- The judgment of a card against its in-doubt entry, with the current slot and its record: the other side's entry refuses the tap with
IN_DOUBT_OTHER_SIDE; the intended record in its target slot is RESOLVED, with the fare record from the entry, the authorisation, the
commit in the sighting, SIGHTING_OUT and TAP_RESULT; the old counter and another target record are written again, unchanged, but in
free-open the tap ends with FREE_OPEN and in a hold or out of service with OUT_OF_SERVICE, the entry detached; anything else is superseded,
and the tap goes on as a fresh one where a journal reservation is left, and ends with JOURNAL_FULL where none is. The judgment is made in
the event of the SLOT answer for slot 1 that passes the card checks, as the last clause says. The second of the superseded record is the
instant of the tap that judged it (DEDUCED, log 20), the second of the commit that of the tap that resolves (DEDUCED, log 21), the
consequences of an append come before the other notices (DESIGN CHOICE, log 34), and the port's turn at the end of that event is the
model's choice (log 6). -/
def Obligations.InDoubtJudged : Prop :=
  (∀ (s : State) (sd : Side) (x : Transaction) (e : InDoubt) (n : SlotNo) (r : CardRecord),
    (s.ctx sd).tx = some x → s.entryOf x.card = some e → x.current = some n → x.slotRecord n = some r → x.journalHeld = true →
    x.attached = none → (s.reader sd).link = .bound →
    let t := s.enterScreening sd
    let given : State := { s with journal := { s.journal with reserved := s.journal.reserved - 1 } }
    (e.side ≠ sd → s.endedTo t.pump sd x { outcome := .inDoubtOtherSide }) ∧
    (e.side = sd → n = e.target → r = e.record → r.counter = e.oldCounter + 1 →
      let held := s.gate.reservations.get sd = .held
      let bare (a : Auth) : Auth := { a with deadline := none }
      t.doubt.entries = s.doubt.entries.filter (fun d => d.card ≠ x.card) ∧
      s.journal.records ++ [{ seq := s.journal.next, second := some e.fare.instant, side := some e.fare.side, body := .fare e.fare }]
        <+: t.journal.records ∧
      t.journal.reserved = s.journal.reserved - 1 - 1 ∧ (t.ctx sd).tx = none ∧ t.gate.reservations.get sd = .absent ∧
      (held →
        (t.gate.queues.get sd).map bare = (s.gate.queues.get sd).map bare ++
          [{ origin := .card, card := some x.card, seq := some s.journal.next, granted := s.tariff.clock, deadline := none }]) ∧
      (¬held → t.gate.queues = s.gate.queues) ∧ s.commitTaken t sd x e.fare ∧
      t.port =
        (((given.appendReserved (some e.fare.instant) (some e.fare.side) (.fare e.fare)).port.notify
          (.sightingOut x.card e.fare.counterAfter e.fare.purseAfter (match e.fare.side with | .a => .entry | .b => .exit) x.instant
            s.port.station s.port.gateNo (if held then .pending else .notTaken))).notify
          (.tapResult
            { side := sd, outcome := .resolved, card := some x.card, reason := none, capture := none
              grant :=
                match s.gate.reservations.get sd with
                | .held => .queued
                | .withdrawn .freeOpen => .discarded
                | .withdrawn .holdOrFailClosed => .cancelled
                | .absent => .none
              charge := some { charge := e.fare.charge, purse := e.fare.purseAfter, seq := s.journal.next }
              tariff := some x.tariff }))) ∧
    (e.side = sd → n ≠ e.target → r.counter = e.oldCounter → x.slotRecord e.target ≠ some e.record →
      (s.inFreeOpen = false → s.gate.barrier ≠ .held → s.inService sd = true →
        let store := LinkFrame.store (s.reader sd).turn e.target e.record
        t.ctx sd =
          { state := .writing
            tx := some
              { x with
                attached := some x.card, journalHeld := false, intended := some e.record, fare := some e.fare, guard := none
                mark := none } } ∧
        (t.reader sd).lastFrame = some store ∧ (t.reader sd).exchange = some { frame := store, attempt := 1, answer := some 3 } ∧
        t.doubt.entries = s.doubt.entries.map (fun d => if d.card = x.card then { d with attached := true } else d) ∧
        t.journal = given.journal ∧ t.gate = s.gate ∧ t.port = s.port) ∧
      (e.passed = false →
        let kept : State := { s with
          doubt := { s.doubt with
            entries := s.doubt.entries.map fun d => if d.card = x.card then { d with attached := false } else d } }
        (s.inFreeOpen = true → kept.endedTo t.pump sd x { outcome := .freeOpen }) ∧
        (s.inFreeOpen = false → s.gate.barrier = .held ∨ s.inService sd = false →
          kept.endedTo t.pump sd x { outcome := .outOfService }))) ∧
    (e.side = sd →
      (n = e.target ∧ ¬(r = e.record ∧ r.counter = e.oldCounter + 1)) ∨
        (n ≠ e.target ∧ (r.counter ≠ e.oldCounter ∨ x.slotRecord e.target = some e.record)) →
      let body : RecordBody := .inDoubtSuperseded x.card e.oldCounter e.record e.fare.kind e.fare.charge e.tariff r.counter
      let noted := given.appendReserved (some x.instant) (some e.side) body
      let free := 2048 - (s.journal.records.length + 1)
      let reserved := s.journal.reserved - 1 - 1
      t.doubt.entries = s.doubt.entries.filter (fun d => d.card ≠ x.card) ∧
      s.journal.records ++ [{ seq := s.journal.next, second := some x.instant, side := some e.side, body := body }]
        <+: t.journal.records ∧
      t.gate.queues = s.gate.queues ∧ t.screen = s.screen ∧
      (reserved + 16 < free →
        t.ctx sd = { state := .screening, tx := some { x with attached := none, journalHeld := true } } ∧
        t.journal.reserved = reserved + 1 ∧ t.port = noted.port) ∧
      (free ≤ reserved + 16 →
        (t.ctx sd).tx = none ∧ t.journal.reserved = reserved ∧ t.gate.reservations.get sd = .absent ∧
        t.sup.refusal.get sd = some 2000 ∧
        t.port = noted.port.notify
          (.tapResult
            { side := sd, outcome := .journalFull, card := some x.card, reason := none, capture := none, grant := .none, charge := none
              tariff := some x.tariff })))) ∧
  ∀ (s : State) (sd : Side) (c : Exchange) (x : Transaction) (area : StaticArea) (turn : Bool) (w : RawRecord) (key : Key) (n : SlotNo)
    (r : CardRecord), (s.reader sd).exchange = some c → c.frame = .fetch turn .one → (s.ctx sd).tx = some x → x.area = some area →
    x.key = some key → Config.checkFn key x.card area.protectedBytes = area.code →
    chooseSlot (verifiedSlot key x.card x.slot0) (verifiedSlot key x.card (some w)) = .current n r →
    let product := (s.bankOf x.tariff).productFor area.productCode.toNat
    product.1 ≠ .unmapped →
    product.1 = .staff ∨ s.gate.mode = .bidirectional ∨ (s.gate.mode = .entryOnly ∧ sd = .a) ∨ (s.gate.mode = .exitOnly ∧ sd = .b) →
    let y := { x with slot1 := some w, current := some n, product := some product }
    y.slotRecord n = some r ∧
    exec (.slot sd true turn .one w) s = .next
      (({ s with
        readers := s.readers.set sd { s.reader sd with turn := !(s.reader sd).turn, exchange := none }
        ctxs := s.ctxs.set sd { s.ctx sd with tx := some y } } : State).enterScreening sd).pump

/-- The grants without a write: a STAFF card skips the steps of SCREENING and its pricing admits it with an authorisation of origin STAFF,
and a re-entry whose sighting says NOT_TAKEN at the card's counter is a REPEAT, whose sighting becomes PENDING. So is one whose sighting
stands one counter lower with the card's counter as its alternate counter: it also takes the card's counter and purse, and the alternate
counter goes. Each releases its journal reservation, and none makes a record or an in-doubt entry. That a withdrawn REPEAT leaves its
sighting as it was is an inference (DEDUCED, log 22). -/
def Obligations.GrantsWithoutWrite : Prop :=
  ∀ (s : State) (sd : Side) (x : Transaction) (r : CardRecord) (product : ProductKind × Nat), (s.ctx sd).tx = some x →
    x.currentRecord = some r → x.product = some product → x.attached = none → x.journalHeld = true →
    let bare := fun (a : Auth) => { a with deadline := none }
    let granted (t : State) (origin : AuthOrigin) : Prop :=
      t.doubt = s.doubt ∧ t.journal = { s.journal with reserved := s.journal.reserved - 1 } ∧ (t.ctx sd).tx = none ∧
      t.gate.reservations.get sd = .absent ∧
      (s.gate.reservations.get sd = .held →
        (t.gate.queues.get sd).map bare = (s.gate.queues.get sd).map bare ++
          [{ origin := origin, card := some x.card, seq := none, granted := s.tariff.clock, deadline := none }]) ∧
      (s.gate.reservations.get sd ≠ .held → t.gate.queues = s.gate.queues)
    (product.1 = .staff → (s.ctx sd).state = .screening → x.waitsForSwap = false → x.mark.isSome →
      ∃ t, exec (.screening sd) s = .next t ∧ (t.ctx sd).state = .pricing ∧ t.screen = s.screen ∧ t.gate = s.gate ∧
        t.journal = s.journal) ∧
    (∀ p, product.1 = .staff → s.fares.current = some p → p.side = sd → x.area.isSome →
      ∃ t, exec .pricingComplete s = .next t ∧ granted t .staff ∧ t.screen = s.screen) ∧
    (∀ m y, product.1 ≠ .staff → (s.ctx sd).state = .screening → x.waitsForSwap = false → x.mark = some m → m.afterSwap = false →
      s.screen.isHeld x.card x.instant = false → s.screen.lookup m.arrival x.card = false → x.blocked = false →
      isReentry sd.tapKind r s.port.station x.instant (s.bankOf x.tariff).ruleSet.reentryGrace = true →
      s.screen.sightingOf x.card = some y → y.conflict = false →
      (y.counter = r.counter → y.purse = r.purse → y.passage = .notTaken →
        ∃ t, exec (.screening sd) s = .next t ∧ granted t .repeat ∧
          (s.gate.reservations.get sd = .held → t.screen.sightingOf x.card = some { y with passage := .pending }) ∧
          (s.gate.reservations.get sd ≠ .held → t.screen = s.screen)) ∧
      (y.counter + 1 = r.counter → y.alternate = some r.counter →
        ∃ t, exec (.screening sd) s = .next t ∧ granted t .repeat ∧
          (s.gate.reservations.get sd = .held → t.screen.sightingOf x.card =
            some { y with passage := .pending, counter := r.counter, purse := r.purse, alternate := none }) ∧
          (s.gate.reservations.get sd ≠ .held → t.screen = s.screen)))

/-- No STORE is sent to a card while the gate is FREE_OPEN or the barrier is HELD, whatever the command: a STORE that a side has as the
last frame sent or in its exchange after a command is the one it had before it, or is the same frame sent again, or is the first attempt of
a context that enters WRITING in a gate that is neither FREE_OPEN nor HELD, with its side in service. The state before the command keeps the
laws of transactions, which hold after reset (ResetIsLawful) and after every step (TransactionsStayLawful): the calculator prices only what
is in PRICING, and an exchange is that of its context's state. -/
def Obligations.NoStoreInFreeOpenOrHeld : Prop :=
  ∀ (c : Instr) (s t : State) (sd : Side), s.tapLaw → exec c s = .next t →
    let entered (f : LinkFrame) : Prop :=
      (s.ctx sd).state ≠ .writing ∧ (t.ctx sd).state = .writing ∧ t.inFreeOpen = false ∧ t.gate.barrier ≠ .held ∧
        t.inService sd = true ∧ (t.reader sd).lastFrame = some f ∧
        (t.reader sd).exchange = some { frame := f, attempt := 1, answer := some 3 }
    (∀ turn no record, (t.reader sd).lastFrame = some (.store turn no record) →
      (s.reader sd).lastFrame = some (.store turn no record) ∨
        (∃ e, (s.reader sd).exchange = some e ∧ e.frame = .store turn no record) ∨ entered (.store turn no record)) ∧
    (∀ e turn no record, (t.reader sd).exchange = some e → e.frame = .store turn no record →
      (∃ e', (s.reader sd).exchange = some e' ∧ e'.frame = e.frame) ∨ entered e.frame) ∧
    ((s.ctx sd).state ≠ .writing → (t.ctx sd).state = .writing → ∃ turn no record, entered (.store turn no record))

/-- Pricing, case by case. A request that is not settled before gets the record, the charge, the kind and the origin station that the
table of its case gives, or INSUFFICIENT where the new purse is below the entry minimum of an entry or below the negative of the overdraft
limit. The journey of an entry is an incomplete trip, a continuation or a new one; an exit is free, unentered, from an undefined origin,
at the same station or ordinary, in this order. The record that a pricing returns carries a counter one greater than that of the current
record, and the fare record says so; its charge lies in 0 to 65,535 and its purse is not below the negative of the overdraft limit. Stage
3: the fare is a multiple of the rounding unit that lies nearest to the exact value, the upper one at a tie, saturated at 65,535. Stages 1
and 2 of an ordinary exit, with what a complete bank gives: stored value is in the band of the absolute zone difference plus 1; a period
pass in the band of the number of zones of the interval that lie outside the pass, and band 0 has the fare 0; the factor is the peak
factor where the minute of day of the journey start lies in a window, its start minute included and its end minute excluded, of the day
type of the start's service day, and the off-peak factor otherwise. -/
def Obligations.FareFigures : Prop :=
  (∀ (q : PricingRequest) (b : Bank) (p : Option FreePeriod),
     let old := q.record
     let rules := b.ruleSet
     let now := q.instant / 60
     let day := (now - rules.boundary) / 1440
     (q.kind = .staff → price q b p = .staff) ∧
     (q.kind ≠ .staff → b.zoneOf q.station = 0 → price q b p = .refuse .noTariff) ∧
     (q.kind ≠ .staff → b.zoneOf q.station ≠ 0 → old.counter = 16777215 → price q b p = .refuse .cardExhausted) ∧
     (b.zoneOf q.station ≠ 0 → old.counter ≠ 16777215 → q.kind = .periodPass → day < q.area.passFrom.toNat ∨ q.area.passTo.toNat < day →
       price q b p = .refuse .passInvalid) ∧
     (q.kind ≠ .staff → b.zoneOf q.station ≠ 0 → old.counter ≠ 16777215 →
       (q.kind = .periodPass → q.area.passFrom.toNat ≤ day ∧ day ≤ q.area.passTo.toNat) →
       let copied : CardRecord :=
         { old with
           counter := old.counter + 1, lastStation := q.station, lastKind := match q.side with | .a => .entry | .b => .exit
           lastMinute := now, code := 0 }
       let result (r : CardRecord) (charge : Nat) (kind : FareKind) (origin : Nat) : PricingResult :=
         if (q.side = .a ∧ r.purse < (b.profileOf q.profile).entryMinimum) ∨ r.purse < -(rules.overdraft : Int) then
           .refuse .insufficient
         else
           .write r
             { kind := kind, charge := charge, counterBefore := old.counter, counterAfter := old.counter + 1, purseAfter := r.purse
               tariff := q.tariff, origin := origin, station := q.station, profile := q.profile, card := q.card, side := q.side
               instant := q.instant }
       let capped (c : Nat) (kind : FareKind) : PricingResult :=
         let x := applyCap (b.profileOf q.profile).cap day c old
         result
           { copied with
             journey := .closed, purse := old.purse - x.1, paid := min 65535 (old.paid + x.1), capDay := x.2.1, capAcc := x.2.2 }
           x.1 kind old.origin
       let started : CardRecord := { copied with journey := .opened, origin := q.station, start := now, paid := 0, legs := 1 }
       let lost := rules.incompleteCharge - old.paid
       let continues := old.lastMinute ≤ now ∧ now ≤ old.lastMinute + rules.transferWindow ∧ q.station ≠ old.lastStation ∧ old.legs < 4
       let covers := ∃ f, p = some f ∧ f.start ≤ now ∧ ∀ e, f.stop = some e → now ≤ e + rules.freeExitWindow
       let breaks := ∃ f, p = some f ∧ f.start ≤ now ∧ old.start < f.start
       let same := q.kind = .storedValue ∧ old.origin = q.station ∧ old.legs = 1 ∧ old.start ≤ now ∧
         now ≤ old.start + rules.sameStationWindow
       (q.side = .a → old.journey = .opened → price q b p = result { started with purse := old.purse - lost } lost .incompleteCharge old.origin) ∧
       (q.side = .a → old.journey = .closed → continues →
         price q b p = result { copied with journey := .opened, legs := old.legs + 1 } 0 .entry old.origin) ∧
       (q.side = .a → old.journey = .none ∨ (old.journey = .closed ∧ ¬continues) → price q b p = result started 0 .entry q.station) ∧
       (q.side = .b → old.journey ≠ .opened ∨ breaks → covers →
         price q b p =
           result { copied with journey := if old.journey = .opened then .closed else old.journey } 0 .freeExit old.origin) ∧
       (q.side = .b → old.journey ≠ .opened ∨ breaks → ¬covers →
         price q b p =
           result { copied with journey := .none, legs := 0, paid := 0, purse := old.purse - rules.unenteredCharge } rules.unenteredCharge
             .unenteredCharge q.station) ∧
       (q.side = .b → old.journey = .opened → ¬breaks →
         (b.zoneOf old.origin = 0 →
           price q b p =
             result { copied with journey := .closed, purse := old.purse - lost, paid := min 65535 (old.paid + lost) } lost .incompleteCharge
               old.origin) ∧
         (b.zoneOf old.origin ≠ 0 → same → price q b p = capped rules.sameStationCharge .exitCharge) ∧
         (b.zoneOf old.origin ≠ 0 → ¬same →
           price q b p = capped (ordinaryFare q b - old.paid) (if q.kind = .periodPass then .passUse else .exitCharge))))) ∧
  (∀ (q : PricingRequest) (b : Bank) (p : Option FreePeriod) (r : CardRecord) (f : FareRecord), price q b p = .write r f →
     (b.ruleSet.incompleteCharge ≤ 65535 → b.ruleSet.unenteredCharge ≤ 65535 → b.ruleSet.sameStationCharge ≤ 65535 →
       f.charge ≤ 65535) ∧
     r.counter = q.record.counter + 1 ∧ f.counterBefore = q.record.counter ∧ f.counterAfter = r.counter ∧
       r.purse = q.record.purse - f.charge ∧ f.purseAfter = r.purse ∧ -(b.ruleSet.overdraft : Int) ≤ r.purse) ∧
  (∀ base f d unit, 0 < unit → d ≤ 100 →
     ∃ n, journeyFare base f d unit = min 65535 (unit * n) ∧
       2 * base * f * (100 - d) < 100000 * unit * (2 * n + 1) ∧ 100000 * unit * (2 * n) ≤ 2 * base * f * (100 - d) + 100000 * unit) ∧
  (∀ (q : PricingRequest) (b : Bank) (zoneTable : List Nat) (bands : BandTable) (peaks : PeakWindows) (profiles : List Profile)
     (rules : Rules) (holidays : List Nat) (profile : Profile), b.stations = some zoneTable → b.bands = some bands → b.peaks = some peaks →
     b.profiles = some profiles → b.rules = some rules → b.holidays = some holidays → profiles[q.profile]? = some profile →
     let z1 := zoneTable.getD q.record.origin 0
     let z2 := zoneTable.getD q.station 0
     let start := q.record.start
     let day := (start - rules.boundary) / 1440
     let windows :=
       if day ∈ holidays ∨ (day + 5) % 7 = 6 then peaks.sundayHoliday
       else if (day + 5) % 7 = 5 then peaks.saturday else peaks.weekday
     let peak := windows.any fun w => decide (w.1 ≤ start % 1440 ∧ start % 1440 < w.2)
     let fareOfBand (band : Nat) : Nat :=
       journeyFare (bands.fares.getD (band - 1) 0) (if peak then bands.peak else bands.offPeak) profile.discount bands.unit
     let outside (z : Nat) : Prop :=
       (min z1 z2 ≤ z ∧ z ≤ max z1 z2) ∧ (z < q.area.zoneLow.toNat ∨ q.area.zoneHigh.toNat < z)
     b.ruleSet = rules ∧ b.profileOf q.profile = profile ∧ (∀ station, b.zoneOf station = zoneTable.getD station 0) ∧
     (q.kind ≠ .periodPass → ordinaryFare q b = fareOfBand (if z1 ≤ z2 then z2 - z1 + 1 else z1 - z2 + 1)) ∧
     (q.kind = .periodPass → ∃ zones : List Nat, zones.Nodup ∧ (∀ z, z ∈ zones ↔ outside z) ∧
       ordinaryFare q b = if zones = [] then 0 else fareOfBand zones.length))

/-- Stage 5, the daily cap of R57: the exits that go through it, with a charge of stage 4 or the same-station charge, and the two figures
that it gives; every other record keeps both cap fields; and the accumulator written does not exceed a nonzero cap unless it already
exceeded it on arrival, in which case it is unchanged. -/
def Obligations.FareCap : Prop :=
  (∀ (q : PricingRequest) (b : Bank) (p : Option FreePeriod) (r : CardRecord) (f : FareRecord), price q b p = .write r f →
     let cap := (b.profileOf q.profile).cap
     (f.kind ∈ [FareKind.exitCharge, .passUse] → ∃ c ∈ [ordinaryFare q b - q.record.paid, b.ruleSet.sameStationCharge],
       (f.charge, r.capDay, r.capAcc) = applyCap cap (q.tapDay b) c q.record) ∧
     (f.kind ∉ [FareKind.exitCharge, .passUse] → r.capDay = q.record.capDay ∧ r.capAcc = q.record.capAcc) ∧
     (cap ≠ 0 → r.capAcc ≤ cap ∨ (r.capAcc = q.record.capAcc ∧ cap < q.record.capAcc))) ∧
  (∀ cap day c r,
     let out := applyCap cap day c r
     let arrived := if r.capDay = day then r.capAcc else 0
     out.2.1 = day ∧ (cap = 0 → out.1 = c ∧ out.2.2 = min 65535 (arrived + c)) ∧
       (cap ≠ 0 → cap ≤ arrived → out.1 = 0 ∧ out.2.2 = arrived) ∧
       (arrived < cap → out.1 = min c (cap - arrived) ∧ out.2.2 = arrived + out.1 ∧ out.2.2 ≤ cap))

/-! Tariffs, keys and the clock. -/

/-- TARIFF_LOAD, judged in its order: a pending activation, a pinned bank, an unknown section or a wrong length leave the STANDBY bank
unchanged; otherwise the bank becomes INVALID without a version, and the section named takes the new contents, each value read at its
place in the layout, or becomes absent where a value lies outside its range. That a request is answered in the event of its arrival, and
the port's turn at its end, are the model's (log 5, log 6). -/
def Obligations.TariffLoad : Prop :=
  ∀ (s : State) (tag : Byte) (n : Nat) (contents : List Byte), s.port.ready → contents.length + 1 ∈ [257, 36, 52, 41, 16, 66, 65] →
    let byte (k : Nat) : Nat := fieldAt k 1 contents
    let word (k : Nat) : Nat := fieldAt k 2 contents
    let bank := { s.tariff.standby with version := none, valid := false }
    let answers (t : State) (r : Result) : Prop := exec (.tariffLoad tag n contents) s = .next (t.reply 0x0B tag r [])
    let judged (number length : Nat) (fits : Prop) (loaded cleared : Bank) : Prop :=
      n = number → contents.length = length →
        (fits → answers { s with tariff := { s.tariff with standby := loaded } } .ok) ∧
        (¬fits → answers { s with tariff := { s.tariff with standby := cleared } } .badValue)
    let windows (k : Nat) : List (Nat × Nat) := (List.range (byte k)).map fun m => (word (k + 1 + 4 * m), word (k + 3 + 4 * m))
    let windowsFit (k : Nat) : Prop := byte k ≤ 4 ∧ ∀ w ∈ windows k, w.1 ≤ 1439 ∧ w.2 ≤ 1440 ∧ w.1 < w.2
    let rules : Rules :=
      { transferWindow := byte 0, reentryGrace := word 1, sameStationWindow := byte 3, sameStationCharge := word 4
        incompleteCharge := word 6, unenteredCharge := word 8, freeExitWindow := byte 10, overdraft := word 11, boundary := word 13 }
    let kinds := [ProductKind.unmapped, .storedValue, .periodPass, .staff]
    (s.tariff.activation.isSome → answers s .tariffPending) ∧
    (s.tariff.activation = none → s.tariff.pinned = true → answers s .notNow) ∧
    (s.tariff.activation = none → s.tariff.pinned = false →
      (n ∉ [1, 2, 3, 4, 5, 6, 7] → answers s .badValue) ∧
      (n ∈ [1, 2, 3, 4, 5, 6, 7] → [256, 35, 51, 40, 15, 65, 64][n - 1]? ≠ some contents.length → answers s .badLength) ∧
      judged 1 256 (∀ k < 256, byte k ≤ 15)
        { bank with stations := some ((List.range 256).map byte) } { bank with stations := none } ∧
      judged 2 35 ((500 ≤ word 30 ∧ word 30 ≤ 3000) ∧ (500 ≤ word 32 ∧ word 32 ≤ 3000) ∧ byte 34 ∈ [1, 2, 5, 10, 50])
        { bank with
          bands := some
            { fares := (List.range 15).map fun k => word (2 * k), peak := word 30, offPeak := word 32, unit := byte 34 } }
        { bank with bands := none } ∧
      judged 3 51 (windowsFit 0 ∧ windowsFit 17 ∧ windowsFit 34)
        { bank with peaks := some { weekday := windows 0, saturday := windows 17, sundayHoliday := windows 34 } }
        { bank with peaks := none } ∧
      judged 4 40 (∀ k < 8, byte (5 * k) ≤ 100)
        { bank with
          profiles := some ((List.range 8).map fun k =>
            { discount := byte (5 * k), cap := word (5 * k + 1), entryMinimum := word (5 * k + 3) }) }
        { bank with profiles := none } ∧
      judged 5 15
        (byte 0 ≤ 180 ∧ word 1 ≤ 600 ∧ byte 3 ≤ 60 ∧ byte 10 ≤ 120 ∧ word 11 ≤ 5000 ∧ word 13 ≤ 359)
        { bank with rules := some rules } { bank with rules := none } ∧
      judged 6 65 (byte 0 ≤ 32 ∧ ∀ k < byte 0, word (1 + 2 * k) ≤ 36524)
        { bank with holidays := some ((List.range (byte 0)).map fun k => word (1 + 2 * k)) } { bank with holidays := none } ∧
      judged 7 64 (∀ k < 32, byte (2 * k) < 4 ∧ byte (2 * k + 1) ≤ 7)
        { bank with products := some ((List.range 32).map fun k => (kinds.getD (byte (2 * k)) .unmapped, byte (2 * k + 1))) }
        { bank with products := none })

/-- TARIFF_ACTIVATE and TARIFF_DISCARD, each judged in its order. The key table: KEY_LOAD writes one of the 8 slots, KEY_ERASE empties a
loaded one and answers NOT_FOUND for an empty one; neither changes the key copy of a transaction. That a request is answered in the event
of its arrival, and the port's turn at its end, are the model's (log 5, log 6). -/
def Obligations.TariffAndKeyRequests : Prop :=
  (∀ (s : State) (tag : Byte), s.port.ready →
     (∀ version day, version ≤ 65535 →
       exec (.tariffActivate tag version day) s = .next (
         if s.tariff.pinned then s.reply 0x0C tag .notNow []
         else if version = 0 ∨ s.tariff.active.version = some version then s.reply 0x0C tag .badValue []
         else if 36524 < day then s.reply 0x0C tag .badValue []
         else if s.tariff.standby.stations = none ∨ s.tariff.standby.bands = none ∨ s.tariff.standby.peaks = none ∨
             s.tariff.standby.profiles = none ∨ s.tariff.standby.rules = none ∨ s.tariff.standby.holidays = none ∨
             s.tariff.standby.products = none then
           s.reply 0x0C tag .badValue []
         else
           { s with
             tariff :=
               { s.tariff with
                 standby := { s.tariff.standby with version := some version, valid := true }
                 activation := some (version, day) } }.reply 0x0C tag .ok [])) ∧
     exec (.tariffDiscard tag) s = .next (
       if s.tariff.pinned then s.reply 0x0D tag .notNow []
       else
         { s with
           tariff :=
             { s.tariff with
               standby := { stations := none, bands := none, peaks := none, profiles := none, rules := none, holidays := none
                            products := none, version := none, valid := false }
               activation := none } }.reply 0x0D tag .ok [])) ∧
  (∀ (s : State) (tag : Byte) (n : Nat) (k : Key), s.port.ready →
     exec (.keyLoad tag n k) s = .next (
       if 7 < n then s.reply 0x0E tag .badValue []
       else { s with tariff := { s.tariff with keys := s.tariff.keys.set n (some k) } }.reply 0x0E tag .ok []) ∧
     exec (.keyErase tag n) s = .next (
       if 7 < n then s.reply 0x0F tag .badValue []
       else if s.tariff.keys.getD n none = none then s.reply 0x0F tag .notFound []
       else { s with tariff := { s.tariff with keys := s.tariff.keys.set n none } }.reply 0x0F tag .ok []))

/-- The clock's advance: one second, a minute step when it reaches a multiple of 60, and UNSET with the class CLOCK raised after the last
second of the range; an UNSET clock does not advance. At a minute step, where no activation is pending or the pending one has not reached
its service day, the horizon that is set comes into force, and expired holds and the sightings older than it go. That the horizon in force
is a second value, which takes the one set at the minute step before the pruning, is an inference (DEDUCED, log 39). The milliseconds to
the next advance are the model's own (log 2). The port's turn at the end of the event is the model's choice (log 6). -/
def Obligations.ClockAdvance : Prop :=
  ∀ s : State,
    (s.tariff.clock = none → exec .clockAdvance s = .next { s with port := s.port.pump }) ∧
    (∀ t, s.tariff.clock = some t → t < 3155759999 → (t + 1) % 60 ≠ 0 →
      exec .clockAdvance s = .next
        { s with tariff := { s.tariff with clock := some (t + 1), toAdvance := 1000 }, port := s.port.pump }) ∧
    (∀ t, s.tariff.clock = some t → t < 3155759999 → (t + 1) % 60 = 0 →
      (∀ version day, s.tariff.activation = some (version, day) → day ≠ 0 ∧ serviceDay s.boundary ((t + 1) / 60) < day) →
      exec .clockAdvance s = .next
        { s with
          tariff := { s.tariff with clock := some (t + 1), toAdvance := 1000 }
          screen := { s.screen with
            holds := s.screen.holds.filter fun e => t + 1 < e.until_
            horizonInForce := s.screen.horizonMin
            sightings := s.screen.sightings.filter fun x => t + 1 ≤ x.second + s.screen.horizonMin * 60 }
          port := s.port.pump }) ∧
    (s.tariff.clock = some 3155759999 → ∃ t, exec .clockAdvance s = .next t ∧ t.tariff.clock = none ∧
      t.sup.conds.get .clock ≠ .clear ∧ t.screen = s.screen ∧ t.gate = s.gate ∧ t.ctxs = s.ctxs ∧ t.readers = s.readers)

/-- The swap at a minute step whose condition holds: the banks exchange roles, the activation becomes absent, the bank that becomes STANDBY
is pinned while a transaction before its commit point holds its version, a TARIFF_ACTIVATED record is appended where the journal has
room, and the first swap clears the class TARIFF. -/
def Obligations.TariffSwap : Prop :=
  ∀ (s : State) (t version day : Nat), s.tariff.clock = some t → t < 3155759999 → (t + 1) % 60 = 0 →
    s.tariff.activation = some (version, day) →
    day = 0 ∨ day ≤ ((t + 1) / 60 - (if s.tariff.active.valid then s.tariff.active.ruleSet.boundary else 0)) / 1440 →
    ∃ u, exec .clockAdvance s = .next u ∧
      u.tariff = { s.tariff with
        active := s.tariff.standby, standby := s.tariff.active, activation := none, clock := some (t + 1), toAdvance := 1000
        pinned := s.ctxs.a.holdsVersion s.tariff.active.version || s.ctxs.b.holdsVersion s.tariff.active.version } ∧
      (2048 - s.journal.records.length > s.journal.reserved →
        s.journal.records ++
          [{ seq := s.journal.next, second := some (t + 1), side := none
             body := .tariffActivated version (if s.tariff.active.valid then s.tariff.active.version else none) day }]
          <+: u.journal.records) ∧
      (s.tariff.active.valid = false → u.sup.conds.get .tariff = .clear) ∧ u.ctxs = s.ctxs ∧ u.gate = s.gate ∧ u.doubt = s.doubt

/-- SET_CLOCK: an invalid setting is refused with BAD_CLOCK, a backward one of more than 60 s without force with CLOCK_BACKWARD, each with
nothing changed. A setting that is taken makes the clock RUNNING at it with a full second to the next advance; its minute step removes the
expired holds and the sightings older than the horizon, and a forced one clears the sightings table; CLOCK_SET is appended with the second
before, the second taken and whether force took effect; and CLOCK clears. No tick-based interval moves. GET_CLOCK answers OK with the clock
and the free period record, field by field, and changes nothing; while the clock is UNSET the time fields are 0. STATION_FREE_PERIOD is
judged in its order and replaces the record. The model's, not the spec's: that a request is answered in the event of its arrival, and the
port's turn at its end (log 5, log 6); BAD_VALUE for a force flag other than 0 and 1 (DESIGN CHOICE, log 23); the horizon in force
(DEDUCED, log 39); and that CLOCK_SET comes after the records of the minute step and before that of the clear (DESIGN CHOICE, log 34). -/
def Obligations.ClockRequests : Prop :=
  (∀ (s : State) (tag : Byte) (d : DateTime) (force : Nat), s.port.ready →
     let now := d.toSecond
     let back := ∃ t, s.tariff.clock = some t ∧ now + 60 < t
     (d.isValid = false → exec (.setClock tag d force) s = .next (s.reply 0x10 tag .badClock [])) ∧
     (d.isValid = true → 1 < force → exec (.setClock tag d force) s = .next (s.reply 0x10 tag .badValue [])) ∧
     (d.isValid = true → force = 0 → back → exec (.setClock tag d force) s = .next (s.reply 0x10 tag .clockBackward [])) ∧
     (∀ forced, d.isValid = true → (forced = false ∧ force ≤ 1 ∧ ¬back) ∨ (forced = true ∧ force = 1 ∧ back) →
       ∃ u, exec (.setClock tag d force) s = .next u ∧ u.tariff.clock = some now ∧ u.tariff.toAdvance = 1000 ∧
         u.port.made { kind := 0x90, tag := tag, result := .ok, fields := [] } ∧
         u.tariff.keys = s.tariff.keys ∧ u.tariff.period = s.tariff.period ∧ u.readers = s.readers ∧ u.ctxs = s.ctxs ∧
         u.doubt = s.doubt ∧ u.gate = s.gate ∧ u.aisle = s.aisle ∧ u.sup.refusal = s.sup.refusal ∧
         u.screen = { s.screen with
           holds := s.screen.holds.filter fun e => now < e.until_
           horizonInForce := s.screen.horizonMin
           sightings := if forced then [] else s.screen.sightings.filter fun x => now ≤ x.second + s.screen.horizonMin * 60 } ∧
         s.journal.records <+: u.journal.records ∧
         (s.journal.records.length + s.journal.reserved + 4 ≤ 2048 →
           ∃ r ∈ u.journal.records.drop s.journal.records.length,
             r.second = some now ∧ r.side = none ∧ r.body = .clockSet s.tariff.clock now forced) ∧
         (s.tariff.activation = none → s.journal.records.length + s.journal.reserved < 2048 →
           s.journal.records ++
             [{ seq := s.journal.next, second := some now, side := none, body := .clockSet s.tariff.clock now forced }]
             <+: u.journal.records) ∧
         (s.tariff.clock = none → u.sup.conds.get .clock = .clear) ∧
         (s.tariff.clock ≠ none → u.sup.conds.get .clock = s.sup.conds.get .clock))) ∧
  (∀ (s : State) (tag : Byte), s.port.ready →
     let p := s.tariff.period
     let stop := p.bind (·.stop)
     let time : List Byte :=
       match s.tariff.clock with
       | none => List.replicate 17 0
       | some t =>
         let d := dateTimeOf t
         let day := serviceDay s.boundary (t / 60)
         beBytes 2 d.year ++ beBytes 1 d.month ++ beBytes 1 d.day ++ beBytes 1 d.hour ++ beBytes 1 d.minute ++ beBytes 1 d.second ++
           beBytes 4 t ++ beBytes 2 day ++ beBytes 1 ((day + 5) % 7) ++
           [if day ∈ s.holidaysInUse ∨ (day + 5) % 7 = 6 then DayType.sundayHoliday.code
            else if (day + 5) % 7 = 5 then DayType.saturday.code else DayType.weekday.code] ++ beBytes 2 s.boundary
     let fields : List Byte :=
       [boolByte s.tariff.clock.isSome, presence [s.tariff.clock.isSome, p.isSome, stop.isSome]] ++ time ++
         beBytes 4 ((p.map (·.start)).getD 0) ++ beBytes 4 (stop.getD 0) ++ [(p.map fun x => x.origin.code).getD 0]
     exec (.getClock tag) s = .next (s.reply 0x11 tag .ok fields) ∧ fields.length = 28 ∧
     (s.tariff.clock = none → p = none → fields = List.replicate 28 0) ∧
     (∀ t, s.tariff.clock = some t → t < 256 ^ 4 → fieldAt 9 4 fields = t) ∧
     ∀ start stop,
       exec (.stationFreePeriod tag start stop) s = .next (
         if s.gate.reasons.emergency ∨ s.gate.reasons.command ∨ s.gate.reasons.fault then s.reply 0x1B tag .notNow []
         else if 52595999 < start ∨ 52595999 < stop ∨ stop < start then s.reply 0x1B tag .badValue []
         else
           { s with tariff := { s.tariff with period := some { start := start, stop := some stop, origin := .station } } }.reply
             0x1B tag .ok []))

/-! Screening: holds, the denylist and sightings. -/

/-- HOLD_RELEASE removes a card's entry or answers NOT_FOUND, HOLD_LIST_READ returns up to 32 entries from a start position of 0 to 63,
and DENYLIST_QUERY answers at once with the lookup made now; the two readings change nothing. DENYLIST_ADD and DENYLIST_REMOVE, judged in
their order: BULK_IN_PROGRESS during a build, QUEUE_FULL at 16 updates, else the update joins the end of the queue with the next arrival
number, which wraps from 4,294,967,295 to 1. That a request is answered in the event of its arrival, and the port's turn at its end, are
the model's (log 5, log 6). -/
def Obligations.HoldAndDenylistRequests : Prop :=
  (∀ (s : State) (tag : Byte), s.port.ready →
     (∀ card, exec (.holdRelease tag card) s = .next (
       if ∃ e ∈ s.screen.holds, e.card = card then
         { s with screen := { s.screen with holds := s.screen.holds.filter fun e => e.card ≠ card } }.reply 0x18 tag .ok []
       else s.reply 0x18 tag .notFound [])) ∧
     (∀ start, exec (.holdListRead tag start) s = .next (
       if 63 < start then s.reply 0x19 tag .badValue []
       else
         let out := (s.screen.holds.drop start).take 32
         s.reply 0x19 tag .ok
           (beBytes 1 s.screen.holds.length ++ beBytes 1 out.length ++ out.flatMap fun e => cardBytes e.card ++ beBytes 4 e.until_))) ∧
     ∀ card, exec (.denylistQuery tag card) s = .next (s.reply 0x17 tag .ok
       ([boolByte (s.screen.lookup s.screen.arrivals card)] ++ beBytes 2 s.screen.listVersion ++ beBytes 2 s.screen.denylist.length
         ++ beBytes 1 s.screen.queue.length ++ [if s.screen.build = .idle then (0 : Byte) else if s.screen.build = .building then 1 else 2]
         ++ beBytes 2 s.screen.buildList.length))) ∧
  (∀ (s : State) (tag : Byte) (card : CardId), s.port.ready →
     let n := if s.screen.arrivals = 4294967295 then 1 else s.screen.arrivals + 1
     let joined (add : Bool) : State :=
       { s with
         screen := { s.screen with arrivals := n, queue := s.screen.queue ++ [{ add := add, card := card, arrival := n }] } }
     exec (.denylistAdd tag card) s = .next (
       if s.screen.build ≠ .idle then s.reply 0x12 tag .bulkInProgress []
       else if 16 ≤ s.screen.queue.length then s.reply 0x12 tag .queueFull []
       else (joined true).reply 0x12 tag .ok (beBytes 4 n)) ∧
     exec (.denylistRemove tag card) s = .next (
       if s.screen.build ≠ .idle then s.reply 0x13 tag .bulkInProgress []
       else if 16 ≤ s.screen.queue.length then s.reply 0x13 tag .queueFull []
       else (joined false).reply 0x13 tag .ok (beBytes 4 n)))

/-- The apply of the head update: it begins while no open, unflagged mark is earlier than the head, and at its completion the list changes
and the update leaves the queue in one event. An ADD puts its card ID in its ascending place, a REMOVE takes it out, an ADD to a full list
changes nothing but makes the DENYLIST_FULL notice. A mark is earlier than the head when the head's arrival number was assigned fewer
arrivals ago, which without a wrap is a number below the head's; that the wrap is counted so is an inference (DEDUCED, log 28). The port's
turn at the end of the event is the model's choice (log 6). -/
def Obligations.ApplyOneUpdate : Prop :=
  (∀ (counter : Nat) (u : DenyUpdate) (m : DenyMark),
    let ago (n : Nat) : Nat := if n ≤ counter then counter - n else counter + 4294967295 - n
    holdsBack counter u none = false ∧
    (holdsBack counter u (some m) = true ↔ m.afterSwap = false ∧ ago u.arrival < ago m.arrival) ∧
    (u.arrival ≤ counter → m.arrival ≤ counter →
      (holdsBack counter u (some m) = true ↔ m.afterSwap = false ∧ m.arrival < u.arrival))) ∧
  ∀ (s : State) (u : DenyUpdate) (rest : List DenyUpdate), s.screen.queue = u :: rest →
    (s.screen.applying = false →
      exec .denylistApplyBegin s = .next
        { s with
          screen := { s.screen with
            applying := !(holdsBack s.screen.arrivals u (s.ctx .a).mark || holdsBack s.screen.arrivals u (s.ctx .b).mark) }
          port := s.port.pump }) ∧
    (s.screen.applying = true → ∃ t, exec .denylistApplyComplete s = .next t ∧
      t = { s with
        screen := { s.screen with denylist := t.screen.denylist, queue := rest, applying := false }
        port := (if u.add = true ∧ u.card ∉ s.screen.denylist ∧ 16384 ≤ s.screen.denylist.length then
            s.port.notify (.fault (.denylistFull u.card))
          else s.port).pump } ∧
      (u.add = true → u.card ∈ s.screen.denylist ∨ 16384 ≤ s.screen.denylist.length → t.screen.denylist = s.screen.denylist) ∧
      (u.add = true → u.card ∉ s.screen.denylist → s.screen.denylist.length < 16384 →
        (∀ c, c ∈ t.screen.denylist ↔ c = u.card ∨ c ∈ s.screen.denylist) ∧
          t.screen.denylist.length = s.screen.denylist.length + 1 ∧
          (s.screen.denylist.Pairwise (· < ·) → t.screen.denylist.Pairwise (· < ·))) ∧
      (u.add = false → t.screen.denylist = s.screen.denylist.filter (· ≠ u.card)))

/-- "A denylist lookup reflects every update that arrived before its transaction claimed the card": a lookup made with a mark equal to the
arrival counter sees an update that has just arrived; an update that arrives later does not change a lookup with an older mark; and the
completion of an apply moves an update from the queue to the list without changing any lookup whose mark covers it, unless the list is
full. Arrival numbers are compared by their age (DEDUCED, log 28). -/
def Obligations.LookupReflectsEarlierUpdates : Prop :=
  ∀ (c : Screen) (add : Bool) (card : CardId),
    let d : Screen :=
      { c with arrivals := arrivalSucc c.arrivals, queue := c.queue ++ [{ add := add, card := card, arrival := arrivalSucc c.arrivals }] }
    d.lookup d.arrivals card = add ∧
    (∀ m other, c.arrivals ≤ 4294967295 → m ≤ 4294967295 → arrivalAge c.arrivals m < 2147483648 →
      (∀ u ∈ c.queue, u.arrival ≤ 4294967295 ∧ arrivalAge c.arrivals u.arrival < 2147483648) → d.lookup m other = c.lookup m other) ∧
    ∀ (s t : State) (u : DenyUpdate) (rest : List DenyUpdate) (m : Nat) (other : CardId), s.screen.queue = u :: rest →
      s.screen.applying = true → arrivalAge s.screen.arrivals m ≤ arrivalAge s.screen.arrivals u.arrival →
      (u.add = true → u.card ∉ s.screen.denylist → s.screen.denylist.length < 16384) →
      exec .denylistApplyComplete s = .next t → t.screen.lookup m other = s.screen.lookup m other

/-- A bulk replace: DENYLIST_BEGIN, DENYLIST_PAGE and DENYLIST_END judged in their orders; END holds its reply, and the swap, at the first
moment at which the queue is empty, no apply is in progress and no unflagged mark is open, puts the new list in force, turns flagged marks
into ordinary ones, makes the lookups that waited and sends the reply. A lookup that waited is the SCREENING of that side at the new list:
but for the port, the state after the swap is the one that SCREENING makes of the state with the new list and ordinary marks. The model's,
not the spec's: that DENYLIST_BEGIN with version 0 in ENDING is BAD_VALUE (DESIGN CHOICE, log 43); that the whole judgment from step 2 on
is made at the swap (DEDUCED, log 27), side A's before side B's (DESIGN CHOICE, log 34); that a request is answered in the event of its
arrival, and the port's turn at its end (log 5, log 6). -/
def Obligations.BulkReplace : Prop :=
  ∀ (s : State) (tag : Byte),
    (s.port.ready →
      (∀ version, version ≤ 65535 →
        exec (.denylistBegin tag version) s = .next (
          if version = 0 then s.reply 0x14 tag .badValue []
          else if s.screen.build = .ending then s.reply 0x14 tag .notNow []
          else
            { s with
              screen := { s.screen with build := .building, buildList := [], buildVersion := version, buildLast := none } }.reply
              0x14 tag .ok [])) ∧
      (∀ cards, cards.length ≤ 85 →
        exec (.denylistPage tag cards) s = .next (
          if s.screen.build ≠ .building then s.reply 0x15 tag .notNow []
          else if cards.length = 0 ∨ 64 < cards.length then s.reply 0x15 tag .badValue []
          else if ¬cards.Pairwise (· < ·) ∨ pageBehind s.screen.buildLast cards = true then s.reply 0x15 tag .badValue []
          else if 16384 < s.screen.buildList.length + cards.length then s.reply 0x15 tag .badValue []
          else
            { s with
              screen := { s.screen with buildList := s.screen.buildList ++ cards, buildLast := cards.getLast? } }.reply 0x15 tag .ok [])) ∧
      exec (.denylistEnd tag) s = .next (
        if s.screen.build = .building then
          { s with
            screen := { s.screen with build := .ending }
            port := { s.port.pump with requests := [{ tag := tag, request := .denylistEnd }], headTaken := true } }
        else s.reply 0x16 tag .notNow [])) ∧
    ((s.screen.build ≠ .ending ∨ s.screen.queue ≠ [] ∨ s.screen.applying = true ∨
        ∃ sd m, (s.ctx sd).mark = some m ∧ m.afterSwap = false) → exec .denylistSwap s = .next { s with port := s.port.pump }) ∧
    (s.screen.build = .ending → s.screen.queue = [] → s.screen.applying = false →
      (∀ sd m, (s.ctx sd).mark = some m → m.afterSwap = true) → s.port.requests = [{ tag := tag, request := .denylistEnd }] →
      s.port.headTaken = true → s.port.outgoing.length < 8 →
      ∃ t, exec .denylistSwap s = .next t ∧ t.screen.denylist = s.screen.buildList ∧ t.screen.listVersion = s.screen.buildVersion ∧
        t.screen.build = .idle ∧ t.screen.buildList = [] ∧ t.screen.buildLast = none ∧ t.port.requests = [] ∧
        t.port.made { kind := 0x96, tag := tag, result := .ok,
                      fields := beBytes 2 s.screen.buildVersion ++ beBytes 2 s.screen.buildList.length } ∧
        (∀ sd m, (t.ctx sd).mark = some m → m.afterSwap = false) ∧
        (∀ sd x, (t.ctx sd).state = .screening → (t.ctx sd).tx = some x → x.waitsForSwap = false) ∧
        (let waits (sd : Side) : Prop := (s.ctx sd).state = .screening ∧ ∃ x, (s.ctx sd).tx = some x ∧ x.waitsForSwap = true
         let ordinary (c : Context) : Context :=
           { c with
             tx := c.tx.map fun x =>
               { x with
                 mark := x.mark.map fun m => { m with afterSwap := false }
                 waitsForSwap := if c.state = .screening then false else x.waitsForSwap } }
         let made : State := { s with
           screen := { s.screen with
             denylist := s.screen.buildList, listVersion := s.screen.buildVersion, build := .idle, buildList := [], buildVersion := 0
             buildLast := none }
           ctxs := { a := ordinary s.ctxs.a, b := ordinary s.ctxs.b } }
         ∃ v w : State, (waits .a → exec (.screening .a) made = .next v) ∧ (¬waits .a → v = made) ∧
           (waits .b → exec (.screening .b) v = .next w) ∧ (¬waits .b → w = v) ∧ t = { w with port := t.port }) ∧
        ((∀ sd x, (s.ctx sd).tx = some x → x.waitsForSwap = false) →
          t.gate = s.gate ∧ t.journal = s.journal ∧ t.readers = s.readers ∧ t.screen.sightings = s.screen.sightings))

/-- SIGHTING, judged and merged line by line: a value out of range is BAD_VALUE, an UNSET clock NOT_NOW, a record older than the horizon
in force is not merged, and otherwise the card's sighting follows the table of the merge; nothing else but the reply changes, except that
a new card in a table of 512 entries removes the first one in the table's order. That a SIGHTING is judged by the horizon in force, and
not by the one set since the last minute step, is an inference (DEDUCED, log 39). That a value out of range is BAD_VALUE while the clock
is UNSET too, where R113 gives both refusals and no order between them, is the model's choice (DESIGN CHOICE, log 43). That a request is
answered in the event of its arrival, and the port's turn at its end, are the model's (log 5, log 6). -/
def Obligations.SightingMerged : Prop :=
  ∀ (s : State) (tag : Byte) (f : SightingFields), s.port.ready →
    let fits := f.counter ≤ 16777215 ∧ (-99999 ≤ f.purse ∧ f.purse ≤ 9999999) ∧ f.second ≤ 3155759999 ∧ f.station ≤ 255 ∧ f.gate ≤ 255 ∧
      (f.kind = 1 ∨ f.kind = 2) ∧ f.passage ≤ 3
    (¬fits → exec (.sighting tag f) s = .next (s.reply 0x1A tag .badValue [])) ∧
    (fits → s.tariff.clock = none → exec (.sighting tag f) s = .next (s.reply 0x1A tag .notNow [])) ∧
    ∀ now, fits → s.tariff.clock = some now →
      (f.second + s.screen.horizonInForce * 60 < now → exec (.sighting tag f) s = .next (s.reply 0x1A tag .ok [])) ∧
      (now ≤ f.second + s.screen.horizonInForce * 60 →
        ∃ t, exec (.sighting tag f) s = .next t ∧
          t = { s with
            screen := { s.screen with sightings := t.screen.sightings, nextJoin := t.screen.nextJoin } }.reply 0x1A tag .ok [] ∧
          (s.screen.sightings.length < 512 ∨ s.screen.sightingOf f.cardId ≠ none →
            ∀ card ≠ f.cardId, t.screen.sightingOf card = s.screen.sightingOf card) ∧
          (∀ first rest, s.screen.sightings = first :: rest → 512 ≤ s.screen.sightings.length → s.screen.sightingOf f.cardId = none →
            (∀ card, card ≠ f.cardId → card ≠ first.card → t.screen.sightingOf card = s.screen.sightingOf card) ∧
            ((∀ x ∈ rest, x.card ≠ first.card) → t.screen.sightingOf first.card = none)) ∧
          ∀ kind passage, (kind = if f.kind = 1 then TapKind.entry else .exit) →
            (passage = match f.passage with
              | 0 => PassageState.none | 1 => .pending | 2 => .taken | _ => .notTaken) →
            let peer (alternate : Option Nat) (conflict : Bool) (joined : Nat) : Sighting :=
              { card := f.cardId, counter := f.counter, purse := f.purse, alternate := alternate, kind := kind, second := f.second
                station := f.station, gate := f.gate, source := .peer, passage := passage, conflict := conflict, joined := joined }
            (s.screen.sightingOf f.cardId = none → t.screen.sightingOf f.cardId = some (peer none false s.screen.nextJoin)) ∧
            ∀ x, s.screen.sightingOf f.cardId = some x →
              (x.counter < f.counter →
                t.screen.sightingOf f.cardId = some (peer (x.alternate.filter fun a => f.counter ≤ a) x.conflict x.joined)) ∧
              (x.counter = f.counter → x.purse ≠ f.purse → t.screen.sightingOf f.cardId = some { x with conflict := true }) ∧
              (x.counter = f.counter → x.purse = f.purse →
                t.screen.sightingOf f.cardId = some
                  (if (f.station = s.port.station ∧ f.gate = s.port.gateNo) ∨ passage = .none ∨ (x.source = .local ∧ x.passage = .pending)
                   then x else { x with passage := passage })) ∧
              (f.counter < x.counter → t.screen.sightingOf f.cardId = some x))

/-! Aisle sensing. -/

/-- A raw level change starts the debounce timer of its input when the level comes to differ from the filtered state, leaves a running one
alone, and stops it when the level returns; nothing else changes. The filtered change of a limit or of the drive-fault line: the filtered
state takes the raw level (FreeOpenBegins and ResumeEndsFreeOpen state the emergency input's). OPEN_LIMIT ends an opening in OPEN with the
head's deadline set, CLOSED_LIMIT ends a driving close in CLOSED, the limits that prove the barrier end the check, and in every other
barrier state they change nothing; the drive-fault line raises BARRIER unless it is raised already or a barrier hold is in force. The port's
turn at the end of the event is the model's choice (log 6). -/
def Obligations.InputsSettle : Prop :=
  (∀ (s : State) (i : Input) (high : Bool),
     exec (.rawInputChange i high) s = .next
       { s with
         aisle := { s.aisle with
           pins := s.aisle.pins.set i high
           filters := s.aisle.filters.set i
             { s.aisle.filters.get i with
               debounce :=
                 if (high == (s.aisle.params.get i).activeHigh) = (s.aisle.filters.get i).filtered then none
                 else some ((s.aisle.filters.get i).debounce.getD (s.aisle.params.get i).debounceMs) } }
         port := s.port.pump }) ∧
  (∀ (s : State) (i : Input), (s.aisle.filters.get i).debounce.isSome →
     let level := s.aisle.pins.get i == (s.aisle.params.get i).activeHigh
     let aisle : Aisle := { s.aisle with filters := s.aisle.filters.set i { filtered := level, debounce := none } }
     (i = .openLimit → ∀ sd, s.gate.barrier = .opening → s.gate.owner = some sd → s.gate.travel.isSome → level = true →
       s.gate.queues.get sd ≠ [] →
       ∃ t, exec (.debounceExpiry (.single i)) s = .next t ∧ t.aisle = aisle ∧ t.gate.barrier = .opened ∧ t.gate.owner = some sd ∧
         t.gate.travel = none ∧ t.gate.drive = .open_ ∧
         (∀ x xs, s.gate.queues.get sd = x :: xs → x.deadline = none →
           t.gate.queues.get sd = { x with deadline := some (s.gate.windowS * 1000) } :: xs)) ∧
     (i = .closedLimit → s.gate.barrier = .closing → s.gate.phase = some .driving → s.gate.travel.isSome → level = true →
       s.gate.queues.a = [] → s.gate.queues.b = [] →
       ∃ t, exec (.debounceExpiry (.single i)) s = .next t ∧ t.aisle = aisle ∧ t.gate.barrier = .closed ∧ t.gate.phase = none ∧
         t.gate.owner = none ∧ t.gate.travel = none ∧ t.gate.drive = .close) ∧
     (i = .openLimit ∨ i = .closedLimit → s.gate.barrier ∉ [BarrierState.opening, .closing, .checking] →
       exec (.debounceExpiry (.single i)) s = .next { s with aisle := aisle, port := s.port.pump }) ∧
     (i = .closedLimit → s.gate.barrier = .checking → s.gate.travel.isSome → level = true → s.aisle.active .openLimit = false →
       s.gate.queues.a = [] → s.gate.queues.b = [] →
       ∃ t, exec (.debounceExpiry (.single i)) s = .next t ∧ t.aisle = aisle ∧ t.gate.barrier = .closed ∧ t.gate.unverified = false ∧
         t.gate.owner = none ∧ t.gate.travel = none) ∧
     (i = .openLimit → s.gate.barrier = .checking → s.gate.travel.isSome ∨ s.gate.seen.zm = true → level = false →
       s.aisle.active .closedLimit = true → s.gate.queues.a = [] → s.gate.queues.b = [] →
       ∃ t, exec (.debounceExpiry (.single i)) s = .next t ∧ t.aisle = aisle ∧ t.gate.barrier = .closed ∧ t.gate.unverified = false ∧
         t.gate.owner = none ∧ t.gate.travel = none) ∧
     (i = .driveFault → level = false ∨ s.sup.barrierHold = true ∨ s.sup.conds.barrier ≠ .clear →
       exec (.debounceExpiry (.single i)) s = .next { s with aisle := aisle, port := s.port.pump }) ∧
     (i = .driveFault → level = true → s.sup.barrierHold = false → s.sup.conds.barrier = .clear →
       ∃ t, exec (.debounceExpiry (.single i)) s = .next t ∧ t.aisle = aisle ∧
         t.sup.conds.barrier = .raised s.tariff.clock ∧
         (s.sup.barrierResponse = .failClosed → t.gate.failClosedOrder = true) ∧
         (s.sup.barrierResponse = .failFree → t.gate.reasons.fault = true)))

/-- The zones whose debounce timers expire at one instant are one pattern change: their filtered states take the raw levels, the tracker
steps once on the new pattern, and the passage controller takes its reports in order and then the pattern; an occupied zone starts its
stuck timer of 60 s, unless a barrier hold is in force, and a clear zone stops it and is FREE. The expiry of a zone's stuck timer marks
the zone STUCK, sets the tracker to EMPTY with resync SET, and raises SENSOR unless a barrier hold is in force or it is raised already.
The pattern that the passage controller takes: ZM becoming occupied in DRIVING is an obstruction, which stops the travel and makes the
phase YIELDING with the drive OPEN; in CHECKING the drive stops with its travel timer while ZM is occupied, and becomes CLOSE with the
timer started when ZM clears; in FAULT_CLOSED the drive follows ZM without a timer; the close-delay timer starts when its condition comes
to hold, runs on while it holds and stops when it ceases, the condition being the owner's queue empty and all zones clear in OPEN, ZM
clear in YIELDING, and all zones clear in CLEARING; a wait of 0 ends at once in the hand-over or in DRIVING; and elsewhere the pattern is
recorded alone. Two points are the model's choice (DESIGN CHOICE): that an expiry named while the zone's stuck timer does not run changes
nothing but the port's turn (log 3), and that turn at the end of the event (log 6). That a DRIVING which finds its limit ACTIVE is CLOSED
at once is an inference (DEDUCED, log 12). -/
def Obligations.ZonesSettle : Prop :=
  (∀ (s : State) (za zm zb : Bool),
     let f := s.aisle.filters
     let runs (z : Zone) (flag : Bool) : Bool := flag && (f.get z.input).debounce.isSome
     let level (z : Zone) : Bool := s.aisle.pins.get z.input == (s.aisle.params.get z.input).activeHigh
     let filter (z : Zone) (flag : Bool) : Filter :=
       if runs z flag then { filtered := level z, debounce := none } else f.get z.input
     let stuck (z : Zone) (flag : Bool) : StuckMonitor :=
       if runs z flag then
         if level z then
           { timer := if s.sup.barrierHold then none else some 60000, stuck := (s.aisle.stuck.get z).stuck }
         else { timer := none, stuck := false }
       else s.aisle.stuck.get z
     let pattern : PerZone Bool :=
       { za := (filter .za za).filtered, zm := (filter .zm zm).filtered, zb := (filter .zb zb).filtered }
     let aisle : Aisle :=
       { pins := s.aisle.pins, params := s.aisle.params
         filters := { f with za := filter .za za, zm := filter .zm zm, zb := filter .zb zb }
         stuck := { za := stuck .za za, zm := stuck .zm zm, zb := stuck .zb zb }
         tracker := (s.aisle.tracker.patternChange pattern).1 }
     (runs .za za || runs .zm zm || runs .zb zb) = true →
     (s.aisle.stuck.za.stuck = false → s.aisle.stuck.zm.stuck = false → s.aisle.stuck.zb.stuck = false →
       exec (.debounceExpiry (.zones za zm zb)) s = .next
         (((s.aisle.tracker.patternChange pattern).2.foldl State.takeReport { s with aisle := aisle }).handPattern pattern).pump) ∧
     ∃ t, exec (.debounceExpiry (.zones za zm zb)) s = .next t ∧ t.aisle = aisle ∧ t.gate.seen = pattern ∧
       (s.aisle.stuck.za.stuck = true ∨ s.aisle.stuck.zm.stuck = true ∨ s.aisle.stuck.zb.stuck = true → t.aisle.anyStuck = false →
         t.sup.conds.sensor = .clear)) ∧
  (∀ (s : State) (z : Zone),
     ((s.aisle.stuck.get z).timer = none → exec (.stuckTimerExpiry z) s = .next { s with port := s.port.pump }) ∧
     ((s.aisle.stuck.get z).timer.isSome → ∃ t, exec (.stuckTimerExpiry z) s = .next t ∧
       t.aisle = { s.aisle with
         stuck := s.aisle.stuck.set z { timer := none, stuck := true }
         tracker :=
           { state := .empty, resync := true, behind := false, byFollower := false, pattern := s.aisle.tracker.pattern } } ∧
       (s.sup.barrierHold = true ∨ s.sup.conds.sensor ≠ .clear → t.sup = s.sup ∧ t.gate = s.gate ∧ t.journal = s.journal) ∧
       (s.sup.barrierHold = false → s.sup.conds.sensor = .clear →
         t.sup.conds.sensor = .raised s.tariff.clock ∧
         (s.sup.sensorResponse = .failClosed → t.gate.failClosedOrder = true) ∧
         (s.sup.sensorResponse = .failFree → t.gate.reasons.fault = true) ∧
         (s.sup.sensorResponse = .continue_ → s.sup.conds.barrier = .clear → s.gate.failClosedOrder = false →
           s.gate.reasons.fault = false → t.gate = s.gate)))) ∧
  (∀ (s : State) (p : PerZone Bool),
     let g := { s.gate with seen := p }
     let clear := !p.za && !p.zm && !p.zb
     let t := s.handPattern p
     let driven : Prop :=
       (s.aisle.active .closedLimit = false →
         t = { s with gate := { g with
           barrier := .closing, phase := some .driving, owner := none, drive := .close, closeDelay := none, travel := some g.travelMs } }) ∧
       (s.aisle.active .closedLimit = true → g.queues.a = [] → g.queues.b = [] →
         t = { s with gate := { g with
           barrier := .closed, phase := none, owner := none, drive := .close, closeDelay := none, travel := none } }) ∧
       (s.aisle.active .closedLimit = true → ∀ sd, g.queues.get sd ≠ [] →
         g.queues.get sd.other = [] ∨ g.directions[g.pointer]? = some sd →
         t.gate.owner = some sd ∧ t.gate.barrier = if s.aisle.active .openLimit then .opened else .opening)
     let delayed (holds : Bool) (wait : Nat) (ends : Prop) : Prop :=
       (holds = false → t = { s with gate := { g with closeDelay := none } }) ∧
       (holds = true → g.closeDelay.isSome → t = { s with gate := g }) ∧
       (holds = true → g.closeDelay = none → wait ≠ 0 → t = { s with gate := { g with closeDelay := some wait } }) ∧
       (holds = true → g.closeDelay = none → wait = 0 → ends)
     (g.barrier = .closing → g.phase = some .driving → p.zm = true → s.gate.seen.zm = false →
       t = { s with gate := { g with
         phase := some (.yielding false), owner := none, drive := .open_, closeDelay := none, travel := none } }) ∧
     (g.barrier = .closing → g.phase = some .driving → p.zm = false ∨ s.gate.seen.zm = true →
       t = { s with gate := { g with closeDelay := none } }) ∧
     (∀ zeroWait, g.barrier = .closing → g.phase = some (.yielding zeroWait) →
       delayed (!p.zm) (if zeroWait then 0 else g.closeDelayMs) driven) ∧
     (g.barrier = .closing → g.phase = some .clearing → delayed clear g.closeDelayMs driven) ∧
     (∀ sd, g.barrier = .opened → g.owner = some sd → g.phase = none →
       delayed ((g.queues.get sd).isEmpty && clear) g.closeDelayMs
         ((g.queues.get sd.other = [] → driven) ∧
          ∀ x xs, g.queues.get sd.other = x :: xs →
            t = { s with gate := { g with
              owner := some sd.other, closeDelay := none
              queues := g.queues.set sd.other ({ x with deadline := some (x.deadline.getD (g.windowS * 1000)) } :: xs) } })) ∧
     (g.barrier = .checking →
       (p.zm = s.gate.seen.zm → t = { s with gate := { g with closeDelay := none } }) ∧
       (p.zm = true → s.gate.seen.zm = false → t = { s with gate := { g with drive := .stop, closeDelay := none, travel := none } }) ∧
       (p.zm = false → s.gate.seen.zm = true →
         t = { s with gate := { g with drive := .close, closeDelay := none, travel := some g.travelMs } })) ∧
     (g.barrier = .faultClosed →
       t = { s with gate := { g with drive := if p.zm then .stop else .close, closeDelay := none } }) ∧
     (g.barrier ∈ [BarrierState.closed, .opening, .freeOpen, .faultOpen, .held] →
       t = { s with gate := { g with closeDelay := none } }))

/-- The tracker's transitions for a person who entered at side A, test by test, and the same with ZA and ZB, A and B exchanged for side B. -/
def Obligations.TrackerFollowsPerson : Prop :=
  (∀ (t : Tracker) (p : PerZone Bool), t.resync = true →
    t.patternChange p = ({ t with pattern := p, resync := p.za || p.zm || p.zb }, [])) ∧
  (∀ (t : Tracker) (p : PerZone Bool), t.resync = false →
    let old := t.pattern
    let stay : Tracker := { t with pattern := p }
    let gone (resync : Bool) : Tracker := { state := .empty, resync := resync, behind := false, byFollower := false, pattern := p }
    let noted : Tracker := if p.za = true ∧ old.za = false then { stay with behind := true } else stay
    (t.state = .empty →
      t.patternChange p =
        if p.za = true ∧ p.zb = true then (gone true, [.counterflow none])
        else if p.za then ({ stay with state := if p.zm then .a2 else .a1 }, [])
        else if p.zb then ({ stay with state := if p.zm then .b2 else .b1 }, [])
        else (stay, [])) ∧
    (t.state = .a1 →
      t.patternChange p =
        if p.zb = true ∧ old.zb = false ∧ t.byFollower = false then (gone true, [.counterflow (some .a)])
        else if p.zm then ({ stay with state := .a2 }, [])
        else if p.za = false then (gone p.zb, [.backout .a])
        else (stay, [])) ∧
    (t.state = .a2 →
      t.patternChange p =
        if p.zb = true ∧ old.zb = false then
          if p.za = true ∧ t.behind = false ∧ t.byFollower = false then (gone true, [.counterflow (some .a)])
          else ({ noted with state := .a3 }, [])
        else if p.zm = false ∧ p.zb = false ∧ p.za = true then ({ stay with state := .a1 }, [])
        else if p.za = false ∧ p.zm = false ∧ p.zb = false then (gone false, [.backout .a])
        else (noted, [])) ∧
    (t.state = .a3 →
      let passed : Tracker := { stay with byFollower := t.behind, behind := false }
      let report := Report.passage .a t.byFollower t.behind
      t.patternChange p =
        if old.zb = true ∧ p.zb = false then
          if p.zm = true ∧ (old.zm = true ∨ t.behind = false) then ({ stay with state := .a2 }, [])
          else if p.zm then ({ passed with state := .a2 }, [report])
          else if p.za then ({ passed with state := .a1 }, [report])
          else if t.behind then (gone false, [report, .backout .a])
          else (gone false, [report])
        else (noted, []))) ∧
  ∀ (t : Tracker) (p : PerZone Bool),
    let zones (q : PerZone Bool) : PerZone Bool := { za := q.zb, zm := q.zm, zb := q.za }
    let exchanged (t : Tracker) : Tracker :=
      { t with
        pattern := zones t.pattern
        state := match t.state with
          | .empty => .empty | .a1 => .b1 | .a2 => .b2 | .a3 => .b3 | .b1 => .a1 | .b2 => .a2 | .b3 => .a3 }
    let report : Report → Report
      | .passage sd follower behind => .passage sd.other follower behind
      | .backout sd => .backout sd.other
      | .counterflow sd => .counterflow (sd.map Side.other)
    (exchanged t).patternChange (zones p) = (exchanged (t.patternChange p).1, (t.patternChange p).2.map report)

/-- A PASSAGE report, row by row of its table. Consumption of the owner's head: the report of the card's passage, a STAFF_PASSAGE record
where the origin is STAFF, and the PASSAGE notice, with FORCED in OPENING. WRONG_WAY at the owner's other side, INTRUSION and TAILGATE at
an owner without authorisations, INTRUSION in a barrier that lets nobody through, the free passage count in free-open, and nothing in
HELD. A counterflow is WRONG_WAY in OPENING and OPEN only, and a backout changes nothing. An alarm starts the alarm timers of its sides,
appends its record and queues its notice, with kind, direction and owner. Three things here are the model's choice and no rule of the spec
(DESIGN CHOICE): at a consumption the order report, record, notice, which R133 leaves open (log 25); the report for a head of origin STAFF
too, whose card may have a LOCAL PENDING sighting although R133 says that STAFF authorisations have none (log 37); and a TAILGATE that
carries the owner from before the close (log 34). -/
def Obligations.PassageTaken : Prop :=
  ∀ (s : State) (sd : Side) (follower behind : Bool),
    let t := s.takeReport (.passage sd follower behind)
    let bare := fun (x : Auth) => { x with deadline := none }
    let alarm (u : State) (kind : AlarmKind) (direction owner side : Option Side) (a b : Bool) : State :=
      let timed : State := { u with
        gate := { u.gate with
          alarms := { a := if a then some 5000 else u.gate.alarms.a, b := if b then some 5000 else u.gate.alarms.b } } }
      (timed.appendUnreserved side (.alarm kind direction owner a b)).notify (.alarm kind direction owner a b)
    let here (u : State) (kind : AlarmKind) : State :=
      alarm u kind (some sd) s.gate.owner (some sd) (decide (sd = .a)) (decide (sd = .b))
    (s.gate.barrier ∈ [BarrierState.opening, .opened] → s.gate.owner = some sd → ∀ x xs, s.gate.queues.get sd = x :: xs →
      (let reported := match x.card with
         | some card => s.reportPassage card .taken
         | none => s
       let recorded := if x.origin = .staff then reported.appendUnreserved (some sd) (.staffPassage x.card sd) else reported
       let noticed := recorded.notify (.passage (.consumed sd follower behind) sd x.origin x.card x.seq)
       let ended := if s.gate.barrier = .opening then here noticed .forced else noticed
       t = { ended with gate := t.gate }) ∧
      t.gate = { s.gate with queues := t.gate.queues, alarms := t.gate.alarms } ∧
      (t.gate.queues.get sd).map bare = xs.map bare ∧ t.gate.queues.get sd.other = s.gate.queues.get sd.other ∧
      (s.gate.barrier = .opened → t.gate.alarms = s.gate.alarms ∧ ∀ y ys, xs = y :: ys →
        (t.gate.queues.get sd).head? = some { y with deadline := some (y.deadline.getD (s.gate.windowS * 1000)) }) ∧
      (s.gate.barrier = .opening → t.gate.alarms = s.gate.alarms.set sd (some 5000)) ∧
      (∀ card y, x.card = some card → s.screen.sightingOf card = some y → y.source = .local → y.passage = .pending →
        t.screen.sightingOf card = some { y with passage := .taken })) ∧
    (s.gate.barrier ∈ [BarrierState.opening, .opened] → s.gate.owner = some sd → s.gate.queues.get sd = [] →
      (follower = true →
        t = { here s .tailgate with
          gate := { s.gate with
            alarms := s.gate.alarms.set sd (some 5000), barrier := .closing, phase := some (.yielding true), owner := none
            travel := none, closeDelay := none, drive := .open_ } }) ∧
      (follower = false → t = here s .intrusion)) ∧
    (s.gate.barrier ∈ [BarrierState.opening, .opened] → s.gate.owner = some sd.other → t = here s .wrongWay) ∧
    (s.gate.barrier ∈ [BarrierState.closed, .closing, .checking, .faultClosed] → t = here s .intrusion) ∧
    (s.gate.barrier ∈ [BarrierState.freeOpen, .faultOpen] →
      t = { s with gate := { s.gate with freeCount := min 65535 (s.gate.freeCount + 1) } }) ∧
    (s.gate.barrier = .held → t = s) ∧
    s.takeReport (.backout sd) = s ∧
    (s.gate.barrier ∈ [BarrierState.opening, .opened] →
      s.takeReport (.counterflow (some sd)) =
        alarm s .wrongWay (some sd) s.gate.owner (some sd.other) (decide (sd = .b)) (decide (sd = .a)) ∧
      s.takeReport (.counterflow none) = alarm s .wrongWay none s.gate.owner none true true) ∧
    (s.gate.barrier ∉ [BarrierState.opening, .opened] → ∀ start, s.takeReport (.counterflow start) = s)

/-! The barrier and its orders. -/

/-- Entering free-open, by the emergency input or by FREE_OPEN, from an empty set of reasons: both queues are cancelled, HELD reservations
withdrawn, the owner becomes none and the timers stop, the barrier enters FREE_OPEN (FAULT_OPEN while unverified) with its drive OPEN, the
count is 0, the free period begins, a FREE_OPEN_START record and notice carry the numbers cancelled and withdrawn, and every transaction
before its commit point ends. A reason that joins a set that is not empty only joins it. That a request is answered in the event of its
arrival, and the port's turn at its end, are the model's (log 5, log 6). -/
def Obligations.FreeOpenBegins : Prop :=
  ∀ (s : State) (tag : Byte),
    let r := s.gate.reasons
    let cancelled := s.gate.queues.a.length + s.gate.queues.b.length
    let withdrawn := (if s.gate.reservations.a = .held then 1 else 0) + (if s.gate.reservations.b = .held then 1 else 0)
    let told (t : State) (reason : FreeReason) : Prop :=
      s.journal.records <+: t.journal.records ∧
      (s.journal.records.length + s.journal.reserved + cancelled + 1 < 2048 →
        ∃ q ∈ t.journal.records.drop s.journal.records.length,
          q.second = s.tariff.clock ∧ q.side = none ∧ q.body = .freeOpenStart reason cancelled withdrawn) ∧
      (s.port.masked.passage = false → s.port.notices.length + 2 * cancelled + 2 < 32 →
        Notice.freeOpenStart cancelled withdrawn ∈ t.port.notices ∨
          t.port.line = some (.notice (.freeOpenStart cancelled withdrawn)))
    let opened (t : State) : Prop :=
      t.gate.queues = { a := [], b := [] } ∧ (∀ sd, t.gate.reservations.get sd ≠ .held) ∧ t.gate.owner = none ∧ t.gate.travel = none ∧
        t.gate.closeDelay = none ∧ t.gate.phase = none ∧ t.gate.drive = .open_ ∧ t.gate.freeCount = 0 ∧
        t.gate.barrier = (if s.gate.unverified then .faultOpen else .freeOpen) ∧
        (∀ now, s.tariff.clock = some now → t.tariff.period = some { start := now / 60, stop := none, origin := .local }) ∧
        (∀ sd x, (t.ctx sd).tx = some x → (t.ctx sd).state ∉ [CtxState.claiming, .reading, .screening, .pricing])
    (s.port.ready →
      (r.emergency = true ∨ r.command = true ∨ r.fault = true →
        exec (.freeOpen tag) s = .next ({ s with gate := { s.gate with reasons := { r with command := true } } }.reply 0x05 tag .ok [0])) ∧
      (r = { emergency := false, command := false, fault := false } →
        ∃ t, exec (.freeOpen tag) s = .next t ∧ opened t ∧ told t .command ∧
          t.gate.reasons = { emergency := false, command := true, fault := false } ∧
          t.port.made { kind := 0x85, tag := tag, result := .ok, fields := [0] })) ∧
    let level := s.aisle.pins.emergency == s.aisle.params.emergency.activeHigh
    (s.aisle.filters.emergency.debounce.isSome → level = true →
      (r = { emergency := false, command := false, fault := false } →
        ∃ t, exec (.debounceExpiry (.single .emergency)) s = .next t ∧ opened t ∧ told t .emergency ∧
          t.gate.reasons = { emergency := true, command := false, fault := false } ∧ t.aisle.filters.emergency.filtered = true) ∧
      (r.command = true ∨ r.fault = true →
        ∃ t, exec (.debounceExpiry (.single .emergency)) s = .next t ∧
          t.gate = { s.gate with reasons := { r with emergency := true } } ∧ t.journal = s.journal ∧ t.ctxs = s.ctxs)) ∧
    (s.aisle.filters.emergency.debounce.isSome → level = false → r.emergency = true → s.gate.autoResume = false →
      ∃ t, exec (.debounceExpiry (.single .emergency)) s = .next t ∧
        t.gate = { s.gate with reasons := { r with emergency := false, command := true } } ∧ t.journal = s.journal ∧ t.ctxs = s.ctxs)

/-- RESUME: NOT_NOW while the emergency input is ACTIVE or COMMAND is not among the reasons; else COMMAND leaves. With auto-resume ENABLED
the end of the emergency input lets EMERGENCY leave. Where the set is then empty free-open ends: a FREE_OPEN_END record and notice carry
the free passage count, the free period gets its end, and the barrier enters HELD, FAULT_CLOSED, CHECKING from FAULT_OPEN, or CLOSING in
CLEARING with the close delay running while all zones are clear; a close delay of 0 with all zones clear leads to DRIVING at once. The
owner is none where the barrier enters CLOSING, and where it is CLOSED with both queues empty, as they are in free-open (R149, R153). That
a DRIVING which finds its limit ACTIVE is CLOSED at once is an inference (DEDUCED, log 12). That a request is answered in the event of its
arrival, and the port's turn at its end, are the model's (log 5, log 6). -/
def Obligations.ResumeEndsFreeOpen : Prop :=
  ∀ (s : State) (tag : Byte),
    let g := s.gate
    let ended (t : State) : Prop :=
      t.gate.reasons = { emergency := false, command := false, fault := false } ∧
      (s.journal.reserved < 2048 - s.journal.records.length →
        s.journal.records ++
          [{ seq := s.journal.next, second := s.tariff.clock, side := none, body := .freeOpenEnd g.freeCount }]
          <+: t.journal.records) ∧
      (s.port.masked.passage = false → s.port.notices.length + 2 < 32 →
        Notice.freeOpenEnd g.freeCount ∈ t.port.notices ∨ t.port.line = some (.notice (.freeOpenEnd g.freeCount))) ∧
      (∀ p now, s.tariff.period = some p → p.origin = .local → p.stop = none → s.tariff.clock = some now →
        t.tariff.period = some { p with stop := some (max p.start (now / 60)) }) ∧
      (g.holdOrder = true → t.gate.barrier = .held ∧ t.gate.drive = g.drive) ∧
      (g.holdOrder = false → g.failClosedOrder = true → t.gate.barrier = .faultClosed ∧
        t.gate.drive = if g.seen.zm then .stop else .close) ∧
      (g.holdOrder = false → g.failClosedOrder = false → g.barrier = .faultOpen → s.aisle.active .closedLimit = false →
        t.gate.barrier = .checking ∧ t.gate.travel = (if g.seen.zm then none else some g.travelMs) ∧
          t.gate.drive = if g.seen.zm then .stop else .close) ∧
      (g.holdOrder = false → g.failClosedOrder = false → g.barrier = .freeOpen →
        let occupied := g.seen.za || g.seen.zm || g.seen.zb
        (g.closeDelayMs ≠ 0 ∨ occupied = true →
          t.gate.barrier = .closing ∧ t.gate.phase = some .clearing ∧ t.gate.owner = none ∧ t.gate.drive = .open_ ∧
            t.gate.closeDelay = if occupied then none else some g.closeDelayMs) ∧
        (g.closeDelayMs = 0 → occupied = false → s.aisle.active .closedLimit = false →
          t.gate.barrier = .closing ∧ t.gate.phase = some .driving ∧ t.gate.owner = none ∧ t.gate.drive = .close ∧
            t.gate.closeDelay = none ∧ t.gate.travel = some g.travelMs) ∧
        (g.closeDelayMs = 0 → occupied = false → s.aisle.active .closedLimit = true → g.queues = { a := [], b := [] } →
          t.gate.barrier = .closed ∧ t.gate.phase = none ∧ t.gate.owner = none ∧ t.gate.drive = .close ∧
            t.gate.closeDelay = none ∧ t.gate.travel = none))
    (s.port.ready →
      (s.aisle.active .emergency = true ∨ g.reasons.command = false → exec (.resume tag) s = .next (s.reply 0x05 tag .notNow [])) ∧
      (s.aisle.active .emergency = false → g.reasons.command = true →
        (g.reasons.emergency = true ∨ g.reasons.fault = true →
          exec (.resume tag) s = .next
            ({ s with gate := { g with reasons := { g.reasons with command := false } } }.reply 0x05 tag .ok [0])) ∧
        (g.reasons.emergency = false → g.reasons.fault = false →
          ∃ t, exec (.resume tag) s = .next t ∧ ended t ∧
            t.port.made { kind := 0x85, tag := tag, result := .ok, fields := [0] }))) ∧
    (s.aisle.filters.emergency.debounce.isSome → (s.aisle.pins.emergency == s.aisle.params.emergency.activeHigh) = false →
      g.reasons.emergency = true → g.autoResume = true →
      (g.reasons.command = true ∨ g.reasons.fault = true →
        exec (.debounceExpiry (.single .emergency)) s = .next
          { s with
            aisle := { s.aisle with filters := { s.aisle.filters with emergency := { filtered := false, debounce := none } } }
            gate := { g with reasons := { g.reasons with emergency := false } }, port := s.port.pump }) ∧
      (g.reasons.command = false → g.reasons.fault = false →
        ∃ t, exec (.debounceExpiry (.single .emergency)) s = .next t ∧ ended t ∧ t.aisle.filters.emergency.filtered = false))

/-- GRANT_A, GRANT_B and CANCEL_GRANTS: a manual authorisation is refused with NOT_NOW during free-open, a hold or a fail-closed order,
and with SIDE_FULL when held plus reserved is 4; else it joins the end of its side's queue, and a barrier that is CLOSED opens for it.
CANCEL_GRANTS empties both queues and leaves the reservations, and answers with the number cancelled. That NOT_NOW comes before SIDE_FULL is
the model's choice (DESIGN CHOICE, log 43). That a request is answered in the event of its arrival, and the port's turn at its end, are the
model's (log 5, log 6). -/
def Obligations.GrantsByHand : Prop :=
  ∀ (s : State) (tag : Byte), s.port.ready →
    (∀ sd,
      let grant : Instr := match sd with | .a => .grantA tag | .b => .grantB tag
      let manual : Auth := { origin := .manual, card := none, seq := none, granted := s.tariff.clock, deadline := none }
      let bare := fun (x : Auth) => { x with deadline := none }
      (s.inFreeOpen = true ∨ s.gate.holdOrder = true ∨ s.gate.failClosedOrder = true →
        exec grant s = .next (s.reply 0x05 tag .notNow [])) ∧
      (s.inFreeOpen = false → s.gate.holdOrder = false → s.gate.failClosedOrder = false →
        (4 ≤ (s.gate.queues.get sd).length + (if s.gate.reservations.get sd = .absent then 0 else 1) →
          exec grant s = .next (s.reply 0x05 tag .sideFull [])) ∧
        ((s.gate.queues.get sd).length + (if s.gate.reservations.get sd = .absent then 0 else 1) < 4 →
          ∃ t, exec grant s = .next t ∧ t.port.made { kind := 0x85, tag := tag, result := .ok, fields := [0] } ∧
            (t.gate.queues.get sd).map bare = (s.gate.queues.get sd).map bare ++ [manual] ∧
            (t.gate.queues.get sd.other).map bare = (s.gate.queues.get sd.other).map bare ∧
            t.gate.reservations = s.gate.reservations ∧ t.journal = s.journal ∧ t.screen = s.screen ∧ t.ctxs = s.ctxs ∧
            t.readers = s.readers ∧
            (s.gate.barrier = .closed → s.gate.queues.get sd.other = [] → t.gate.owner = some sd ∧
              t.gate.barrier = if s.aisle.active .openLimit then .opened else .opening)))) ∧
    ∃ t, exec (.cancelGrants tag) s = .next t ∧ t.gate.queues = { a := [], b := [] } ∧ t.gate.reservations = s.gate.reservations ∧
      t.port.made
        { kind := 0x85, tag := tag, result := .ok, fields := beBytes 1 (s.gate.queues.a.length + s.gate.queues.b.length) } ∧
      (s.gate.barrier = .opened → s.gate.phase = none → s.gate.closeDelayMs ≠ 0 →
        t.gate.barrier = .opened ∧ t.gate.owner = s.gate.owner) ∧
      (s.gate.queues.a = [] → s.gate.queues.b = [] → t.journal = s.journal ∧ t.screen = s.screen)

/-- The timers of the barrier. A travel that runs out stops the drive, sets barrier unverified and reports BARRIER; the passage deadline
ends the owner's head as EXPIRED and the next head takes its own; the close delay hands an OPEN barrier over to a side that waits, and
else drives it closed. A timer that does not run has no expiry. The contested choice in CLOSED is decided by the direction table: the
entry at the pointer names the owner and the pointer advances, from 15 back to 0; an uncontested choice leaves the pointer. A check that
succeeds with authorisations waiting shows both. These points are the model's choice and no rule of the spec (DESIGN CHOICE): the port's
turn at the end of the event (log 6); that an expiry named while its timer does not run changes nothing but that turn, and that one named
while it runs acts whatever the timer has left (log 3); and, where the passage deadline ends the head, that the sighting of a STAFF head's
card becomes NOT_TAKEN as R112 says of every authorisation with a card ID (log 37), the report to screening coming before the record and
the notice (log 25). -/
def Obligations.BarrierTimers : Prop :=
  (∀ s : State,
     (s.gate.travel = none → exec .travelTimerExpiry s = .next { s with port := s.port.pump }) ∧
     (s.gate.travel.isSome → s.sup.conds.barrier ≠ .clear →
       exec .travelTimerExpiry s = .next
         { s with gate := { s.gate with unverified := true, drive := .stop, travel := none }, port := s.port.pump }) ∧
     (s.gate.travel.isSome → s.sup.conds.barrier = .clear →
       ∃ t, exec .travelTimerExpiry s = .next t ∧ t.sup.conds.barrier = .raised s.tariff.clock ∧
         (s.sup.barrierResponse = .failClosed → s.inFreeOpen = false → s.gate.holdOrder = false → s.gate.failClosedOrder = false →
           s.sup.conds.sensor = .clear →
           t.gate.barrier = .faultClosed ∧ t.gate.failClosedOrder = true ∧ t.gate.unverified = true ∧ t.gate.travel = none ∧
             t.gate.owner = none ∧ t.gate.queues = { a := [], b := [] } ∧
             t.gate.drive = if s.gate.seen.zm then .stop else .close)) ∧
     (∀ sd x xs, s.gate.barrier = .opened → s.gate.owner = some sd → s.gate.queues.get sd = x :: xs → x.deadline.isSome →
       ∃ t, exec .passageDeadlineExpiry s = .next t ∧
         (t.gate.queues.get sd =
           match xs with
           | [] => []
           | y :: ys => { y with deadline := some (y.deadline.getD (s.gate.windowS * 1000)) } :: ys) ∧
         (s.free > s.journal.reserved →
           s.journal.records ++
             [{ seq := s.journal.next, second := s.tariff.clock, side := some sd
                body := .passageNotTaken x.origin x.card x.seq x.granted .expired }] <+: t.journal.records) ∧
         (∀ card y, x.card = some card → s.screen.sightingOf card = some y → y.source = .local → y.passage = .pending →
           t.screen.sightingOf card = some { y with passage := .notTaken }) ∧
         (xs ≠ [] → t.gate.barrier = .opened ∧ t.gate.owner = some sd ∧ t.gate.closeDelay = none) ∧
         (xs = [] → s.gate.phase = none → s.gate.closeDelayMs ≠ 0 → t.gate.barrier = .opened ∧ t.gate.owner = some sd ∧
           t.gate.closeDelay =
             if s.gate.seen.za || s.gate.seen.zm || s.gate.seen.zb then none
             else some (s.gate.closeDelay.getD s.gate.closeDelayMs))) ∧
     (s.gate.closeDelay = none → exec .closeDelayExpiry s = .next { s with port := s.port.pump }) ∧
     (∀ sd, s.gate.closeDelay.isSome → s.gate.barrier = .opened → s.gate.owner = some sd →
       (∀ y ys, s.gate.queues.get sd.other = y :: ys →
         exec .closeDelayExpiry s = .next
           { s with
             gate := { s.gate with
               owner := some sd.other, closeDelay := none
               queues := s.gate.queues.set sd.other
                 ({ y with deadline := some (y.deadline.getD (s.gate.windowS * 1000)) } :: ys) }
             port := s.port.pump }) ∧
       (s.gate.queues.get sd.other = [] → s.aisle.active .closedLimit = false →
         exec .closeDelayExpiry s = .next
           { s with
             gate := { s.gate with
               barrier := .closing, phase := some .driving, owner := none, drive := .close, closeDelay := none
               travel := some s.gate.travelMs }
             port := s.port.pump })) ∧
     (s.gate.closeDelay.isSome → s.gate.barrier = .closing → s.aisle.active .closedLimit = false →
       exec .closeDelayExpiry s = .next
         { s with
           gate := { s.gate with
             phase := some .driving, owner := none, drive := .close, closeDelay := none, travel := some s.gate.travelMs }
           port := s.port.pump })) ∧
  (∀ s : State, (s.aisle.filters.get .closedLimit).debounce.isSome → s.gate.barrier = .checking → s.gate.travel.isSome →
     (s.aisle.pins.closedLimit == s.aisle.params.closedLimit.activeHigh) = true → s.aisle.active .openLimit = false →
     ∃ t, exec (.debounceExpiry (.single .closedLimit)) s = .next t ∧ t.gate.queues = s.gate.queues ∧ t.gate.unverified = false ∧
       (s.gate.queues.a ≠ [] → s.gate.queues.b ≠ [] → s.gate.pointer < 16 →
         t.gate.owner = some (s.gate.directions.getD s.gate.pointer .a) ∧ t.gate.barrier = .opening ∧ t.gate.drive = .open_ ∧
           t.gate.travel = some s.gate.travelMs ∧ t.gate.pointer = if s.gate.pointer = 15 then 0 else s.gate.pointer + 1) ∧
       (∀ sd, s.gate.queues.get sd ≠ [] → s.gate.queues.get sd.other = [] →
         t.gate.owner = some sd ∧ t.gate.barrier = .opening ∧ t.gate.drive = .open_ ∧ t.gate.travel = some s.gate.travelMs ∧
           t.gate.pointer = s.gate.pointer) ∧
       (s.gate.queues.a = [] → s.gate.queues.b = [] →
         t.gate.owner = none ∧ t.gate.barrier = .closed ∧ t.gate.drive = .close ∧ t.gate.travel = none ∧
           t.gate.pointer = s.gate.pointer))

/-! Settings and supervision. -/

/-- SET_AISLE_MODE, SET_DIRECTION_TABLE, SET_IDENTITY and SET_LAMP_PRIORITY, judged in their orders. A new mode changes the cadence of the
sides as well; a new direction table sets the pointer to 0; the identity changes only in aisle mode CLOSED with both contexts at rest.
Each lamp shows the active condition that stands highest in the order, and IDLE is always active; its output is that of the condition
shown: green for FREE and GO, red for OUT_OF_SERVICE and REFUSED, red flashing for ALARM, amber for RETAP, white for IDLE. That a value that
SET_IDENTITY cannot take is BAD_VALUE where NOT_NOW would hold too is the model's choice (DESIGN CHOICE, log 43). That a request is answered
in the event of its arrival, and the port's turn at its end, are the model's (log 5, log 6). -/
def Obligations.SettingRequests : Prop :=
  (∀ (s : State) (tag : Byte), s.port.ready →
     (∀ code, 3 < code → exec (.setAisleMode tag code) s = .next (s.reply 0x03 tag .badValue [])) ∧
     (∀ code mode, [AisleMode.closed, .entryOnly, .exitOnly, .bidirectional][code]? = some mode →
       let side (r : Reader) : Reader :=
         if mode = .closed then if r.cadence = .idle then { r with cadence := .quiet } else r
         else if s.gate.mode = .closed ∧ r.cadence = .quiet then
           { r with cadence := .active, idle := if r.link = .searching ∨ r.link = .bound then some 30000 else r.idle }
         else r
       exec (.setAisleMode tag code) s = .next (
         if mode = s.gate.mode then s.reply 0x03 tag .ok []
         else
           { s with gate := { s.gate with mode := mode }, readers := { a := side s.readers.a, b := side s.readers.b } }.reply
             0x03 tag .ok [])) ∧
     (∀ entries, entries.length = 16 →
       exec (.setDirectionTable tag entries) s = .next (
         if entries.all (fun n => n = 1 || n = 2) then
           { s with gate := { s.gate with directions := entries.map fun n => if n = 1 then Side.a else .b, pointer := 0 } }.reply
             0x0A tag .ok []
         else s.reply 0x0A tag .badValue [])) ∧
     (∀ station gate,
       exec (.setIdentity tag station gate) s = .next (
         if 255 < station ∨ 255 < gate then s.reply 0x02 tag .badValue []
         else if s.gate.mode = .closed ∧ ∀ sd ∈ [Side.a, .b], (s.ctx sd).state ∈ [CtxState.polling, .holdoff, .outOfService] then
           { s with port := { s.port with station := station, gateNo := gate } }.reply 0x02 tag .ok []
         else s.reply 0x02 tag .notNow [])) ∧
     ∀ order, order.length = 7 →
       exec (.setLampPriority tag order) s = .next (
         if ∀ n ∈ ([1, 2, 3, 4, 5, 6, 7] : List Nat), n ∈ order then
           { s with
             sup := { s.sup with
               lampOrder := order.map fun n =>
                 [LampCond.free, .outOfService, .alarm, .refused, .retap, .go, .idle].getD (n - 1) .idle } }.reply 0x09 tag .ok []
         else s.reply 0x09 tag .badValue [])) ∧
  (∀ (s : State) (sd : Side), s.lampLaw →
     s.lampActive sd .free = s.inFreeOpen ∧ s.lampActive sd .outOfService = (!s.inService sd) ∧
     s.lampActive sd .alarm = (s.gate.alarms.get sd).isSome ∧ s.lampActive sd .refused = (s.sup.refusal.get sd).isSome ∧
     (s.lampActive sd .retap = true ↔ ∃ d ∈ s.doubt.entries, d.side = sd) ∧
     (s.lampActive sd .go = true ↔ s.gate.owner = some sd ∧ s.gate.queues.get sd ≠ []) ∧
     s.lampActive sd (s.lampShown sd) = true ∧ s.lampShown sd ∈ s.sup.lampOrder ∧ s.lampActive sd .idle = true ∧
     (∀ c, s.lampActive sd c = true → s.sup.lampOrder.idxOf (s.lampShown sd) ≤ s.sup.lampOrder.idxOf c) ∧
     s.lamp sd = (match s.lampShown sd with
       | .free | .go => .green
       | .outOfService | .refused => .red
       | .alarm => .redFlashing
       | .retap => .amber
       | .idle => .white) ∧
     (s.sup.lampOrder = [.free, .outOfService, .alarm, .refused, .retap, .go, .idle] →
       (s.inFreeOpen = true → s.lamp sd = .green) ∧
       (s.inFreeOpen = false → s.inService sd = false → s.lamp sd = .red) ∧
       (s.inFreeOpen = false → s.inService sd = true → (s.gate.alarms.get sd).isSome → s.lamp sd = .redFlashing) ∧
       (s.inFreeOpen = false → s.inService sd = true → s.gate.alarms.get sd = none → (s.sup.refusal.get sd).isSome → s.lamp sd = .red) ∧
       (s.inFreeOpen = false → s.inService sd = true → s.gate.alarms.get sd = none → s.sup.refusal.get sd = none →
         let go := s.gate.owner = some sd ∧ s.gate.queues.get sd ≠ []
         ((∃ d ∈ s.doubt.entries, d.side = sd) → s.lamp sd = .amber) ∧
         ((∀ d ∈ s.doubt.entries, d.side ≠ sd) → go → s.lamp sd = .green) ∧
         ((∀ d ∈ s.doubt.entries, d.side ≠ sd) → ¬go → s.lamp sd = .white))))

/-- SET_PARAMETER by its table: a timing is clamped to the nearer end of its range and answered CLAMPED with the value taken, a value that
is no flag, an unknown name and an unknown input are BAD_VALUE, and a new active level is read at once. That a request is answered in the
event of its arrival, and the port's turn at its end, are the model's (log 5, log 6). -/
def Obligations.ParameterRequests : Prop :=
  ∀ (s : State) (tag : Byte) (input v : Nat), s.port.ready →
    let taken (lo hi : Nat) : Nat := if v < lo then lo else if hi < v then hi else v
    let result (lo hi : Nat) : Result := if lo ≤ v ∧ v ≤ hi then .ok else .clamped
    let timing (t : State) (lo hi : Nat) : State := t.reply 0x04 tag (result lo hi) (beBytes 4 (taken lo hi))
    let bad := s.reply 0x04 tag .badValue []
    let inputs := [Input.za, .zm, .zb, .openLimit, .closedLimit, .driveFault, .emergency]
    exec (.setParameter tag 1 input v) s = .next (timing { s with doubt := { s.doubt with periodS := taken 5 60 } } 5 60) ∧
    exec (.setParameter tag 2 input v) s = .next (timing { s with screen := { s.screen with holdHours := taken 1 72 } } 1 72) ∧
    exec (.setParameter tag 3 input v) s = .next (timing { s with screen := { s.screen with horizonMin := taken 1 120 } } 1 120) ∧
    exec (.setParameter tag 4 input v) s = .next (
      if 1 < v then bad
      else { s with screen := { s.screen with capture := decide (v = 1) } }.reply 0x04 tag .ok (beBytes 4 v)) ∧
    (input = 0 ∨ 7 < input → ∀ param ∈ [5, 6], exec (.setParameter tag param input v) s = .next bad) ∧
    (∀ i, input ≠ 0 → inputs[input - 1]? = some i →
      exec (.setParameter tag 5 input v) s = .next
        (timing { s with
          aisle := { s.aisle with
            params := s.aisle.params.set i { s.aisle.params.get i with debounceMs := taken 1 50 } } } 1 50) ∧
      exec (.setParameter tag 6 input v) s = .next (
        if 1 < v then bad
        else
          { s with
            aisle := { s.aisle with
              params := s.aisle.params.set i { s.aisle.params.get i with activeHigh := decide (v = 1) }
              filters := s.aisle.filters.set i
                { s.aisle.filters.get i with
                  debounce :=
                    if (s.aisle.pins.get i == decide (v = 1)) = (s.aisle.filters.get i).filtered then none
                    else some ((s.aisle.filters.get i).debounce.getD (s.aisle.params.get i).debounceMs) } } }.reply
            0x04 tag .ok (beBytes 4 v))) ∧
    exec (.setParameter tag 7 input v) s = .next (timing { s with gate := { s.gate with travelMs := taken 300 3000 } } 300 3000) ∧
    exec (.setParameter tag 8 input v) s = .next (timing { s with gate := { s.gate with closeDelayMs := taken 0 5000 } } 0 5000) ∧
    exec (.setParameter tag 9 input v) s = .next (timing { s with gate := { s.gate with windowS := taken 3 30 } } 3 30) ∧
    exec (.setParameter tag 10 input v) s = .next (
      if 1 < v then bad else { s with gate := { s.gate with autoResume := decide (v = 1) } }.reply 0x04 tag .ok (beBytes 4 v)) ∧
    ∀ param, param = 0 ∨ 10 < param → exec (.setParameter tag param input v) s = .next bad

/-- SET_FAULT_RESPONSE and CLEAR_FAULT, judged in their orders. An accepted response is stored and the orders follow it at once; a cleared
BARRIER lifts the orders that no other class supports, and the barrier leaves FAULT_CLOSED for CHECKING. That a request is answered in the
event of its arrival, and the port's turn at its end, are the model's (log 5, log 6). -/
def Obligations.FaultRequests : Prop :=
  ∀ (s : State) (tag : Byte), s.port.ready →
    (∀ cls response, (cls, response) ∉ [(1, 1), (1, 2), (2, 1), (2, 2), (2, 3)] →
      exec (.setFaultResponse tag cls response) s = .next (s.reply 0x08 tag .badValue [])) ∧
    (∀ cls response, (cls, response) ∈ [(1, 1), (1, 2), (2, 1), (2, 2), (2, 3)] →
      let r := if response = 1 then FaultResponse.failClosed else if response = 2 then .failFree else .continue_
      ∃ t, exec (.setFaultResponse tag cls response) s = .next t ∧
        t.port.made { kind := 0x88, tag := tag, result := .ok, fields := [] } ∧
        t.sup.barrierResponse = (if cls = 1 then r else s.sup.barrierResponse) ∧
        t.sup.sensorResponse = (if cls = 2 then r else s.sup.sensorResponse) ∧
        t.sup.conds.barrier = s.sup.conds.barrier ∧ t.sup.conds.sensor = s.sup.conds.sensor ∧
        t.gate.failClosedOrder = t.wants .failClosed ∧ t.gate.reasons.fault = t.wants .failFree ∧
        (t.wants .failClosed = s.gate.failClosedOrder → t.wants .failFree = s.gate.reasons.fault →
          t.gate = s.gate ∧ t.journal = s.journal ∧ t.ctxs = s.ctxs)) ∧
    (∀ cls, cls ≠ 1 → exec (.clearFault tag cls) s = .next (s.reply 0x07 tag .badValue [])) ∧
    (s.sup.conds.barrier = .clear ∨ s.aisle.active .driveFault = true →
      exec (.clearFault tag 1) s = .next (s.reply 0x07 tag .notNow [])) ∧
    (s.sup.conds.barrier ≠ .clear → s.aisle.active .driveFault = false →
      ∃ t, exec (.clearFault tag 1) s = .next t ∧ t.sup.conds.barrier = .clear ∧
        t.port.made { kind := 0x87, tag := tag, result := .ok, fields := [] } ∧
        t.gate.failClosedOrder = t.wants .failClosed ∧ t.gate.reasons.fault = t.wants .failFree ∧
        (s.gate.barrier = .faultClosed → t.wants .failClosed = false → s.gate.failClosedOrder = true → s.gate.reasons.fault = false →
          t.wants .failFree = false → s.aisle.active .closedLimit = false →
          t.gate.barrier = .checking ∧ t.gate.unverified = s.gate.unverified ∧
            t.gate.travel = if s.gate.seen.zm then none else some s.gate.travelMs))

/-- SERVICE_HOLD at the barrier. Entering cancels both queues, withdraws the HELD reservations, ends the transactions before their commit
point, stops the stuck timers and holds the barrier with its drive frozen unless free-open governs; leaving restarts the stuck timers of
the occupied zones, raises BARRIER if the drive-fault line is ACTIVE, and lets the barrier take its next state. That a request is answered
in the event of its arrival, and the port's turn at its end, are the model's (log 5, log 6). -/
def Obligations.BarrierHold : Prop :=
  ∀ (s : State) (tag : Byte), s.port.ready →
    (s.sup.barrierHold = true → exec (.serviceHoldBarrierEnter tag) s = .next (s.reply 0x06 tag .notNow [])) ∧
    (s.sup.barrierHold = false → exec (.serviceHoldBarrierLeave tag) s = .next (s.reply 0x06 tag .notNow [])) ∧
    (s.sup.barrierHold = false →
      ∃ t, exec (.serviceHoldBarrierEnter tag) s = .next t ∧ t.sup.barrierHold = true ∧ t.gate.holdOrder = true ∧
        t.port.made { kind := 0x86, tag := tag, result := .ok, fields := [] } ∧ t.gate.queues = { a := [], b := [] } ∧
        (∀ sd, t.gate.reservations.get sd ≠ .held ∧ t.inService sd = false) ∧
        (∀ sd x, (t.ctx sd).tx = some x → (t.ctx sd).state ∉ [CtxState.claiming, .reading, .screening, .pricing]) ∧
        t.aisle =
          { s.aisle with
            stuck :=
              { za := { s.aisle.stuck.za with timer := none }, zm := { s.aisle.stuck.zm with timer := none }
                zb := { s.aisle.stuck.zb with timer := none } } } ∧
        (s.inFreeOpen = false → t.gate.barrier = .held ∧ t.gate.drive = s.gate.drive ∧ t.gate.owner = none ∧ t.gate.travel = none ∧
          t.gate.closeDelay = none) ∧
        (s.inFreeOpen = true → t.gate.barrier = s.gate.barrier ∧ t.gate.drive = s.gate.drive)) ∧
    (s.sup.barrierHold = true →
      ∃ t, exec (.serviceHoldBarrierLeave tag) s = .next t ∧ t.sup.barrierHold = false ∧ t.gate.holdOrder = false ∧
        t.port.made { kind := 0x86, tag := tag, result := .ok, fields := [] } ∧
        (∀ z, (t.aisle.stuck.get z).timer = (if s.aisle.active z.input then some 60000 else none) ∧
          (t.aisle.stuck.get z).stuck = (s.aisle.stuck.get z).stuck) ∧
        (s.aisle.active .driveFault = true → t.sup.conds.barrier ≠ .clear) ∧
        (s.aisle.active .driveFault = false → t.sup = { s.sup with barrierHold := false } ∧ t.journal = s.journal ∧
          (s.gate.barrier = .held → s.gate.failClosedOrder = true → t.gate.barrier = .faultClosed) ∧
          (s.gate.barrier = .held → s.gate.failClosedOrder = false → s.aisle.active .closedLimit = false →
            t.gate.barrier = .checking ∧ t.gate.travel = if s.gate.seen.zm then none else some s.gate.travelMs) ∧
          (s.gate.barrier ≠ .held → t.gate = { s.gate with holdOrder := false })))

/-- SERVICE_HOLD at a reader. Entering takes the side out of service: a link that is SETTLING or SEARCHING enters DOWN at once, and a
transaction before its commit point ends; leaving returns a side that is DOWN with carrier to SEARCHING, or to SETTLING where a settle is
needed. A side that is not DOWN, such as one still BOUND, keeps its link and its transaction at the leaving, and a side without carrier
stays DOWN; either forgets the settle that the hold asked for. The other side, the barrier and the queues are untouched. A side that was
SETTLING when the hold began needs a settle, and so does one that loses its carrier under the hold, and none that loses it without a hold;
that one whose carrier is absent when the hold begins needs a settle too is an inference (DEDUCED, log 14). That a hail window which is
open at the beginning closes unjudged is the model's choice (DESIGN CHOICE, log 44). That a request is answered in the event of its
arrival, and the port's turn at its end, are the model's (log 5, log 6). -/
def Obligations.ReaderHold : Prop :=
  (∀ (s : State) (sd : Side), (s.reader sd).carrier = true →
    ∃ t, exec (.carrierLoss sd) s = .next t ∧ (t.reader sd).needsSettle = s.sup.readerHold.get sd ∧ (t.reader sd).link = .down ∧
      t.sup.readerHold = s.sup.readerHold) ∧
  ∀ (s : State) (tag : Byte) (sd : Side), s.port.ready →
    (s.sup.readerHold.get sd = true → exec (.serviceHoldReaderEnter tag sd) s = .next (s.reply 0x06 tag .notNow [])) ∧
    (s.sup.readerHold.get sd = false → exec (.serviceHoldReaderLeave tag sd) s = .next (s.reply 0x06 tag .notNow [])) ∧
    (s.sup.readerHold.get sd = false →
      ∃ t, exec (.serviceHoldReaderEnter tag sd) s = .next t ∧ t.sup.readerHold = s.sup.readerHold.set sd true ∧
        t.port.made { kind := 0x86, tag := tag, result := .ok, fields := [] } ∧ t.inService sd = false ∧
        (t.reader sd).needsSettle = (decide ((s.reader sd).link = .settling) || !(s.reader sd).carrier) ∧
        ((s.reader sd).link ∈ [LinkState.settling, .searching] →
          (t.reader sd).link = .down ∧ (t.reader sd).summons = none ∧ (t.reader sd).settle = none ∧ (t.reader sd).window = none ∧
          ((s.ctx sd).state ∈ [CtxState.polling, .holdoff] → (t.ctx sd).state = .outOfService)) ∧
        (∀ x, (t.ctx sd).tx = some x → (t.ctx sd).state ∉ [CtxState.claiming, .reading, .screening, .pricing]) ∧
        ((s.reader sd).link = .bound → (s.ctx sd).state = .writing → t.ctx sd = s.ctx sd ∧ (t.reader sd).link = .bound) ∧
        t.reader sd.other = s.reader sd.other ∧ t.ctx sd.other = s.ctx sd.other ∧ t.gate.barrier = s.gate.barrier ∧
        t.gate.queues = s.gate.queues ∧ t.aisle = s.aisle) ∧
    (s.sup.readerHold.get sd = true → (s.reader sd).link = .down → (s.reader sd).carrier = true →
      let mode := s.gate.mode
      exec (.serviceHoldReaderLeave tag sd) s = .next
        (({ s with
          sup := { s.sup with readerHold := s.sup.readerHold.set sd false }
          readers := s.readers.set sd
            (if (s.reader sd).needsSettle then { s.reader sd with needsSettle := false, link := .settling, settle := some 50 }
             else
               { s.reader sd with
                 needsSettle := false, link := .searching, settle := none, idle := some 30000
                 cadence := if mode = .closed then .quiet else .active
                 summons := some (if mode = .closed then 500 else 15)
                 window := some { ids := [], garbled := false, timer := 3 }, lastFrame := some .summon })
          ctxs :=
            if (s.reader sd).needsSettle = false ∧ (s.ctx sd).state = .outOfService then
              s.ctxs.set sd { s.ctx sd with state := .polling }
            else s.ctxs } : State).reply 0x06 tag .ok [])) ∧
    (s.sup.readerHold.get sd = true → (s.reader sd).link ≠ .down ∨ (s.reader sd).carrier = false →
      exec (.serviceHoldReaderLeave tag sd) s = .next
        (({ s with
          sup := { s.sup with readerHold := s.sup.readerHold.set sd false }
          readers := s.readers.set sd { s.reader sd with needsSettle := false } } : State).reply 0x06 tag .ok []))

/-! The revenue journal and the host port. -/

/-- JOURNAL_READ returns held records from a starting number, at most 8, and changes nothing; JOURNAL_RELEASE frees the oldest records
through the number given, is CLAMPED past the newest, and refuses a number that lies before the oldest held. The figures of the reply are
those right after the release (the model's choice, log 34), and the number 0 is never held (log 36). That a request is answered in the
event of its arrival, and the port's turn at its end, are the model's (log 5, log 6). -/
def Obligations.JournalRequests : Prop :=
  ∀ (s : State) (tag : Byte) (n : Nat), s.port.ready →
    (∀ count, count = 0 ∨ 8 < count → exec (.journalRead tag n count) s = .next (s.reply 0x1C tag .badValue [])) ∧
    (∀ count, 1 ≤ count → count ≤ 8 → (∀ r ∈ s.journal.records, r.seq ≠ n) →
      exec (.journalRead tag n count) s = .next (s.reply 0x1C tag .badSeq [])) ∧
    (∀ count before r after newest, 1 ≤ count → count ≤ 8 → s.journal.records = before ++ r :: after →
      (∀ q ∈ before, q.seq ≠ n) → r.seq = n → s.journal.records.getLast? = some newest →
      exec (.journalRead tag n count) s = .next (s.reply 0x1C tag .ok
        (beBytes 1 (min count (after.length + 1)) ++ beBytes 4 newest.seq
          ++ ((r :: after).take count).flatMap JournalRecord.bytes))) ∧
    (2147483647 < s.journal.offset n → exec (.journalRelease tag n) s = .next (s.reply 0x1D tag .badSeq [])) ∧
    (∀ before r after, s.journal.numberLaw → s.journal.records.length ≤ 2048 → s.journal.records = before ++ r :: after → r.seq = n →
      ∃ t, exec (.journalRelease tag n) s = .next t ∧ after <+: t.journal.records ∧
        t.journal.reserved = s.journal.reserved ∧ (s.sup.conds.journal = .clear → t.journal.records = after) ∧
        (after.length < 2031 → t.sup.conds.journal = .clear) ∧
        (s.free ≤ 256 → after.length < 1792 → s.sup.conds.journal = .clear → t.journal.armed = true) ∧
        t.port.made
          { kind := 0x9D, tag := tag, result := .ok
            fields := beBytes 2 (before.length + 1) ++ [if after = [] then 0 else 1]
              ++ beBytes 4 ((after.head?.map (·.seq)).getD 0) ++ beBytes 2 (2048 - after.length) }) ∧
    (n ≠ 0 → s.journal.offset n ≤ 2147483647 → s.journal.records.length ≤ s.journal.offset n → s.sup.conds.journal = .clear →
      ∃ t, exec (.journalRelease tag n) s = .next t ∧ t.journal.records = [] ∧ t.journal.next = s.journal.next ∧
        t.journal.reserved = s.journal.reserved ∧
        t.port.made
          { kind := 0x9D, tag := tag, result := .clamped
            fields := beBytes 2 s.journal.records.length ++ [0] ++ beBytes 4 0 ++ beBytes 2 2048 })

/-- The receiver. In HUNTING every byte but 0x5C is ignored; in RECEIVING the bytes are collected with the gap timer restarted, and a
missing stop bit, a length above 600, a wrong CRC or a gap discards the frame and raises a rejection. The byte that completes a frame with
the right CRC, whatever its kind and payload, is the arrival of the request that the judgment of the frame gives, with the receiver in
HUNTING: the command that stands for that request, UNKNOWN_KIND and BAD_LENGTH among them; a GATE_COMMAND or SERVICE_HOLD with a code that
no command stands for is BAD_VALUE. A kind outside 0x01 to 0x1F is unknown, and one of these with a length that it does not allow is a bad
length. That a request is answered in the event of its arrival is the model's (log 5). Two points are the model's choice (DESIGN CHOICE):
that an expiry of the gap timer named while it does not run changes nothing but the port's turn (log 3), and that turn at the end of the
event (log 6). -/
def Obligations.PortReceives : Prop :=
  ∀ (s : State) (b : Byte),
    let discarded : Port :=
      { s.port with receiver := .hunting, gap := none, rejection := if 255 ≤ s.port.rejection then 255 else s.port.rejection + 1 }
    (∀ stop, s.port.receiver = .hunting → b ≠ 0x5C#8 ∨ stop = false →
      exec (.rxByte b stop) s = .next { s with port := s.port.pump }) ∧
    (s.port.receiver = .hunting →
      exec (.rxByte 0x5C#8 true) s = .next { s with port := ({ s.port with receiver := .receiving [], gap := some 5 } : Port).pump }) ∧
    (∀ got, s.port.receiver = .receiving got →
      exec (.rxByte b false) s = .next { s with port := discarded.pump } ∧
      (got.length = 1 → 600 < fieldAt 0 2 (got ++ [b]) → exec (.rxByte b true) s = .next { s with port := discarded.pump }) ∧
      (got.length + 1 ≠ 2 ∨ fieldAt 0 2 (got ++ [b]) ≤ 600 → got.length + 1 < 2 ∨ got.length + 1 ≠ fieldAt 0 2 (got ++ [b]) + 6 →
        exec (.rxByte b true) s = .next
          { s with port := ({ s.port with receiver := .receiving (got ++ [b]), gap := some 5 } : Port).pump }) ∧
      (2 < got.length → got.length + 1 = fieldAt 0 2 got + 6 →
        (crc16 ((got ++ [b]).take (fieldAt 0 2 got + 4))).toNat ≠ fieldAt (fieldAt 0 2 got + 4) 2 (got ++ [b]) →
        exec (.rxByte b true) s = .next { s with port := discarded.pump }) ∧
      (2 < got.length → got.length + 1 = fieldAt 0 2 got + 6 →
        (crc16 ((got ++ [b]).take (fieldAt 0 2 got + 4))).toNat = fieldAt (fieldAt 0 2 got + 4) 2 (got ++ [b]) →
        ∀ kind tag, got[2]? = some kind → got[3]? = some tag →
          let payload := (got.drop 4).take (fieldAt 0 2 got)
          let request := judgeFrame kind payload
          let arrived : State := { s with port := { s.port with receiver := .hunting, gap := none } }
          exec (.rxByte b true) s = .next (arrived.request tag request) ∧
          (∀ c replyKind, commandRequest c = some (replyKind, tag, request) → exec (.rxByte b true) s = exec c arrived) ∧
          (kind.toNat = 0 ∨ 31 < kind.toNat → exec (.rxByte b true) s = exec (.unknownKind tag kind) arrived) ∧
          (1 ≤ kind.toNat → kind.toNat ≤ 31 → lengthAllowed kind.toNat payload.length = false →
            exec (.rxByte b true) s = exec (.badLength tag kind) arrived) ∧
          (s.port.ready → ∀ code, request = .gateCommand code → code = 0 ∨ 5 < code →
            exec (.rxByte b true) s = .next (arrived.reply 0x05 tag .badValue [])) ∧
          (s.port.ready → ∀ target action, request = .serviceHold target action →
            target = 0 ∨ 3 < target ∨ action = 0 ∨ 2 < action →
            exec (.rxByte b true) s = .next (arrived.reply 0x06 tag .badValue [])))) ∧
    (s.port.gap.isSome → exec .gapTimerExpiry s = .next { s with port := discarded.pump }) ∧
    (s.port.gap = none → exec .gapTimerExpiry s = .next { s with port := s.port.pump })

/-- The queues of the port, for every request: one that arrives behind a held head waits, and so does one whose head has no room for its
reply; a fifth one is answered BUSY at once while fewer than 7 replies wait and not at all otherwise. As a frame leaves and no head can be
carried out, the transmitter sends the first reply, else FRAME_REJECTED, else the first notice, with NOTICE_OVERFLOW joining where notices
have been discarded; and the OK of RESTART is followed by a warm start. A notice that a block hands to the port joins the queue where its
class is not masked and the queue holds fewer than 32, and is else discarded and counted; a masked stream class leaves nothing, a masked
condition class its pending flag and one more in its withheld count. While a RESTART is under way no request is answered and no BUSY is made
(DEDUCED, log 31). FRAME_SENT with no frame on the line changes nothing but the port's turn (log 3). The port's turn at the end of the event
is the model's choice (log 6). -/
def Obligations.PortQueues : Prop :=
  (∀ s : State,
    (∀ c kind tag r, commandRequest c = some (kind, tag, r) →
      let waits := s.port.headTaken = true ∨ s.port.restarting = true ∨ (s.port.line.isSome ∧ 8 ≤ s.port.outgoing.length)
      (s.port.requests.length < 4 → waits →
        exec c s = .next
          { s with
            port := ({ s.port with requests := s.port.requests ++ [{ tag := tag, request := r.judged }] } : Port).pump }) ∧
      (4 ≤ s.port.requests.length → s.port.headTaken = true → s.port.outgoing.length < 7 → s.port.restarting = false →
        exec c s = .next
          { s with
            port := ({ s.port with
              outgoing := s.port.outgoing ++
                [{ kind := kind, tag := tag, result := .busy, fields := match r with | .unknownKind k => [k] | _ => [] }] } :
              Port).pump }) ∧
      (4 ≤ s.port.requests.length → waits → 7 ≤ s.port.outgoing.length ∨ s.port.restarting = true →
        exec c s = .next { s with port := s.port.pump })) ∧
    (s.port.line = none → exec .frameSent s = .next { s with port := s.port.pump }) ∧
    (∀ f, s.port.line = some f → f.isRestart = false → s.port.requests = [] ∨ s.port.headTaken = true →
      (∀ r rest, s.port.outgoing = r :: rest →
        exec .frameSent s = .next { s with port := { s.port with line := some (.reply r), outgoing := rest } }) ∧
      (s.port.outgoing = [] → s.port.rejection ≠ 0 →
        exec .frameSent s = .next { s with port := { s.port with line := some (.rejected s.port.rejection), rejection := 0 } }) ∧
      (∀ m rest, s.port.outgoing = [] → s.port.rejection = 0 → s.port.notices = m :: rest →
        exec .frameSent s = .next
          { s with
            port := { s.port with
              line := some (.notice m), discarded := 0
              notices := if s.port.discarded = 0 then rest else rest ++ [.overflow s.port.discarded] } }) ∧
      (s.port.outgoing = [] → s.port.rejection = 0 → s.port.notices = [] →
        exec .frameSent s = .next { s with port := { s.port with line := none } })) ∧
    (∀ tag, s.port.line = some (.reply { kind := 0x9F, tag := tag, result := .ok, fields := [] }) → s.markerValid = true →
      s.doubt.entries.length < 2048 - s.journal.records.length →
      ∃ t, exec .frameSent s = .next t ∧ t.port.requests = [] ∧
        s.journal.records ++
          [{ seq := s.journal.next, second := s.tariff.clock, side := none
             body := .warmStart .restart s.doubt.entries.length (decide (s.screen.build ≠ .idle)) }] <+: t.journal.records)) ∧
  ∀ (s : State) (n : Notice),
    ((∀ c, n.cls = some c → s.port.masked.get c = false) →
      (s.port.notices.length < 32 → s.notify n = { s with port := { s.port with notices := s.port.notices ++ [n] } }) ∧
      (32 ≤ s.port.notices.length →
        s.notify n = { s with
          port := { s.port with discarded := if 65535 ≤ s.port.discarded then 65535 else s.port.discarded + 1 } })) ∧
    (∀ c, n.cls = some c → s.port.masked.get c = true →
      (c ∈ [NoticeClass.tapResult, .passage, .sightingOut] → s.notify n = s) ∧
      (c ∈ [NoticeClass.alarm, .fault, .journalLow, .holdAdded] →
        ∃ t, s.notify n = t ∧
          t = { s with port := { s.port with flagged := t.port.flagged, withheld := t.port.withheld } } ∧ t.port.flagged.get c = true ∧
          t.port.withheld.get c = (if 65535 ≤ s.port.withheld.get c then 65535 else s.port.withheld.get c + 1) ∧
          ∀ d ≠ c, t.port.flagged.get d = s.port.flagged.get d ∧ t.port.withheld.get d = s.port.withheld.get d))

/-- The requests that the port owns: RESTART, UNKNOWN_KIND, BAD_LENGTH, GET_STATUS and SET_NOTICE_MASK. GET_STATUS carries a part of the
status image of the state with the request in the queue. A refused mask list changes nothing; an accepted one sets all seven masks, and
each condition class that becomes UNMASKED with its flag SET queues its summary, with the withheld count and its present state, in the
order ALARM, FAULT, JOURNAL_LOW, HOLD_ADDED, and has flag and count cleared. That a request is answered in the event of its arrival, and
the port's turn at its end, are the model's (log 5, log 6); so is that the image counts the request that reads it (log 8). -/
def Obligations.PortRequestsAnswered : Prop :=
  ∀ (s : State) (tag : Byte), s.port.ready →
    exec (.restart tag) s = .next (s.reply 0x1F tag .ok []) ∧
    (∀ kind, exec (.unknownKind tag kind) s = .next (s.reply 0x7F tag .unknownKind [kind])) ∧
    (∀ kind, exec (.badLength tag kind) s = .next (s.reply kind tag .badLength [])) ∧
    (∀ part,
      let image :=
        ({ s with port := { s.port.pump with requests := [{ tag := tag, request := .getStatus part }] } } : State).image
      let fields := beBytes 1 part ++ beBytes 1 ((image.length + 596) / 597) ++ (image.drop (597 * part)).take 597
      exec (.getStatus tag part) s = .next (s.reply 0x01 tag .ok fields) ∧ fields.length ≤ 599) ∧
    (∀ codes, codes.length = 7 → (∃ n ∈ codes, 1 < n) →
      exec (.setNoticeMask tag codes) s = .next (s.reply 0x1E tag .badValue [])) ∧
    ∀ m1 m2 m3 m4 m5 m6 m7 : Bool,
      let masks : PerClass Bool :=
        { tapResult := m1, passage := m2, sightingOut := m3, alarm := m4, fault := m5, journalLow := m6, holdAdded := m7 }
      let unmasked (c : NoticeClass) : Prop := c.isCondition = true ∧ s.port.masked.get c = true ∧ masks.get c = false
      let summary (c : NoticeClass) (present : SummaryState) : List Notice :=
        if s.port.masked.get c = true ∧ masks.get c = false ∧ s.port.flagged.get c = true then
          [.summary c (s.port.withheld.get c) present]
        else []
      let conds := s.sup.conds
      let summaries :=
        summary .alarm (.alarm s.gate.alarms.a.isSome s.gate.alarms.b.isSome) ++
        summary .fault (.fault ([conds.barrier, conds.sensor, conds.readerA, conds.readerB, conds.clock, conds.journal,
          conds.tariff].map fun c => decide (c ≠ .clear))) ++
        summary .journalLow (.journalLow
          { free := 2048 - s.journal.records.length, reserved := s.journal.reserved, oldest := s.journal.records.head?.map (·.seq)
            newest := s.journal.records.getLast?.map (·.seq) }) ++
        summary .holdAdded (.holdAdded s.screen.holds.length)
      ∃ t, exec (.setNoticeMask tag ([m1, m2, m3, m4, m5, m6, m7].map Bool.toNat)) s = .next t ∧
        t = { s with
          port := ({ summaries.foldl Port.push
              { s.port.pump with masked := masks, flagged := t.port.flagged, withheld := t.port.withheld } with
            outgoing := s.port.pump.outgoing ++ [{ kind := 0x9E, tag := tag, result := .ok, fields := [] }] } : Port).pump } ∧
        ∀ c,
          (unmasked c → t.port.flagged.get c = false ∧ (s.port.flagged.get c = true → t.port.withheld.get c = 0)) ∧
          (¬unmasked c →
            t.port.flagged.get c = s.port.flagged.get c ∧ t.port.withheld.get c = s.port.withheld.get c)

/-! What every step keeps. -/

/-- Every step keeps the order and capacity of the denylist and of its build area, the order, capacity and one entry per card of the hold
list and of the sightings table, the capacity of the update queue and of the in-doubt table, and the capacities of the host port. Every
step keeps the tracker's flags CLEAR in EMPTY, every setting and parameter in its range, the 16 directions with their pointer, the free
passage count in its range, the lamp order a permutation, the waiting requests judged, and the receiver at the beginning of a frame that is
not complete. -/
def Obligations.TablesStayLawful : Prop :=
  (∀ s t : State, s.screen.denylistLaw → s.screen.holdLaw → s.screen.sightingLaw → s.doubt.law → s.port.law → step s = .next t →
     t.screen.denylistLaw ∧ t.screen.holdLaw ∧ t.screen.sightingLaw ∧ t.doubt.law ∧ t.port.law) ∧
  (∀ s t : State, s.aisle.tracker.law → s.aisle.paramLaw → s.gate.rangeLaw → s.lampLaw → s.port.receiverLaw → step s = .next t →
     t.aisle.tracker.law ∧ t.aisle.paramLaw ∧ t.gate.rangeLaw ∧ t.lampLaw ∧ t.port.receiverLaw)

/-- Every step keeps the laws of transactions: each side and its context agree in link state, claim, exchange, timers and reservations; no
two contexts hold the same card at once; the calculator prices what is in PRICING; the in-doubt table holds one entry per card at most; and
the journal's reservation count is the number of the reservations that contexts and in-doubt entries hold, and never exceeds the free
entries. -/
def Obligations.TransactionsStayLawful : Prop :=
  ∀ s t : State, s.tapLaw → step s = .next t → t.tapLaw

/-- "For each side, authorisations held plus reservations never exceed 4": every step keeps the law of the authorisation queues. -/
def Obligations.QueuesStayLawful : Prop :=
  ∀ s t : State, s.gate.queueLaw → step s = .next t → t.gate.queueLaw

/-- Every step keeps the sequence numbers of the journal consecutive, from 1 to 4,294,967,295, with the next number following the newest. -/
def Obligations.JournalStaysNumbered : Prop :=
  ∀ s t : State, s.journal.numberLaw → step s = .next t → t.journal.numberLaw

/-- Every step keeps the barrier under its rules: its state is the one that the free-open reasons and the orders call for, its owner, phase
and timers are those of its state, and its drive command follows the table. -/
def Obligations.BarrierStaysGoverned : Prop :=
  ∀ s t : State, s.barrierLaw → step s = .next t → t.barrierLaw

/-- The state after reset keeps every law. -/
def Obligations.ResetIsLawful : Prop :=
  State.reset.screen.denylistLaw ∧ State.reset.screen.holdLaw ∧ State.reset.screen.sightingLaw ∧ State.reset.doubt.law ∧
    State.reset.port.law ∧ State.reset.gate.queueLaw ∧ State.reset.journal.numberLaw ∧ State.reset.barrierLaw ∧ State.reset.tapLaw ∧
    State.reset.aisle.tracker.law ∧ State.reset.aisle.paramLaw ∧ State.reset.gate.rangeLaw ∧ State.reset.lampLaw ∧
    State.reset.port.receiverLaw ∧ State.reset.pending = [] ∧ State.reset.markerValid = true

/-! Formats. -/

/-- A complete card record and its 30 bytes agree: the bytes of a record in range, read as a slot, decode to the record, whose fields are
those that STORE sends. The layouts of the card link agree: CLAIMED carries the 21 bytes of the static area and the block flag, SLOT and
STORE the slot number and the 30 bytes of the record, and each, read back, gives what it was made from. -/
def Obligations.RecordBytesAgree : Prop :=
  (∀ r : CardRecord, r.inRange = true →
    r.bytes.length = 30 ∧ RawRecord.ofBytes r.bytes = r.toRaw ∧ (RawRecord.ofBytes r.bytes).decode = some r ∧
      ∀ no, storePayload no r = no.code :: r.bytes ∧ readSlot (storePayload no r) = some (no, r.toRaw)) ∧
  (∀ (sd : Side) (ok : Bool) (area : StaticArea) (blocked : Bool),
    (claimedPayload area blocked).length = 22 ∧
      claimedAnswer sd ok (claimedPayload area blocked) = some (.claimed sd ok area blocked)) ∧
  (∀ (sd : Side) (ok turn : Bool) (no : SlotNo) (contents : RawRecord),
    (slotPayload no contents).length = 31 ∧
      slotAnswer sd ok turn (slotPayload no contents) = some (.slot sd ok turn no contents))

/-- A frame and the receiver agree: the bytes of a frame with a payload of at most 600 bytes, taken one by one in HUNTING, end in HUNTING
with the frame's tag and the judgment of its kind and payload. -/
def Obligations.FrameBytesAgree : Prop :=
  ∀ (p : Port) (kind tag : Byte) (payload : List Byte), p.receiver = .hunting → payload.length ≤ 600 →
    (frameBytes kind tag payload).foldl (fun (x : Port × Option (Byte × Request)) b => x.1.takeByte b true) (p, none) =
      ({ p with receiver := .hunting, gap := none }, some (tag, judgeFrame kind payload))

end Statements
end

