-- ==== Sys2Proof/Laws/State.lean ====
section
/-! SUPPORT. The small laws of State: what a read gives after a write of a side, zone, input, class or fault class, and which fields each named update leaves alone. -/

namespace Sys2Proof.Machine

/-! Values by side, zone, input and class. -/

@[simp] theorem PerSide.get_set_self (p : PerSide α) (sd : Side) (x : α) : (p.set sd x).get sd = x := by
  cases sd <;> rfl

theorem PerSide.get_set (p : PerSide α) (sd sd' : Side) (x : α) : (p.set sd x).get sd' = if sd' = sd then x else p.get sd' := by
  cases sd <;> cases sd' <;> rfl

@[simp] theorem PerSide.get_set_other (p : PerSide α) (sd : Side) (x : α) : (p.set sd x).get sd.other = p.get sd.other := by
  cases sd <;> rfl

@[simp] theorem PerSide.get_other_set (p : PerSide α) (sd : Side) (x : α) : (p.set sd.other x).get sd = p.get sd := by
  cases sd <;> rfl

@[simp] theorem PerSide.set_set (p : PerSide α) (sd : Side) (x y : α) : (p.set sd x).set sd y = p.set sd y := by
  cases sd <;> rfl

@[simp] theorem PerSide.set_get (p : PerSide α) (sd : Side) : p.set sd (p.get sd) = p := by
  cases sd <;> rfl

@[simp] theorem PerSide.get_a (p : PerSide α) : p.get .a = p.a := rfl

@[simp] theorem PerSide.get_b (p : PerSide α) : p.get .b = p.b := rfl

@[simp] theorem PerZone.get_set_self (p : PerZone α) (z : Zone) (x : α) : (p.set z x).get z = x := by
  cases z <;> rfl

@[simp] theorem PerInput.get_set_self (p : PerInput α) (i : Input) (x : α) : (p.set i x).get i = x := by
  cases i <;> rfl

theorem PerInput.get_set (p : PerInput α) (i j : Input) (x : α) : (p.set i x).get j = if j = i then x else p.get j := by
  cases i <;> cases j <;> rfl

@[simp] theorem PerClass.get_set_self (p : PerClass α) (c : NoticeClass) (x : α) : (p.set c x).get c = x := by
  cases c <;> rfl

theorem FaultConds.get_set (p : FaultConds) (c d : FaultClass) (x : FaultCond) :
    (p.set c x).get d = if d = c then x else p.get d := by
  cases c <;> cases d <;> rfl

@[simp] theorem FaultConds.get_set_self (p : FaultConds) (c : FaultClass) (x : FaultCond) : (p.set c x).get c = x := by
  cases c <;> rfl

/-! The side of a side. -/

@[simp] theorem side_other_other (sd : Side) : sd.other.other = sd := by
  cases sd <;> rfl

@[simp] theorem side_other_ne (sd : Side) : sd.other ≠ sd := by
  cases sd <;> simp [Side.other]

/-! Readers and contexts. -/

@[simp] theorem State.reader_setReader (s : State) (sd : Side) (r : Reader) : (s.setReader sd r).reader sd = r := by
  simp [State.reader, State.setReader]

@[simp] theorem State.reader_setReader_other (s : State) (sd : Side) (r : Reader) :
    (s.setReader sd r).reader sd.other = s.reader sd.other := by
  simp [State.reader, State.setReader]

@[simp] theorem State.ctx_setReader (s : State) (sd sd' : Side) (r : Reader) : (s.setReader sd r).ctx sd' = s.ctx sd' := rfl

@[simp] theorem State.reader_setCtx (s : State) (sd sd' : Side) (c : Context) : (s.setCtx sd c).reader sd' = s.reader sd' := rfl

@[simp] theorem State.ctx_setCtx (s : State) (sd : Side) (c : Context) : (s.setCtx sd c).ctx sd = c := by
  simp [State.ctx, State.setCtx]

@[simp] theorem State.ctx_setCtx_other (s : State) (sd : Side) (c : Context) : (s.setCtx sd c).ctx sd.other = s.ctx sd.other := by
  simp [State.ctx, State.setCtx]

@[simp] theorem State.ctx_setCtxState (s : State) (sd : Side) (st : CtxState) :
    (s.setCtxState sd st).ctx sd = { s.ctx sd with state := st } := by
  simp [State.setCtxState]

@[simp] theorem State.ctx_mapTx (s : State) (sd : Side) (f : Transaction → Transaction) :
    (s.mapTx sd f).ctx sd = { s.ctx sd with tx := (s.ctx sd).tx.map f } := by
  simp [State.mapTx]

end Sys2Proof.Machine
end

