-- ==== Sys2Proof/Laws/Barrier.lean ====
section
/-! SUPPORT. What the barrier's shared operations do, each once: the close-delay timer, an opening and a driving close. -/

namespace Sys2Proof.Machine

/-! The close-delay timer follows its condition (R138, R139). -/

theorem State.delayEval_stops (s : State) (h : s.gate.delayRuns = false) :
    s.delayEval = { s with gate := { s.gate with closeDelay := none } } := by
  simp [State.delayEval, h]

theorem State.delayEval_runs_on (s : State) (h : s.gate.delayRuns = true) (hc : s.gate.closeDelay.isSome) : s.delayEval = s := by
  obtain ⟨n, hn⟩ := Option.isSome_iff_exists.mp hc
  simp [State.delayEval, h, hn]

theorem State.delayEval_starts (s : State) (h : s.gate.delayRuns = true) (hc : s.gate.closeDelay = none) (hd : s.gate.delayMs ≠ 0) :
    s.delayEval = { s with gate := { s.gate with closeDelay := some s.gate.delayMs } } := by
  simp [State.delayEval, h, hc, hd]

theorem State.delayEval_ends (s : State) (h : s.gate.delayRuns = true) (hc : s.gate.closeDelay = none) (hd : s.gate.delayMs = 0) :
    s.delayEval = s.delayExpires := by
  simp [State.delayEval, h, hc, hd]

/-! An opening and a driving close (R136, R139, R141). -/

/-- An opening is for its side, and is OPEN at once where OPEN_LIMIT is ACTIVE (R136). -/
theorem State.beginOpening_owner (s : State) (sd : Side) :
    (s.beginOpening sd).gate.owner = some sd ∧
      (s.beginOpening sd).gate.barrier = if s.aisle.active .openLimit then .opened else .opening := by
  simp only [State.beginOpening, State.enterBarrier, Gate.enter, State.reachOpen, Gate.headDeadline]
  by_cases h : s.aisle.active .openLimit <;> simp [h]
  repeat' split
  all_goals simp_all

theorem State.beginDriving_timed (s : State) (h : s.aisle.active .closedLimit = false) :
    s.beginDriving =
      { s with gate := { s.gate with
        barrier := .closing, phase := some .driving, owner := none, drive := .close, closeDelay := none
        travel := some s.gate.travelMs } } := by
  simp [State.beginDriving, State.enterBarrier, Gate.enter, driveOf, h]

theorem State.beginDriving_closed (s : State) (h : s.aisle.active .closedLimit = true) (ha : s.gate.queues.a = [])
    (hb : s.gate.queues.b = []) :
    s.beginDriving =
      { s with gate := { s.gate with
        barrier := .closed, phase := none, owner := none, drive := .close, closeDelay := none, travel := none } } := by
  simp [State.beginDriving, State.enterBarrier, Gate.enter, driveOf, h, State.reachClosed, State.selectOwner, ha, hb]

/-- A close that finds its limit ACTIVE with a side waiting opens for the side that waits alone or that the direction table names (R141). -/
theorem State.beginDriving_opens (s : State) (h : s.aisle.active .closedLimit = true) (sd : Side) (hq : s.gate.queues.get sd ≠ [])
    (ho : s.gate.queues.get sd.other = [] ∨ s.gate.directions[s.gate.pointer]? = some sd) :
    s.beginDriving.gate.owner = some sd ∧
      s.beginDriving.gate.barrier = if s.aisle.active .openLimit then .opened else .opening := by
  simp only [State.beginDriving, State.enterBarrier, Gate.enter, driveOf, h, State.reachClosed, State.selectOwner]
  obtain ⟨x, xs, hx⟩ := List.exists_cons_of_ne_nil hq
  cases sd with
  | a =>
    simp only [PerSide.get_a] at hx
    cases hb : s.gate.queues.b with
    | nil => simp only [hx]; exact State.beginOpening_owner _ _
    | cons y ys =>
      have hd : s.gate.directions[s.gate.pointer]? = some .a := by simpa [Side.other, hb] using ho
      simp only [hx, List.getD_eq_getElem?_getD, hd, Option.getD_some]; exact State.beginOpening_owner _ _
  | b =>
    simp only [PerSide.get_b] at hx
    cases hb : s.gate.queues.a with
    | nil => simp only [hx]; exact State.beginOpening_owner _ _
    | cons y ys =>
      have hd : s.gate.directions[s.gate.pointer]? = some .b := by simpa [Side.other, hb] using ho
      simp only [hx, List.getD_eq_getElem?_getD, hd, Option.getD_some]; exact State.beginOpening_owner _ _

end Sys2Proof.Machine
end

