-- ==== Sys2Proof/Laws/Bytes.lean ====
section
/-! SUPPORT. What the byte fields of frames and areas do: the length and the value of the bytes of a number, and a field read from bytes written side by side. -/

namespace Sys2Proof.Machine

@[simp] theorem beBytes_length (n v : Nat) : (beBytes n v).length = n := by
  induction n with
  | zero => rfl
  | succ n ih => simp [beBytes, ih]

theorem foldl_bytes (l : List Byte) (acc : Nat) :
    l.foldl (fun x b => x * 256 + b.toNat) acc = acc * 256 ^ l.length + beNat l := by
  induction l generalizing acc with
  | nil => simp [beNat]
  | cons b l ih =>
    have h : beNat (b :: l) = b.toNat * 256 ^ l.length + beNat l := by
      unfold beNat
      rw [List.foldl_cons, ih]
      simp [beNat]
    rw [List.foldl_cons, ih, h, List.length_cons, pow_succ]
    ring

theorem beNat_cons (b : Byte) (l : List Byte) : beNat (b :: l) = b.toNat * 256 ^ l.length + beNat l := by
  have h := foldl_bytes l (0 * 256 + b.toNat)
  simpa [beNat] using h

/-- The bytes of a number that fits hold the number. -/
theorem beNat_beBytes {n v : Nat} (h : v < 256 ^ n) : beNat (beBytes n v) = v := by
  suffices hm : ∀ n v, beNat (beBytes n v) = v % 256 ^ n by rw [hm, Nat.mod_eq_of_lt h]
  intro n
  induction n with
  | zero => intro v; simp [beBytes, beNat, Nat.mod_one]
  | succ n ih =>
    intro v
    have h : v % 256 ^ (n + 1) = v % 256 ^ n + 256 ^ n * (v / 256 ^ n % 256) := by rw [Nat.pow_succ, Nat.mod_mul]
    rw [beBytes, beNat_cons, beBytes_length, ih, BitVec.toNat_ofNat, h, Nat.add_comm, Nat.mul_comm]

/-- A field that stands first. -/
theorem fieldAt_first {n v : Nat} (rest : List Byte) (h : v < 256 ^ n) : fieldAt 0 n (beBytes n v ++ rest) = v := by
  have e : ((beBytes n v ++ rest).drop 0).take n = beBytes n v := by
    rw [List.drop_zero, List.take_append_of_le_length (by simp), List.take_of_length_le (by simp)]
  rw [fieldAt, e, beNat_beBytes h]

/-- A field behind `k` bytes that stand first. -/
theorem fieldAt_behind {k at_ n : Nat} {l : List Byte} (rest : List Byte) (hl : l.length = k) (ha : k ≤ at_) :
    fieldAt at_ n (l ++ rest) = fieldAt (at_ - k) n rest := by
  unfold fieldAt
  rw [List.drop_append, List.drop_eq_nil_of_le (by omega), List.nil_append, hl]

/-- A field that stands alone. -/
theorem fieldAt_alone {n v : Nat} (h : v < 256 ^ n) : fieldAt 0 n (beBytes n v) = v := by
  simpa using fieldAt_first [] h

/-! The areas of a card (R188). -/

@[simp] theorem staticArea_bytes_length (a : StaticArea) : a.bytes.length = 21 := by
  simp [StaticArea.bytes, StaticArea.protectedBytes]

@[simp] theorem rawRecord_bytes_length (w : RawRecord) : w.bytes.length = 30 := by
  simp [RawRecord.bytes]

@[simp] theorem cardRecord_bytes_length (r : CardRecord) : r.bytes.length = 30 := by
  simp [CardRecord.bytes, CardRecord.protectedBytes, purseBytes]

end Sys2Proof.Machine
end

