-- ==== Sys2Proof/Laws/Keeps.lean ====
section
/-! SUPPORT. What no event of the gate changes: one lemma for each operation that the events are made of. Requests and starts change these fields by rules of their own. -/

namespace Sys2Proof.Machine

/-- The configuration of the screening unit, the denylist and the build are the same. -/
@[simp] abbrev Screen.Same (c d : Screen) : Prop :=
d.holdHours = c.holdHours ∧ d.capture = c.capture ∧ d.denylist = c.denylist ∧ d.listVersion = c.listVersion ∧ d.queue = c.queue ∧
  d.arrivals = c.arrivals ∧ d.applying = c.applying ∧ d.build = c.build ∧ d.buildList = c.buildList ∧ d.buildVersion = c.buildVersion ∧
  d.buildLast = c.buildLast ∧ d.horizonMin = c.horizonMin

/-- The retained parameters of the passage controller and the aisle mode are the same. -/
@[simp] abbrev Gate.Same (g h : Gate) : Prop :=
h.directions = g.directions ∧ h.travelMs = g.travelMs ∧ h.closeDelayMs = g.closeDelayMs ∧ h.windowS = g.windowS ∧ h.autoResume =
  g.autoResume ∧ h.mode = g.mode

/-- All of the host port but its notices and their counts is the same. -/
@[simp] abbrev Port.Same (p q : Port) : Prop :=
q.receiver = p.receiver ∧ q.gap = p.gap ∧ q.requests = p.requests ∧ q.headTaken = p.headTaken ∧ q.outgoing = p.outgoing ∧ q.rejection =
  p.rejection ∧ q.line = p.line ∧ q.masked = p.masked ∧ q.station = p.station ∧ q.gateNo = p.gateNo

/-- Everything that no event of the gate changes is the same: parameters, pins, keys, lists, the aisle mode, and the port but for its notices. -/
@[simp] abbrev Same (s t : State) : Prop :=
t.pending = s.pending ∧ t.markerValid = s.markerValid ∧ t.aisle.pins = s.aisle.pins ∧ t.aisle.params = s.aisle.params ∧ t.doubt.periodS =
  s.doubt.periodS ∧ t.tariff.keys = s.tariff.keys ∧ t.screen.holdHours = s.screen.holdHours ∧ t.screen.capture = s.screen.capture ∧
  t.screen.denylist = s.screen.denylist ∧ t.screen.listVersion = s.screen.listVersion ∧ t.screen.queue = s.screen.queue ∧
  t.screen.arrivals = s.screen.arrivals ∧ t.screen.applying = s.screen.applying ∧ t.screen.build = s.screen.build ∧ t.screen.buildList =
  s.screen.buildList ∧ t.screen.buildVersion = s.screen.buildVersion ∧ t.screen.buildLast = s.screen.buildLast ∧ t.screen.horizonMin =
  s.screen.horizonMin ∧ t.gate.directions = s.gate.directions ∧ t.gate.travelMs = s.gate.travelMs ∧ t.gate.closeDelayMs =
  s.gate.closeDelayMs ∧ t.gate.windowS = s.gate.windowS ∧ t.gate.autoResume = s.gate.autoResume ∧ t.gate.mode = s.gate.mode ∧
  t.sup.barrierResponse = s.sup.barrierResponse ∧ t.sup.sensorResponse = s.sup.sensorResponse ∧ t.sup.lampOrder = s.sup.lampOrder ∧
  t.port.receiver = s.port.receiver ∧ t.port.gap = s.port.gap ∧ t.port.requests = s.port.requests ∧ t.port.headTaken = s.port.headTaken ∧
  t.port.outgoing = s.port.outgoing ∧ t.port.rejection = s.port.rejection ∧ t.port.line = s.port.line ∧ t.port.masked = s.port.masked ∧
  t.port.station = s.port.station ∧ t.port.gateNo = s.port.gateNo

@[simp] theorem Port.notify_same (p : Port) (n : Notice) : Port.Same p (p.notify n) := by
  unfold Port.notify Port.push; (repeat' split) <;> simp

@[simp] theorem Gate.enter_same (g : Gate) (b : BarrierState) (ph : Option ClosingPhase) (o : Option Side) : Gate.Same g (g.enter b ph o)
    := by
  simp [Gate.enter]

@[simp] theorem Gate.headDeadline_same (g : Gate) : Gate.Same g g.headDeadline := by
  unfold Gate.headDeadline; (repeat' split) <;> simp

@[simp] theorem Screen.addHold_same (c : Screen) (card : CardId) (u : Nat) : Screen.Same c (c.addHold card u) := by
  unfold Screen.addHold; (repeat' split) <;> simp

@[simp] theorem Screen.putSighting_same (c : Screen) (x : Sighting) : Screen.Same c (c.putSighting x) := by simp [Screen.putSighting]
@[simp] theorem Screen.joinSighting_same (c : Screen) (x : Sighting) : Screen.Same c (c.joinSighting x) := by simp [Screen.joinSighting]
@[simp] theorem Screen.commit_same (c : Screen) (k : Commit) : Screen.Same c (c.commit k) := by
  unfold Screen.commit; (repeat' split) <;> simp

@[simp] theorem Screen.merge_same (c : Screen) (k : Commit) (a b : Nat) : Screen.Same c (c.merge k a b) := by
  unfold Screen.merge; (repeat' split) <;> simp

@[simp] theorem Screen.pruneHolds_same (c : Screen) (n : Nat) : Screen.Same c (c.pruneHolds n) := by simp [Screen.pruneHolds]
@[simp] theorem Screen.applyHorizon_same (c : Screen) : Screen.Same c c.applyHorizon := by simp [Screen.applyHorizon]
@[simp] theorem Screen.pruneSightings_same (c : Screen) (n : Nat) : Screen.Same c (c.pruneSightings n) := by simp [Screen.pruneSightings]
@[simp] theorem Screen.noteVerdict_same (c : Screen) (card : CardId) (v : Verdict) : Screen.Same c (c.noteVerdict card v) := by
  unfold Screen.noteVerdict; (repeat' split) <;> simp

@[simp] theorem Aisle.settle_same (x : Aisle) (i : Input) : (x.settle i).pins = x.pins ∧ (x.settle i).params = x.params := by
  unfold Aisle.settle; (repeat' split) <;> simp

@[simp] theorem Aisle.stuck_same (x : Aisle) : x.stopStuck.pins = x.pins ∧ x.stopStuck.params = x.params ∧ x.startStuck.pins = x.pins ∧
    x.startStuck.params = x.params := by
  simp [Aisle.stopStuck, Aisle.startStuck]

@[simp] theorem State.setReader_same (s : State) (sd : Side) (r : Reader) : Same s (State.setReader s sd r) := by
  simp [State.setReader]

@[simp] theorem State.setCtx_same (s : State) (sd : Side) (c : Context) : Same s (State.setCtx s sd c) := by
  simp [State.setCtx]

@[simp] theorem State.setCtxState_same (s : State) (sd : Side) (st : CtxState) : Same s (State.setCtxState s sd st) := by
  simp [State.setCtxState]

@[simp] theorem State.mapTx_same (s : State) (sd : Side) (f : Transaction → Transaction) : Same s (State.mapTx s sd f) := by
  simp [State.mapTx]

@[simp] theorem State.setCond_same (s : State) (c : FaultClass) (raised : Bool) : Same s (State.setCond s c raised) := by
  simp [State.setCond]

@[simp] theorem State.notify_same (s : State) (n : Notice) : Same s (State.notify s n) := by
  simp [State.notify]

@[simp] theorem State.appendRaw_same (s : State) (second : Option Nat) (side : Option Side) (body : RecordBody) : Same s (State.appendRaw
    s second side body) := by
  simp [State.appendRaw]

@[simp] theorem State.lowCheck_same (s : State) : Same s (State.lowCheck s) := by
  unfold State.lowCheck; (try dsimp only); (repeat' split) <;> simp

@[simp] theorem State.journalFaultNews_same (s : State) (raised : Bool) : Same s (State.journalFaultNews s raised) := by
  unfold State.journalFaultNews; (repeat' split) <;> simp

@[simp] theorem State.raiseJournal_same (s : State) : Same s (State.raiseJournal s) := by
  unfold State.raiseJournal; (repeat' split) <;> simp

@[simp] theorem State.clearJournal_same (s : State) : Same s (State.clearJournal s) := by
  unfold State.clearJournal; (try dsimp only); (repeat' split) <;> simp

@[simp] theorem State.afterAppend_same (s : State) : Same s (State.afterAppend s) := by
  unfold State.afterAppend; (try dsimp only); (repeat' split) <;> simp

@[simp] theorem State.appendReserved_same (s : State) (second : Option Nat) (side : Option Side) (body : RecordBody) : Same s
    (State.appendReserved s second side body) := by
  simp [State.appendReserved]

@[simp] theorem State.appendUnreserved_same (s : State) (side : Option Side) (body : RecordBody) : Same s (State.appendUnreserved s side
    body) := by
  unfold State.appendUnreserved; (repeat' split) <;> simp

@[simp] theorem State.reserve_same (s : State) : Same s (State.reserve s) := by
  simp [State.reserve]

@[simp] theorem State.unreserve_same (s : State) : Same s (State.unreserve s) := by
  simp [State.unreserve]

@[simp] theorem State.faultNews_same (s : State) (c : FaultClass) (raised : Bool) : Same s (State.faultNews s c raised) := by
  simp [State.faultNews]

@[simp] theorem State.captureHold_same (s : State) (card : CardId) (instant : Nat) (capture : CaptureResult) : Same s (State.captureHold s
    card instant capture) := by
  simp [State.captureHold]

@[simp] theorem State.recordCommit_same (s : State) (k : Commit) : Same s (State.recordCommit s k) := by
  simp [State.recordCommit]

@[simp] theorem State.setAlternate_same (s : State) (card : CardId) (alternate : Nat) : Same s (State.setAlternate s card alternate) := by
  unfold State.setAlternate; (repeat' split) <;> simp

@[simp] theorem State.reportPassage_same (s : State) (card : CardId) (outcome : PassageState) : Same s (State.reportPassage s card
    outcome) := by
  unfold State.reportPassage; (try dsimp only); (repeat' split) <;> simp

@[simp] theorem State.repeatGranted_same (s : State) (card : CardId) (expired : Bool) (counter : Nat) (purse : Int) : Same s
    (State.repeatGranted s card expired counter purse) := by
  unfold State.repeatGranted; (try dsimp only); (repeat' split) <;> simp

@[simp] theorem State.contextBack_same (s : State) (sd : Side) : Same s (State.contextBack s sd) := by
  unfold State.contextBack; (repeat' split) <;> simp

@[simp] theorem State.linkDown_same (s : State) (sd : Side) : Same s (State.linkDown s sd) := by
  unfold State.linkDown; (try dsimp only); (repeat' split) <;> simp

@[simp] theorem State.linkSearching_same (s : State) (sd : Side) : Same s (State.linkSearching s sd) := by
  simp [State.linkSearching]

@[simp] theorem State.partIfBound_same (s : State) (sd : Side) : Same s (State.partIfBound s sd) := by
  unfold State.partIfBound; (repeat' split) <;> simp

@[simp] theorem State.releasePin_same (s : State) : Same s (State.releasePin s) := by
  unfold State.releasePin; (try dsimp only); (repeat' split) <;> simp

@[simp] theorem State.takeWaiting_same (s : State) : Same s (State.takeWaiting s) := by
  unfold State.takeWaiting; (repeat' split) <;> simp

@[simp] theorem State.askPricing_same (s : State) (sd : Side) : Same s (State.askPricing s sd) := by
  simp [State.askPricing]

@[simp] theorem State.withdrawPricing_same (s : State) (sd : Side) : Same s (State.withdrawPricing s sd) := by
  simp [State.withdrawPricing]

@[simp] theorem State.removeEntry_same (s : State) (card : CardId) : Same s (State.removeEntry s card) := by
  simp [State.removeEntry]

@[simp] theorem State.mapEntry_same (s : State) (card : CardId) (f : InDoubt → InDoubt) : Same s (State.mapEntry s card f) := by
  simp [State.mapEntry]

@[simp] theorem State.expireEntry_same (s : State) (e : InDoubt) : Same s (State.expireEntry s e) := by
  simp [State.expireEntry]

@[simp] theorem State.detach_same (s : State) (card : CardId) : Same s (State.detach s card) := by
  unfold State.detach; (repeat' split) <;> simp

@[simp] theorem State.handRefusal_same (s : State) (sd : Side) : Same s (State.handRefusal s sd) := by
  simp [State.handRefusal]

@[simp] theorem State.setReservation_same (s : State) (sd : Side) (r : Reservation) : Same s (State.setReservation s sd r) := by
  simp [State.setReservation]

@[simp] theorem State.releaseTx_same (s : State) (sd : Side) (t : Transaction) : Same s (State.releaseTx s sd t) := by
  unfold State.releaseTx; (try dsimp only); (repeat' split) <;> simp

@[simp] theorem State.closeContext_same (s : State) (sd : Side) : Same s (State.closeContext s sd) := by
  simp [State.closeContext]

@[simp] theorem State.finishTx_same (s : State) (sd : Side) (f : Finish) : Same s (State.finishTx s sd f) := by
  unfold State.finishTx; (try dsimp only); (repeat' split) <;> simp

@[simp] theorem State.abortTx_same (s : State) (sd : Side) (o : TapOutcome) : Same s (State.abortTx s sd o) := by
  unfold State.abortTx; (repeat' split) <;> simp

@[simp] theorem State.abortBoth_same (s : State) (o : TapOutcome) : Same s (State.abortBoth s o) := by
  simp [State.abortBoth]

@[simp] theorem State.setQueue_same (s : State) (sd : Side) (q : List Auth) : Same s (State.setQueue s sd q) := by
  simp [State.setQueue]

@[simp] theorem State.endUnused_same (s : State) (sd : Side) (x : Auth) (reason : NotTakenReason) : Same s (State.endUnused s sd x reason)
    := by
  unfold State.endUnused; (try dsimp only); (repeat' split) <;> simp

@[simp] theorem State.cancelList_same (s : State) (sd : Side) (x : List Auth) : Same s (State.cancelList s sd x) := by
  induction x generalizing s with
  | nil => simp [State.cancelList]
  | cons y ys ih => unfold State.cancelList; simp [ih]

@[simp] theorem State.cancelAll_same (s : State) : Same s (State.cancelAll s) := by
  simp [State.cancelAll]

@[simp] theorem State.withdrawAll_same (s : State) (c : WithdrawCause) : Same s (State.withdrawAll s c) := by
  simp [State.withdrawAll]

@[simp] theorem State.enterBarrier_same (s : State) (b : BarrierState) (phase : Option ClosingPhase) (owner : Option Side) : Same s
    (State.enterBarrier s b phase owner) := by
  simp [State.enterBarrier]

@[simp] theorem State.reachOpen_same (s : State) (sd : Side) : Same s (State.reachOpen s sd) := by
  simp [State.reachOpen]

@[simp] theorem State.beginOpening_same (s : State) (sd : Side) : Same s (State.beginOpening s sd) := by
  unfold State.beginOpening; (try dsimp only); (repeat' split) <;> simp

@[simp] theorem State.selectOwner_same (s : State) : Same s (State.selectOwner s) := by
  unfold State.selectOwner; (try dsimp only); (repeat' split) <;> simp

@[simp] theorem State.reachClosed_same (s : State) : Same s (State.reachClosed s) := by
  simp [State.reachClosed]

@[simp] theorem State.beginDriving_same (s : State) : Same s (State.beginDriving s) := by
  unfold State.beginDriving; (try dsimp only); (repeat' split) <;> simp

@[simp] theorem State.checkSucceeds_same (s : State) : Same s (State.checkSucceeds s) := by
  simp [State.checkSucceeds]

@[simp] theorem State.beginChecking_same (s : State) : Same s (State.beginChecking s) := by
  unfold State.beginChecking; (try dsimp only); (repeat' split) <;> simp

@[simp] theorem State.delayExpires_same (s : State) : Same s (State.delayExpires s) := by
  unfold State.delayExpires; (try dsimp only); (repeat' split) <;> simp

@[simp] theorem State.delayEval_same (s : State) : Same s (State.delayEval s) := by
  unfold State.delayEval; (try dsimp only); (repeat' split) <;> simp

@[simp] theorem State.authJoined_same (s : State) (sd : Side) : Same s (State.authJoined s sd) := by
  unfold State.authJoined; (repeat' split) <;> simp

@[simp] theorem State.join_same (s : State) (sd : Side) (x : Auth) : Same s (State.join s sd x) := by
  simp [State.join]

@[simp] theorem State.fill_same (s : State) (sd : Side) (origin : AuthOrigin) (card : CardId) (seq : Option Nat) : Same s (State.fill s sd
    origin card seq).1 := by
  unfold State.fill; (repeat' split) <;> simp

@[simp] theorem State.openLimitChanged_same (s : State) : Same s (State.openLimitChanged s) := by
  unfold State.openLimitChanged; (repeat' split) <;> simp

@[simp] theorem State.closedLimitChanged_same (s : State) : Same s (State.closedLimitChanged s) := by
  unfold State.closedLimitChanged; (repeat' split) <;> simp

@[simp] theorem State.handPattern_same (s : State) (p : PerZone Bool) : Same s (State.handPattern s p) := by
  unfold State.handPattern; (try dsimp only); (repeat' split) <;> simp

@[simp] theorem State.raiseAlarm_same (s : State) (kind : AlarmKind) (namesA namesB : Bool) (direction : Option Side) : Same s
    (State.raiseAlarm s kind namesA namesB direction) := by
  simp [State.raiseAlarm]

@[simp] theorem State.alarmAt_same (s : State) (kind : AlarmKind) (sd : Side) (direction : Option Side) : Same s (State.alarmAt s kind sd
    direction) := by
  simp [State.alarmAt]

@[simp] theorem State.consume_same (s : State) (sd : Side) (follower behind : Bool) : Same s (State.consume s sd follower behind) := by
  unfold State.consume; (try dsimp only); (repeat' split) <;> simp

@[simp] theorem State.tailgate_same (s : State) (sd : Side) : Same s (State.tailgate s sd) := by
  simp [State.tailgate]

@[simp] theorem State.openPassage_same (s : State) (o sd : Side) (follower behind : Bool) : Same s (State.openPassage s o sd follower
    behind) := by
  unfold State.openPassage; (try dsimp only); (repeat' split) <;> simp

@[simp] theorem State.takePassage_same (s : State) (sd : Side) (follower behind : Bool) : Same s (State.takePassage s sd follower behind)
    := by
  unfold State.takePassage; (try dsimp only); (repeat' split) <;> simp

@[simp] theorem State.takeCounterflow_same (s : State) (start : Option Side) : Same s (State.takeCounterflow s start) := by
  unfold State.takeCounterflow; (repeat' split) <;> simp

@[simp] theorem State.takeReport_same (s : State) (x : Report) : Same s (State.takeReport s x) := by
  unfold State.takeReport; (repeat' split) <;> simp

@[simp] theorem State.openPeriod_same (s : State) : Same s (State.openPeriod s) := by
  unfold State.openPeriod; (try dsimp only); (repeat' split) <;> simp

@[simp] theorem State.closePeriod_same (s : State) : Same s (State.closePeriod s) := by
  simp [State.closePeriod]

@[simp] theorem State.enterFreeOpen_same (s : State) (reason : FreeReason) : Same s (State.enterFreeOpen s reason) := by
  simp [State.enterFreeOpen]

@[simp] theorem State.endFreeOpen_same (s : State) : Same s (State.endFreeOpen s) := by
  unfold State.endFreeOpen; (try dsimp only); (repeat' split) <;> simp

@[simp] theorem State.setReasons_same (s : State) (r : FreeReasons) (reason : FreeReason) : Same s (State.setReasons s r reason) := by
  unfold State.setReasons; (try dsimp only); (repeat' split) <;> simp

@[simp] theorem State.joinReason_same (s : State) (r : FreeReason) : Same s (State.joinReason s r) := by
  simp [State.joinReason]

@[simp] theorem State.leaveReason_same (s : State) (r : FreeReason) : Same s (State.leaveReason s r) := by
  simp [State.leaveReason]

@[simp] theorem State.emergencyChanged_same (s : State) : Same s (State.emergencyChanged s) := by
  unfold State.emergencyChanged; (try dsimp only); (repeat' split) <;> simp

@[simp] theorem State.giveFailClosed_same (s : State) : Same s (State.giveFailClosed s) := by
  unfold State.giveFailClosed; (try dsimp only); (repeat' split) <;> simp

@[simp] theorem State.liftFailClosed_same (s : State) : Same s (State.liftFailClosed s) := by
  unfold State.liftFailClosed; (try dsimp only); (repeat' split) <;> simp

@[simp] theorem State.giveHold_same (s : State) : Same s (State.giveHold s) := by
  unfold State.giveHold; (try dsimp only); (repeat' split) <;> simp

@[simp] theorem State.liftHold_same (s : State) : Same s (State.liftHold s) := by
  unfold State.liftHold; (try dsimp only); (repeat' split) <;> simp

@[simp] theorem State.recompute_same (s : State) : Same s (State.recompute s) := by
  unfold State.recompute; (try dsimp only); (repeat' split) <;> simp

@[simp] theorem State.raisePlain_same (s : State) (c : FaultClass) : Same s (State.raisePlain s c) := by
  unfold State.raisePlain; (repeat' split) <;> simp

@[simp] theorem State.clearPlain_same (s : State) (c : FaultClass) : Same s (State.clearPlain s c) := by
  unfold State.clearPlain; (repeat' split) <;> simp

@[simp] theorem State.raiseOrdered_same (s : State) (c : FaultClass) : Same s (State.raiseOrdered s c) := by
  unfold State.raiseOrdered; (repeat' split) <;> simp

@[simp] theorem State.clearOrdered_same (s : State) (c : FaultClass) : Same s (State.clearOrdered s c) := by
  unfold State.clearOrdered; (repeat' split) <;> simp

@[simp] theorem State.distrustBarrier_same (s : State) : Same s (State.distrustBarrier s) := by
  unfold State.distrustBarrier; (try dsimp only); (repeat' split) <;> simp

@[simp] theorem State.driveFaultActive_same (s : State) : Same s (State.driveFaultActive s) := by
  unfold State.driveFaultActive; (repeat' split) <;> simp

@[simp] theorem State.travelFails_same (s : State) : Same s (State.travelFails s) := by
  unfold State.travelFails; (repeat' split) <;> simp

@[simp] theorem State.setStuck_same (s : State) (z : Zone) (m : StuckMonitor) : Same s (State.setStuck s z m) := by
  simp [State.setStuck]

@[simp] theorem State.stuckChange_same (s : State) (z : Zone) : Same s (State.stuckChange s z) := by
  unfold State.stuckChange; (try dsimp only); (repeat' split) <;> simp

@[simp] theorem State.stuckExpires_same (s : State) (z : Zone) : Same s (State.stuckExpires s z) := by
  unfold State.stuckExpires; (try dsimp only); (repeat' split) <;> simp

@[simp] theorem State.takeReports_same (s : State) (x : List Report) : Same s (State.takeReports s x) := by
  induction x generalizing s with
  | nil => simp [State.takeReports]
  | cons y ys ih => unfold State.takeReports; simp [ih]

@[simp] theorem State.patternChange_same (s : State) : Same s (State.patternChange s) := by
  simp [State.patternChange]

@[simp] theorem State.settleZones_same (s : State) (x : List Zone) : Same s (State.settleZones s x) := by
  induction x generalizing s with
  | nil => simp [State.settleZones]
  | cons y ys ih => unfold State.settleZones; (repeat' split) <;> simp [ih]

@[simp] theorem State.zonesSettle_same (s : State) (zs : List Zone) : Same s (State.zonesSettle s zs) := by
  unfold State.zonesSettle; (repeat' split) <;> simp

@[simp] theorem State.equipmentSettles_same (s : State) (i : Input) : Same s (State.equipmentSettles s i) := by
  unfold State.equipmentSettles; (try dsimp only); (repeat' split) <;> simp

@[simp] theorem State.enterBarrierHold_same (s : State) : Same s (State.enterBarrierHold s) := by
  simp [State.enterBarrierHold]

@[simp] theorem State.leaveBarrierHold_same (s : State) : Same s (State.leaveBarrierHold s) := by
  unfold State.leaveBarrierHold; (try dsimp only); (repeat' split) <;> simp

@[simp] theorem State.enterReaderHold_same (s : State) (sd : Side) : Same s (State.enterReaderHold s sd) := by
  unfold State.enterReaderHold; (try dsimp only); (repeat' split) <;> simp

@[simp] theorem State.leaveReaderHold_same (s : State) (sd : Side) : Same s (State.leaveReaderHold s sd) := by
  unfold State.leaveReaderHold; (try dsimp only); (repeat' split) <;> simp

@[simp] theorem State.exchangeBanks_same (s : State) : Same s (State.exchangeBanks s) := by
  simp [State.exchangeBanks]

@[simp] theorem State.swap_same (s : State) (version day : Nat) : Same s (State.swap s version day) := by
  unfold State.swap; (try dsimp only); (repeat' split) <;> simp

@[simp] theorem State.swapTest_same (s : State) : Same s (State.swapTest s) := by
  unfold State.swapTest; (repeat' split) <;> simp

@[simp] theorem State.minuteStep_same (s : State) (now : Nat) : Same s (State.minuteStep s now) := by
  simp [State.minuteStep]

@[simp] theorem State.setClock_same (s : State) (t : Option Nat) : Same s (State.setClock s t) := by
  simp [State.setClock]

@[simp] theorem State.advanceClock_same (s : State) : Same s (State.advanceClock s) := by
  unfold State.advanceClock; (repeat' split) <;> simp

@[simp] theorem State.refuseHail_same (s : State) (sd : Side) (card : CardId) (o : TapOutcome) (reason : Option CloneReason) (tariff :
    Option Nat) : Same s (State.refuseHail s sd card o reason tariff) := by
  simp [State.refuseHail]

@[simp] theorem State.startTx_same (s : State) (sd : Side) (card : CardId) (instant : Nat) : Same s (State.startTx s sd card instant) :=
    by
  unfold State.startTx; (try dsimp only); (repeat' split) <;> simp

@[simp] theorem State.reserveAndStart_same (s : State) (sd : Side) (card : CardId) (instant : Nat) : Same s (State.reserveAndStart s sd
    card instant) := by
  unfold State.reserveAndStart; (try dsimp only); (repeat' split) <;> simp

@[simp] theorem State.openTap_same (s : State) (sd : Side) (card : CardId) : Same s (State.openTap s sd card) := by
  unfold State.openTap; (try dsimp only); (repeat' split) <;> simp

@[simp] theorem State.hailEvent_same (s : State) (sd : Side) (card : CardId) : Same s (State.hailEvent s sd card) := by
  unfold State.hailEvent; (repeat' split) <;> simp

@[simp] theorem State.collide_same (s : State) (sd : Side) : Same s (State.collide s sd) := by
  unfold State.collide; (try dsimp only); (repeat' split) <;> simp

@[simp] theorem State.oneCard_same (s : State) (sd : Side) (card : CardId) : Same s (State.oneCard s sd card) := by
  unfold State.oneCard; (try dsimp only); (repeat' split) <;> simp

@[simp] theorem State.judgeWindow_same (s : State) (sd : Side) (w : HailWindow) : Same s (State.judgeWindow s sd w) := by
  unfold State.judgeWindow; (repeat' split) <;> simp

@[simp] theorem State.finishMark_same (s : State) (sd : Side) (capture : CaptureResult) : Same s (State.finishMark s sd capture) := by
  unfold State.finishMark; (try dsimp only); (repeat' split) <;> simp

@[simp] theorem State.cardLost_same (s : State) (sd : Side) : Same s (State.cardLost s sd) := by
  unfold State.cardLost; (repeat' split) <;> simp

@[simp] theorem State.ask_same (s : State) (sd : Side) (f : LinkFrame) : Same s (State.ask s sd f) := by
  unfold State.ask; (repeat' split) <;> simp

@[simp] theorem State.enterMarking_same (s : State) (sd : Side) (o : TapOutcome) (reason : Option CloneReason) : Same s
    (State.enterMarking s sd o reason) := by
  simp [State.enterMarking]

@[simp] theorem State.captureVerdict_same (s : State) (sd : Side) (o : TapOutcome) (reason : Option CloneReason) : Same s
    (State.captureVerdict s sd o reason) := by
  unfold State.captureVerdict; (repeat' split) <;> simp

@[simp] theorem State.enterWriting_same (s : State) (sd : Side) (target : SlotNo) (record : CardRecord) : Same s (State.enterWriting s sd
    target record) := by
  simp [State.enterWriting]

@[simp] theorem State.settleWrite_same (s : State) (sd : Side) (f : FareRecord) (o : TapOutcome) : Same s (State.settleWrite s sd f o) :=
    by
  unfold State.settleWrite; (try dsimp only); (repeat' split) <;> simp

@[simp] theorem State.grantStaff_same (s : State) (sd : Side) : Same s (State.grantStaff s sd) := by
  unfold State.grantStaff; (try dsimp only); (repeat' split) <;> simp

@[simp] theorem State.grantRepeat_same (s : State) (sd : Side) (expired : Bool) (r : CardRecord) : Same s (State.grantRepeat s sd expired
    r) := by
  unfold State.grantRepeat; (try dsimp only); (repeat' split) <;> simp

@[simp] theorem State.supersede_same (s : State) (sd : Side) (e : InDoubt) (instant found : Nat) : Same s (State.supersede s sd e instant
    found) := by
  unfold State.supersede; (try dsimp only); (repeat' split) <;> simp

@[simp] theorem State.rewrite_same (s : State) (sd : Side) (e : InDoubt) : Same s (State.rewrite s sd e) := by
  unfold State.rewrite; (repeat' split) <;> simp

@[simp] theorem State.resolve_same (s : State) (sd : Side) (e : InDoubt) (t : Transaction) (current : SlotNo) (record : CardRecord) : Same
    s (State.resolve s sd e t current record) := by
  unfold State.resolve; (try dsimp only); (repeat' split) <;> simp

@[simp] theorem State.enterScreening_same (s : State) (sd : Side) : Same s (State.enterScreening s sd) := by
  unfold State.enterScreening; (try dsimp only); (repeat' split) <;> simp

@[simp] theorem State.checkProduct_same (s : State) (sd : Side) (t : Transaction) (area : StaticArea) : Same s (State.checkProduct s sd t
    area) := by
  unfold State.checkProduct; (try dsimp only); (repeat' split) <;> simp

@[simp] theorem State.verify_same (s : State) (sd : Side) : Same s (State.verify s sd) := by
  unfold State.verify; (try dsimp only); (repeat' split) <;> simp

@[simp] theorem State.enterPricing_same (s : State) (sd : Side) : Same s (State.enterPricing s sd) := by
  simp [State.enterPricing]

@[simp] theorem State.actOnVerdict_same (s : State) (sd : Side) (r : CardRecord) (x : Verdict) : Same s (State.actOnVerdict s sd r x) :=
    by
  unfold State.actOnVerdict; (repeat' split) <;> simp

@[simp] theorem State.judgeCard_same (s : State) (sd : Side) (t : Transaction) (r : CardRecord) (mark : DenyMark) : Same s
    (State.judgeCard s sd t r mark) := by
  simp [State.judgeCard]

@[simp] theorem State.screen1_same (s : State) (sd : Side) : Same s (State.screen1 s sd) := by
  unfold State.screen1; (repeat' split) <;> simp

@[simp] theorem State.screenEvent_same (s : State) (sd : Side) : Same s (State.screenEvent s sd) := by
  unfold State.screenEvent; (repeat' split) <;> simp

@[simp] theorem State.screenWaiting_same (s : State) (sd : Side) : Same s (State.screenWaiting s sd) := by
  unfold State.screenWaiting; (repeat' split) <;> simp

@[simp] theorem State.ordinaryMark_same (s : State) (sd : Side) : Same s (State.ordinaryMark s sd) := by
  simp [State.ordinaryMark]

@[simp] theorem State.commitPoint_same (s : State) (sd : Side) (t : Transaction) (record : CardRecord) (f : FareRecord) (target : SlotNo)
    : Same s (State.commitPoint s sd t record f target) := by
  unfold State.commitPoint; (try dsimp only); (repeat' split) <;> simp

@[simp] theorem State.actOnPrice_same (s : State) (sd : Side) (t : Transaction) (x : PricingResult) : Same s (State.actOnPrice s sd t x)
    := by
  unfold State.actOnPrice; (try dsimp only); (repeat' split) <;> simp

@[simp] theorem State.pricingEnds_same (s : State) : Same s (State.pricingEnds s) := by
  unfold State.pricingEnds; (try dsimp only); (repeat' split) <;> simp

@[simp] theorem State.claimAnswered_same (s : State) (sd : Side) (area : StaticArea) (blocked : Bool) : Same s (State.claimAnswered s sd
    area blocked) := by
  simp [State.claimAnswered]

@[simp] theorem State.slotAnswered_same (s : State) (sd : Side) (no : SlotNo) (contents : RawRecord) : Same s (State.slotAnswered s sd no
    contents) := by
  unfold State.slotAnswered; (try dsimp only); (repeat' split) <;> simp

@[simp] theorem State.doneAnswered_same (s : State) (sd : Side) : Same s (State.doneAnswered s sd) := by
  unfold State.doneAnswered; (try dsimp only); (repeat' split) <;> simp

@[simp] theorem State.claimedArrives_same (s : State) (sd : Side) (frameOk : Bool) (area : StaticArea) (blocked : Bool) : Same s
    (State.claimedArrives s sd frameOk area blocked) := by
  unfold State.claimedArrives; (repeat' split) <;> simp

@[simp] theorem State.slotArrives_same (s : State) (sd : Side) (frameOk turn : Bool) (no : SlotNo) (contents : RawRecord) : Same s
    (State.slotArrives s sd frameOk turn no contents) := by
  unfold State.slotArrives; (repeat' split) <;> simp

@[simp] theorem State.doneArrives_same (s : State) (sd : Side) (frameOk turn : Bool) : Same s (State.doneArrives s sd frameOk turn) := by
  unfold State.doneArrives; (repeat' split) <;> simp

@[simp] theorem State.settleExpires_same (s : State) (sd : Side) : Same s (State.settleExpires s sd) := by
  unfold State.settleExpires; (repeat' split) <;> simp

@[simp] theorem State.summonsExpires_same (s : State) (sd : Side) : Same s (State.summonsExpires s sd) := by
  unfold State.summonsExpires; (try dsimp only); (repeat' split) <;> simp

@[simp] theorem State.idleExpires_same (s : State) (sd : Side) : Same s (State.idleExpires s sd) := by
  unfold State.idleExpires; (try dsimp only); (repeat' split) <;> simp

@[simp] theorem State.holdoffExpires_same (s : State) (sd : Side) : Same s (State.holdoffExpires s sd) := by
  unfold State.holdoffExpires; (try dsimp only); (repeat' split) <;> simp

@[simp] theorem State.holdExpires_same (s : State) (sd : Side) : Same s (State.holdExpires s sd) := by
  simp [State.holdExpires]

@[simp] theorem State.carrierLost_same (s : State) (sd : Side) : Same s (State.carrierLost s sd) := by
  unfold State.carrierLost; (try dsimp only); (repeat' split) <;> simp

@[simp] theorem State.carrierReturns_same (s : State) (sd : Side) : Same s (State.carrierReturns s sd) := by
  unfold State.carrierReturns; (try dsimp only); (repeat' split) <;> simp

@[simp] theorem State.answerExpires_same (s : State) (sd : Side) : Same s (State.answerExpires s sd) := by
  unfold State.answerExpires; (try dsimp only); (repeat' split) <;> simp

@[simp] theorem State.guardExpires_same (s : State) (sd : Side) : Same s (State.guardExpires s sd) := by
  unfold State.guardExpires; (repeat' split) <;> simp

@[simp] theorem State.deadlinePasses_same (s : State) (card : CardId) : Same s (State.deadlinePasses s card) := by
  unfold State.deadlinePasses; (repeat' split) <;> simp

@[simp] theorem State.ok_same (s : State) (fields : List Byte) : Same s (State.ok s fields).1 := by
  simp [State.ok]

@[simp] theorem State.no_same (s : State) (r : Result) : Same s (State.no s r).1 := by
  simp [State.no]

@[simp] theorem State.takeSetting_same (s : State) (t : Nat) (forced : Bool) : Same s (State.takeSetting s t forced) := by
  unfold State.takeSetting; (try dsimp only); (repeat' split) <;> simp

@[simp] theorem State.setClockRequest_same (s : State) (d : DateTime) (force : Nat) : Same s (State.setClockRequest s d force).1 := by
  unfold State.setClockRequest; (repeat' split) <;> simp

@[simp] theorem State.getClock_same (s : State) : Same s (State.getClock s).1 := by
  simp [State.getClock]

@[simp] theorem State.stationFreePeriod_same (s : State) (start stop : Nat) : Same s (State.stationFreePeriod s start stop).1 := by
  unfold State.stationFreePeriod; (try dsimp only); (repeat' split) <;> simp

@[simp] theorem State.holdListRead_same (s : State) (start : Nat) : Same s (State.holdListRead s start).1 := by
  unfold State.holdListRead; (try dsimp only); (repeat' split) <;> simp

@[simp] theorem State.denylistQuery_same (s : State) (card : CardId) : Same s (State.denylistQuery s card).1 := by
  simp [State.denylistQuery]

@[simp] theorem State.commandFreeOpen_same (s : State) : Same s (State.commandFreeOpen s).1 := by
  simp [State.commandFreeOpen]

@[simp] theorem State.commandResume_same (s : State) : Same s (State.commandResume s).1 := by
  unfold State.commandResume; (repeat' split) <;> simp

@[simp] theorem State.commandGrant_same (s : State) (sd : Side) : Same s (State.commandGrant s sd).1 := by
  unfold State.commandGrant; (repeat' split) <;> simp

@[simp] theorem State.commandCancel_same (s : State) : Same s (State.commandCancel s).1 := by
  simp [State.commandCancel]

@[simp] theorem State.clearFaultRequest_same (s : State) (cls : Nat) : Same s (State.clearFaultRequest s cls).1 := by
  unfold State.clearFaultRequest; (repeat' split) <;> simp

@[simp] theorem State.barrierHoldRequest_same (s : State) (enter : Bool) : Same s (State.barrierHoldRequest s enter).1 := by
  unfold State.barrierHoldRequest; (repeat' split) <;> simp

@[simp] theorem State.readerHoldRequest_same (s : State) (sd : Side) (enter : Bool) : Same s (State.readerHoldRequest s sd enter).1 := by
  unfold State.readerHoldRequest; (repeat' split) <;> simp

@[simp] theorem State.serviceHold_same (s : State) (target action : Nat) : Same s (State.serviceHold s target action).1 := by
  unfold State.serviceHold; (repeat' split) <;> simp

@[simp] theorem State.journalRead_same (s : State) (start count : Nat) : Same s (State.journalRead s start count).1 := by
  unfold State.journalRead; (try dsimp only); (repeat' split) <;> simp

@[simp] theorem State.freeRecords_same (s : State) (n : Nat) : Same s (State.freeRecords s n) := by
  unfold State.freeRecords; (try dsimp only); (repeat' split) <;> simp

@[simp] theorem State.journalRelease_same (s : State) (n : Nat) : Same s (State.journalRelease s n).1 := by
  unfold State.journalRelease; (try dsimp only); (repeat' split) <;> simp

@[simp] theorem State.unmask_same (s : State) (c : NoticeClass) : Same s (State.unmask s c) := by
  unfold State.unmask; (try dsimp only); (repeat' split) <;> simp

@[simp] theorem State.unmaskFrom_same (s : State) (old : PerClass Bool) (c : NoticeClass) : Same s (State.unmaskFrom s old c) := by
  unfold State.unmaskFrom; (repeat' split) <;> simp

@[simp] theorem State.getStatus_same (s : State) (part : Nat) : Same s (State.getStatus s part).1 := by
  simp [State.getStatus]

@[simp] theorem State.restartRequest_same (s : State) : Same s (State.restartRequest s).1 := by
  simp [State.restartRequest]

@[simp] theorem State.startedNotice_same (s : State) (cause : Option StartCause) (kept : Nat) (abandoned : Bool) : Same s
    (State.startedNotice s cause kept abandoned) := by
  simp [State.startedNotice]

@[simp] theorem State.startLow_same (s : State) : Same s (State.startLow s) := by
  simp [State.startLow]

@[simp] theorem State.startBarrier_same (s : State) : Same s (State.startBarrier s) := by
  unfold State.startBarrier; (try dsimp only); (repeat' split) <;> simp

@[simp] theorem State.startReader_same (s : State) (sd : Side) : Same s (State.startReader s sd) := by
  unfold State.startReader; (repeat' split) <;> simp

@[simp] theorem State.startFaults_same (s : State) : Same s (State.startFaults s) := by
  unfold State.startFaults; (try dsimp only); (repeat' split) <;> simp

@[simp] theorem State.debounced_same (s : State) (x : DebounceGroup) : Same s (State.debounced s x) := by
  unfold State.debounced; (repeat' split) <;> simp

@[simp] theorem State.passageExpires_same (s : State) : Same s (State.passageExpires s) := by
  unfold State.passageExpires; (try dsimp only); (repeat' split) <;> simp

@[simp] theorem State.closeDelayExpires_same (s : State) : Same s (State.closeDelayExpires s) := by
  unfold State.closeDelayExpires; (repeat' split) <;> simp

end Sys2Proof.Machine
end

