-- ==== Sys2Proof/WellFormed.lean ====
section
/-! DEFINITION. Well-formed commands: operands that the layouts of section 11.3 and of the card link can carry. A range that a rule judges (R184) is not a matter of form. -/

namespace Sys2Proof

open Machine

/-- A number of `n` bytes. -/
def fitsBytes (n v : Nat) : Bool :=
  decide (v < 256 ^ n)

/-- Every number of a list in one byte. -/
def allBytes (l : List Nat) : Bool :=
  l.all (fitsBytes 1)

/-- A date and time at the sizes of SET_CLOCK's payload. -/
def DateTime.fits (d : DateTime) : Bool :=
  fitsBytes 2 d.year && fitsBytes 1 d.month && fitsBytes 1 d.day && fitsBytes 1 d.hour && fitsBytes 1 d.minute && fitsBytes 1 d.second

/-- A sighting at the sizes of its layout (R186). -/
def SightingFields.fits (f : SightingFields) : Bool :=
  fitsBytes 3 f.counter && decide (-2147483648 ≤ f.purse ∧ f.purse ≤ 2147483647) && fitsBytes 1 f.kind && fitsBytes 4 f.second
    && fitsBytes 1 f.station && fitsBytes 1 f.gate && fitsBytes 1 f.passage

/-- Whether a command's operands have the form that its frame or event gives them. -/
def Instr.wellFormed : Instr → Bool
  | .tariffLoad _ sect contents => fitsBytes 1 sect && decide (contents.length + 1 ∈ tariffLengths)
  | .tariffActivate _ version day => fitsBytes 2 version && fitsBytes 2 day
  | .keyLoad _ n _ => fitsBytes 1 n
  | .keyErase _ n => fitsBytes 1 n
  | .setClock _ d force => d.fits && fitsBytes 1 force
  | .stationFreePeriod _ start stop => fitsBytes 4 start && fitsBytes 4 stop
  | .holdListRead _ start => fitsBytes 1 start
  | .denylistBegin _ version => fitsBytes 2 version
  | .denylistPage _ cards => decide (cards.length ≤ 85)
  | .sighting _ f => f.fits
  | .debounceExpiry (.zones za zm zb) => za || zm || zb
  | .debounceExpiry (.single _) => true
  | .setParameter _ param input value => fitsBytes 1 param && fitsBytes 1 input && fitsBytes 4 value
  | .setAisleMode _ mode => fitsBytes 1 mode
  | .setDirectionTable _ entries => decide (entries.length = 16) && allBytes entries
  | .setFaultResponse _ cls response => fitsBytes 1 cls && fitsBytes 1 response
  | .clearFault _ cls => fitsBytes 1 cls
  | .setLampPriority _ order => decide (order.length = 7) && allBytes order
  | .journalRead _ start count => fitsBytes 4 start && fitsBytes 1 count
  | .journalRelease _ seq => fitsBytes 4 seq
  | .unknownKind _ kind => !isRequestKind kind
  | .badLength _ kind => isRequestKind kind
  | .setNoticeMask _ masks => decide (masks.length = 7) && allBytes masks
  | .getStatus _ part => fitsBytes 1 part
  | .setIdentity _ station gate => fitsBytes 1 station && fitsBytes 1 gate
  | .powerOn | .resetPin | .supplyDip | .settleTimerExpiry _ | .summonsTimerExpiry _ | .hail _ _ _ | .hailWindowClose _
  | .idleTimerExpiry _ | .holdoffTimerExpiry _ | .sameCardHoldExpiry _ | .carrierLoss _ | .carrierReturn _ | .claimed _ _ _ _
  | .slot _ _ _ _ _ | .done _ _ _ | .answerTimerExpiry _ | .guardTimerExpiry _ | .screening _ | .pricingComplete
  | .inDoubtDeadlineExpiry _ | .tariffDiscard _ | .clockAdvance | .getClock _ | .holdRelease _ _ | .denylistAdd _ _
  | .denylistRemove _ _ | .denylistApplyBegin | .denylistApplyComplete | .denylistEnd _ | .denylistSwap | .denylistQuery _ _
  | .rawInputChange _ _ | .stuckTimerExpiry _ | .travelTimerExpiry | .passageDeadlineExpiry | .closeDelayExpiry | .alarmTimerExpiry _
  | .freeOpen _ | .resume _ | .grantA _ | .grantB _ | .cancelGrants _ | .serviceHoldBarrierEnter _ | .serviceHoldBarrierLeave _
  | .serviceHoldReaderEnter _ _ | .serviceHoldReaderLeave _ _ | .refusalTimerExpiry _ | .rxByte _ _ | .gapTimerExpiry | .frameSent
  | .restart _ | .backupSupplyFailure => true

end Sys2Proof
end

