-- ==== Sys2Proof/Laws/PerInstr.lean ====
section
/-! SUPPORT. The law of every command: the payload that the layouts of section 11.3 give a request command, in a frame of its kind, is judged as the request that the command stands for. -/

namespace Sys2Proof.Laws

open Sys2Proof.Machine

/-- A request as its frame carries it: kind, payload, and the request that the payload stands for. -/
structure Framed where
  kind : Byte
  payload : List Byte
  request : Request

/-- A date and time in the 7 bytes of SET_CLOCK. -/
def dateTimeBytes (d : DateTime) : List Byte :=
  beBytes 2 d.year ++ (beBytes 1 d.month ++ (beBytes 1 d.day ++ (beBytes 1 d.hour ++ (beBytes 1 d.minute ++ beBytes 1 d.second))))

/-- The 22 bytes of a SIGHTING. -/
def sightingBytes (f : SightingFields) : List Byte :=
  beBytes 7 f.cardId.toNat ++ (beBytes 3 f.counter ++ (beBytes 4 (BitVec.ofInt 32 f.purse).toNat ++ (beBytes 1 f.kind ++
    (beBytes 4 f.second ++ (beBytes 1 f.station ++ (beBytes 1 f.gate ++ beBytes 1 f.passage))))))

/-- The bytes of a list of codes. -/
def codeBytes (l : List Nat) : List Byte :=
  l.map (BitVec.ofNat 8)

/-- The frame of a request command (section 11.3); none for a command that is no request, or whose frame carries no request. -/
def framed : Instr → Option Framed
  | .getStatus _ part => some ⟨0x01, beBytes 1 part, .getStatus part⟩
  | .setIdentity _ station gate => some ⟨0x02, beBytes 1 station ++ beBytes 1 gate, .setIdentity station gate⟩
  | .setAisleMode _ mode => some ⟨0x03, beBytes 1 mode, .setAisleMode mode⟩
  | .setParameter _ param input v =>
    some ⟨0x04, beBytes 1 param ++ (beBytes 1 input ++ beBytes 4 v), .setParameter param input v⟩
  | .freeOpen _ => some ⟨0x05, beBytes 1 1, .gateCommand 1⟩
  | .resume _ => some ⟨0x05, beBytes 1 2, .gateCommand 2⟩
  | .grantA _ => some ⟨0x05, beBytes 1 3, .gateCommand 3⟩
  | .grantB _ => some ⟨0x05, beBytes 1 4, .gateCommand 4⟩
  | .cancelGrants _ => some ⟨0x05, beBytes 1 5, .gateCommand 5⟩
  | .serviceHoldBarrierEnter _ => some ⟨0x06, beBytes 1 1 ++ beBytes 1 1, .serviceHold 1 1⟩
  | .serviceHoldBarrierLeave _ => some ⟨0x06, beBytes 1 1 ++ beBytes 1 2, .serviceHold 1 2⟩
  | .serviceHoldReaderEnter _ .a => some ⟨0x06, beBytes 1 2 ++ beBytes 1 1, .serviceHold 2 1⟩
  | .serviceHoldReaderEnter _ .b => some ⟨0x06, beBytes 1 3 ++ beBytes 1 1, .serviceHold 3 1⟩
  | .serviceHoldReaderLeave _ .a => some ⟨0x06, beBytes 1 2 ++ beBytes 1 2, .serviceHold 2 2⟩
  | .serviceHoldReaderLeave _ .b => some ⟨0x06, beBytes 1 3 ++ beBytes 1 2, .serviceHold 3 2⟩
  | .clearFault _ cls => some ⟨0x07, beBytes 1 cls, .clearFault cls⟩
  | .setFaultResponse _ cls response => some ⟨0x08, beBytes 1 cls ++ beBytes 1 response, .setFaultResponse cls response⟩
  | .setLampPriority _ order => some ⟨0x09, codeBytes order, .setLampPriority order⟩
  | .setDirectionTable _ entries => some ⟨0x0A, codeBytes entries, .setDirectionTable entries⟩
  | .tariffLoad _ sect contents => some ⟨0x0B, beBytes 1 sect ++ contents, .tariffLoad sect contents⟩
  | .tariffActivate _ version day => some ⟨0x0C, beBytes 2 version ++ beBytes 2 day, .tariffActivate version day⟩
  | .tariffDiscard _ => some ⟨0x0D, [], .tariffDiscard⟩
  | .keyLoad _ n key => some ⟨0x0E, beBytes 1 n ++ beBytes 16 key.toNat, .keyLoad n key⟩
  | .keyErase _ n => some ⟨0x0F, beBytes 1 n, .keyErase n⟩
  | .setClock _ d force => some ⟨0x10, dateTimeBytes d ++ beBytes 1 force, .setClock d force⟩
  | .getClock _ => some ⟨0x11, [], .getClock⟩
  | .denylistAdd _ card => some ⟨0x12, beBytes 7 card.toNat, .denylistAdd card⟩
  | .denylistRemove _ card => some ⟨0x13, beBytes 7 card.toNat, .denylistRemove card⟩
  | .denylistBegin _ version => some ⟨0x14, beBytes 2 version, .denylistBegin version⟩
  | .denylistPage _ cards => some ⟨0x15, cards.flatMap fun c => beBytes 7 c.toNat, .denylistPage cards⟩
  | .denylistEnd _ => some ⟨0x16, [], .denylistEnd⟩
  | .denylistQuery _ card => some ⟨0x17, beBytes 7 card.toNat, .denylistQuery card⟩
  | .holdRelease _ card => some ⟨0x18, beBytes 7 card.toNat, .holdRelease card⟩
  | .holdListRead _ start => some ⟨0x19, beBytes 1 start, .holdListRead start⟩
  | .sighting _ f => some ⟨0x1A, sightingBytes f, .sighting f⟩
  | .stationFreePeriod _ start stop => some ⟨0x1B, beBytes 4 start ++ beBytes 4 stop, .stationFreePeriod start stop⟩
  | .journalRead _ start count => some ⟨0x1C, beBytes 4 start ++ beBytes 1 count, .journalRead start count⟩
  | .journalRelease _ n => some ⟨0x1D, beBytes 4 n, .journalRelease n⟩
  | .setNoticeMask _ masks => some ⟨0x1E, codeBytes masks, .setNoticeMask masks⟩
  | .restart _ => some ⟨0x1F, [], .restart⟩
  | .unknownKind _ kind => some ⟨kind, [], .unknownKind kind⟩
  | .powerOn | .resetPin | .supplyDip | .settleTimerExpiry _ | .summonsTimerExpiry _ | .hail _ _ _ | .hailWindowClose _
  | .idleTimerExpiry _ | .holdoffTimerExpiry _ | .sameCardHoldExpiry _ | .carrierLoss _ | .carrierReturn _ | .claimed _ _ _ _
  | .slot _ _ _ _ _ | .done _ _ _ | .answerTimerExpiry _ | .guardTimerExpiry _ | .screening _ | .pricingComplete
  | .inDoubtDeadlineExpiry _ | .clockAdvance | .denylistApplyBegin | .denylistApplyComplete | .denylistSwap | .rawInputChange _ _
  | .debounceExpiry _ | .stuckTimerExpiry _ | .travelTimerExpiry | .passageDeadlineExpiry | .closeDelayExpiry | .alarmTimerExpiry _
  | .refusalTimerExpiry _ | .rxByte _ _ | .gapTimerExpiry | .frameSent | .badLength _ _ | .backupSupplyFailure => none

/-- A well-formed request command's payload is at most 600 bytes and is judged as the command's request. -/
def FrameCarriesRequest.Statement (i : Instr) : Prop :=
  i.wellFormed = true → ∀ f, framed i = some f → f.payload.length ≤ 600 ∧ judgeFrame f.kind f.payload = f.request

/-- A command that no frame carries. -/
theorem frameCarriesRequest_of_none {i : Instr} (h : framed i = none) : FrameCarriesRequest.Statement i := by
  intro _ f hf
  rw [h] at hf
  cases hf

theorem byteNumbers_codeBytes {l : List Nat} (h : allBytes l = true) : byteNumbers (codeBytes l) = l := by
  induction l with
  | nil => rfl
  | cons n l ih =>
    simp only [allBytes, List.all_cons, Bool.and_eq_true, fitsBytes, decide_eq_true_eq] at h
    simp only [byteNumbers, codeBytes, List.map_cons, List.map_map] at ih ⊢
    rw [ih (by simpa [allBytes, fitsBytes] using h.2), BitVec.toNat_ofNat, Nat.mod_eq_of_lt (by omega)]

theorem cardAt_first (c : CardId) (rest : List Byte) : cardAt 0 (beBytes 7 c.toNat ++ rest) = c := by
  rw [cardAt, fieldAt_first rest (by have := c.isLt; omega), BitVec.ofNat_toNat, BitVec.setWidth_eq]

theorem purseAt_first {p : Int} (rest : List Byte) (h : -2147483648 ≤ p ∧ p ≤ 2147483647) :
    purseAt 0 (beBytes 4 (BitVec.ofInt 32 p).toNat ++ rest) = p := by
  rw [purseAt, fieldAt_first rest (by have := (BitVec.ofInt 32 p).isLt; omega), BitVec.ofNat_toNat, BitVec.setWidth_eq,
    BitVec.toInt_ofInt, Int.bmod_def]
  split <;> omega

theorem purseAt_behind {k at_ : Nat} {l : List Byte} (rest : List Byte) (hl : l.length = k) (ha : k ≤ at_) :
    purseAt at_ (l ++ rest) = purseAt (at_ - k) rest := by
  rw [purseAt, fieldAt_behind rest hl ha, purseAt]

theorem cardsOf_cards (n : Nat) (cards : List CardId) (h : cards.length ≤ n) :
    cardsOf n (cards.flatMap fun c => beBytes 7 c.toNat) = cards := by
  induction n generalizing cards with
  | zero => cases cards with
    | nil => rfl
    | cons c l => simp at h
  | succ n ih => cases cards with
    | nil => simp [cardsOf]
    | cons c l =>
      have hd : (beBytes 7 c.toNat ++ l.flatMap fun c => beBytes 7 c.toNat).drop 7 = l.flatMap fun c => beBytes 7 c.toNat :=
        List.drop_left' (by simp)
      rw [List.flatMap_cons, cardsOf, if_neg (by simp), cardAt_first, hd, ih l (by simpa using h)]

theorem cards_length (cards : List CardId) : (cards.flatMap fun c => beBytes 7 c.toNat).length = 7 * cards.length := by
  induction cards with
  | nil => rfl
  | cons c l ih => rw [List.flatMap_cons, List.length_append, ih, beBytes_length, List.length_cons]; omega

end Sys2Proof.Laws

namespace Sys2Proof.Laws

open Sys2Proof.Machine

/-! One lemma for each command. -/

theorem FrameCarriesRequest.powerOn :
    FrameCarriesRequest.Statement (.powerOn) :=
  frameCarriesRequest_of_none rfl

theorem FrameCarriesRequest.resetPin :
    FrameCarriesRequest.Statement (.resetPin) :=
  frameCarriesRequest_of_none rfl

theorem FrameCarriesRequest.supplyDip :
    FrameCarriesRequest.Statement (.supplyDip) :=
  frameCarriesRequest_of_none rfl

theorem FrameCarriesRequest.settleTimerExpiry (side : Side) :
    FrameCarriesRequest.Statement (.settleTimerExpiry side) :=
  frameCarriesRequest_of_none rfl

theorem FrameCarriesRequest.summonsTimerExpiry (side : Side) :
    FrameCarriesRequest.Statement (.summonsTimerExpiry side) :=
  frameCarriesRequest_of_none rfl

theorem FrameCarriesRequest.hail (side : Side) (clean : Bool) (card : CardId) :
    FrameCarriesRequest.Statement (.hail side clean card) :=
  frameCarriesRequest_of_none rfl

theorem FrameCarriesRequest.hailWindowClose (side : Side) :
    FrameCarriesRequest.Statement (.hailWindowClose side) :=
  frameCarriesRequest_of_none rfl

theorem FrameCarriesRequest.idleTimerExpiry (side : Side) :
    FrameCarriesRequest.Statement (.idleTimerExpiry side) :=
  frameCarriesRequest_of_none rfl

theorem FrameCarriesRequest.holdoffTimerExpiry (side : Side) :
    FrameCarriesRequest.Statement (.holdoffTimerExpiry side) :=
  frameCarriesRequest_of_none rfl

theorem FrameCarriesRequest.sameCardHoldExpiry (side : Side) :
    FrameCarriesRequest.Statement (.sameCardHoldExpiry side) :=
  frameCarriesRequest_of_none rfl

theorem FrameCarriesRequest.carrierLoss (side : Side) :
    FrameCarriesRequest.Statement (.carrierLoss side) :=
  frameCarriesRequest_of_none rfl

theorem FrameCarriesRequest.carrierReturn (side : Side) :
    FrameCarriesRequest.Statement (.carrierReturn side) :=
  frameCarriesRequest_of_none rfl

theorem FrameCarriesRequest.claimed (side : Side) (frameOk : Bool) (area : StaticArea) (blocked : Bool) :
    FrameCarriesRequest.Statement (.claimed side frameOk area blocked) :=
  frameCarriesRequest_of_none rfl

theorem FrameCarriesRequest.slot (side : Side) (frameOk : Bool) (turn : Bool) (no : SlotNo) (contents : RawRecord) :
    FrameCarriesRequest.Statement (.slot side frameOk turn no contents) :=
  frameCarriesRequest_of_none rfl

theorem FrameCarriesRequest.done (side : Side) (frameOk : Bool) (turn : Bool) :
    FrameCarriesRequest.Statement (.done side frameOk turn) :=
  frameCarriesRequest_of_none rfl

theorem FrameCarriesRequest.answerTimerExpiry (side : Side) :
    FrameCarriesRequest.Statement (.answerTimerExpiry side) :=
  frameCarriesRequest_of_none rfl

theorem FrameCarriesRequest.guardTimerExpiry (side : Side) :
    FrameCarriesRequest.Statement (.guardTimerExpiry side) :=
  frameCarriesRequest_of_none rfl

theorem FrameCarriesRequest.screening (side : Side) :
    FrameCarriesRequest.Statement (.screening side) :=
  frameCarriesRequest_of_none rfl

theorem FrameCarriesRequest.pricingComplete :
    FrameCarriesRequest.Statement (.pricingComplete) :=
  frameCarriesRequest_of_none rfl

theorem FrameCarriesRequest.inDoubtDeadlineExpiry (card : CardId) :
    FrameCarriesRequest.Statement (.inDoubtDeadlineExpiry card) :=
  frameCarriesRequest_of_none rfl

theorem FrameCarriesRequest.tariffLoad (tag : Byte) (sect : Nat) (contents : List Byte) :
    FrameCarriesRequest.Statement (.tariffLoad tag sect contents) := by
  intro h f hf
  cases hf
  simp only [Instr.wellFormed, Bool.and_eq_true, decide_eq_true_eq, fitsBytes] at h
  have hl : (beBytes 1 sect ++ contents).length = contents.length + 1 := by simp; omega
  have h6 : contents.length + 1 ≤ 600 := by
    have h2 := h.2
    simp only [tariffLengths, List.mem_cons, List.not_mem_nil, or_false] at h2
    omega
  refine ⟨by rw [hl]; exact h6, ?_⟩
  have hk : lengthAllowed 11 (beBytes 1 sect ++ contents).length = true := by
    rw [hl]; simp [lengthAllowed, h.2]
  simp only [judgeFrame]
  rw [if_pos (by decide), if_pos (by simpa using hk)]
  simp [requestOf, fieldAt_first contents h.1, List.drop_left' (beBytes_length 1 sect)]

theorem FrameCarriesRequest.tariffActivate (tag : Byte) (version day : Nat) :
    FrameCarriesRequest.Statement (.tariffActivate tag version day) := by
  intro h f hf
  cases hf
  simp [Instr.wellFormed, fitsBytes] at h
  refine ⟨by simp, ?_⟩
  simp [judgeFrame, isRequestKind, lengthAllowed, requestOf, fieldAt_first, fieldAt_alone, fieldAt_behind, beBytes_length, h]

theorem FrameCarriesRequest.tariffDiscard (tag : Byte) :
    FrameCarriesRequest.Statement (.tariffDiscard tag) := by
  intro _ f hf
  cases hf
  exact ⟨by decide, by decide⟩

theorem FrameCarriesRequest.keyLoad (tag : Byte) (slot : Nat) (key : Key) :
    FrameCarriesRequest.Statement (.keyLoad tag slot key) := by
  intro h f hf
  cases hf
  simp [Instr.wellFormed, fitsBytes] at h
  refine ⟨by simp, ?_⟩
  have hk : fieldAt 0 16 (beBytes 16 key.toNat) = key.toNat := fieldAt_alone (by have := key.isLt; omega)
  simp [judgeFrame, isRequestKind, lengthAllowed, requestOf, fieldAt_first, fieldAt_behind, beBytes_length, h, hk]

theorem FrameCarriesRequest.keyErase (tag : Byte) (slot : Nat) :
    FrameCarriesRequest.Statement (.keyErase tag slot) := by
  intro h f hf
  cases hf
  simp [Instr.wellFormed, fitsBytes] at h
  refine ⟨by simp, ?_⟩
  simp [judgeFrame, isRequestKind, lengthAllowed, requestOf, fieldAt_alone, h]

theorem FrameCarriesRequest.clockAdvance :
    FrameCarriesRequest.Statement (.clockAdvance) :=
  frameCarriesRequest_of_none rfl

theorem FrameCarriesRequest.setClock (tag : Byte) (at_ : DateTime) (force : Nat) :
    FrameCarriesRequest.Statement (.setClock tag at_ force) := by
  intro h f hf
  cases hf
  simp [Instr.wellFormed, DateTime.fits, fitsBytes] at h
  refine ⟨by simp [dateTimeBytes], ?_⟩
  simp [judgeFrame, isRequestKind, lengthAllowed, requestOf, dateTimeAt, dateTimeBytes, fieldAt_first, fieldAt_alone, fieldAt_behind, beBytes_length, h]

theorem FrameCarriesRequest.getClock (tag : Byte) :
    FrameCarriesRequest.Statement (.getClock tag) := by
  intro _ f hf
  cases hf
  exact ⟨by decide, by decide⟩

theorem FrameCarriesRequest.stationFreePeriod (tag : Byte) (start stop : Nat) :
    FrameCarriesRequest.Statement (.stationFreePeriod tag start stop) := by
  intro h f hf
  cases hf
  simp [Instr.wellFormed, fitsBytes] at h
  refine ⟨by simp, ?_⟩
  simp [judgeFrame, isRequestKind, lengthAllowed, requestOf, fieldAt_first, fieldAt_alone, fieldAt_behind, beBytes_length, h]

theorem FrameCarriesRequest.holdRelease (tag : Byte) (card : CardId) :
    FrameCarriesRequest.Statement (.holdRelease tag card) := by
  intro _ f hf
  cases hf
  refine ⟨by simp, ?_⟩
  have hc : cardAt 0 (beBytes 7 card.toNat) = card := by simpa using cardAt_first card []
  simp [judgeFrame, isRequestKind, lengthAllowed, requestOf, hc]

theorem FrameCarriesRequest.holdListRead (tag : Byte) (start : Nat) :
    FrameCarriesRequest.Statement (.holdListRead tag start) := by
  intro h f hf
  cases hf
  simp [Instr.wellFormed, fitsBytes] at h
  refine ⟨by simp, ?_⟩
  simp [judgeFrame, isRequestKind, lengthAllowed, requestOf, fieldAt_alone, h]

theorem FrameCarriesRequest.denylistAdd (tag : Byte) (card : CardId) :
    FrameCarriesRequest.Statement (.denylistAdd tag card) := by
  intro _ f hf
  cases hf
  refine ⟨by simp, ?_⟩
  have hc : cardAt 0 (beBytes 7 card.toNat) = card := by simpa using cardAt_first card []
  simp [judgeFrame, isRequestKind, lengthAllowed, requestOf, hc]

theorem FrameCarriesRequest.denylistRemove (tag : Byte) (card : CardId) :
    FrameCarriesRequest.Statement (.denylistRemove tag card) := by
  intro _ f hf
  cases hf
  refine ⟨by simp, ?_⟩
  have hc : cardAt 0 (beBytes 7 card.toNat) = card := by simpa using cardAt_first card []
  simp [judgeFrame, isRequestKind, lengthAllowed, requestOf, hc]

theorem FrameCarriesRequest.denylistApplyBegin :
    FrameCarriesRequest.Statement (.denylistApplyBegin) :=
  frameCarriesRequest_of_none rfl

theorem FrameCarriesRequest.denylistApplyComplete :
    FrameCarriesRequest.Statement (.denylistApplyComplete) :=
  frameCarriesRequest_of_none rfl

theorem FrameCarriesRequest.denylistBegin (tag : Byte) (version : Nat) :
    FrameCarriesRequest.Statement (.denylistBegin tag version) := by
  intro h f hf
  cases hf
  simp [Instr.wellFormed, fitsBytes] at h
  refine ⟨by simp, ?_⟩
  simp [judgeFrame, isRequestKind, lengthAllowed, requestOf, fieldAt_alone, h]

theorem FrameCarriesRequest.denylistPage (tag : Byte) (cards : List CardId) :
    FrameCarriesRequest.Statement (.denylistPage tag cards) := by
  intro h f hf
  cases hf
  simp only [Instr.wellFormed, decide_eq_true_eq] at h
  have hl := cards_length cards
  refine ⟨by rw [hl]; omega, ?_⟩
  have hk : lengthAllowed 21 (cards.flatMap fun c => beBytes 7 c.toNat).length = true := by
    simp [lengthAllowed, hl]; omega
  simp only [judgeFrame]
  rw [if_pos (by decide), if_pos (by simpa using hk)]
  simp [requestOf, cardsOf_cards 85 cards h]

theorem FrameCarriesRequest.denylistEnd (tag : Byte) :
    FrameCarriesRequest.Statement (.denylistEnd tag) := by
  intro _ f hf
  cases hf
  exact ⟨by decide, by decide⟩

theorem FrameCarriesRequest.denylistSwap :
    FrameCarriesRequest.Statement (.denylistSwap) :=
  frameCarriesRequest_of_none rfl

theorem FrameCarriesRequest.denylistQuery (tag : Byte) (card : CardId) :
    FrameCarriesRequest.Statement (.denylistQuery tag card) := by
  intro _ f hf
  cases hf
  refine ⟨by simp, ?_⟩
  have hc : cardAt 0 (beBytes 7 card.toNat) = card := by simpa using cardAt_first card []
  simp [judgeFrame, isRequestKind, lengthAllowed, requestOf, hc]

theorem FrameCarriesRequest.sighting (tag : Byte) (fields : SightingFields) :
    FrameCarriesRequest.Statement (.sighting tag fields) := by
  intro h f hf
  cases hf
  simp [Instr.wellFormed, SightingFields.fits, fitsBytes] at h
  refine ⟨by simp [sightingBytes], ?_⟩
  simp only [judgeFrame]
  rw [if_pos (by decide), if_pos (by simp [lengthAllowed, sightingBytes])]
  have hp := fun rest => purseAt_first (p := fields.purse) rest ⟨by omega, by omega⟩
  have hq : purseAt 10 (sightingBytes fields) = fields.purse := by
    unfold sightingBytes
    rw [purseAt_behind _ (beBytes_length 7 _) (by omega), purseAt_behind _ (beBytes_length 3 _) (by omega), hp]
  simp only [requestOf, sightingOf, hq]
  simp only [sightingBytes, cardAt_first]
  simp [-BitVec.toNat_ofInt, fieldAt_first, fieldAt_alone, fieldAt_behind, h]

theorem FrameCarriesRequest.rawInputChange (input : Input) (high : Bool) :
    FrameCarriesRequest.Statement (.rawInputChange input high) :=
  frameCarriesRequest_of_none rfl

theorem FrameCarriesRequest.debounceExpiry (group : DebounceGroup) :
    FrameCarriesRequest.Statement (.debounceExpiry group) :=
  frameCarriesRequest_of_none rfl

theorem FrameCarriesRequest.stuckTimerExpiry (zone : Zone) :
    FrameCarriesRequest.Statement (.stuckTimerExpiry zone) :=
  frameCarriesRequest_of_none rfl

theorem FrameCarriesRequest.setParameter (tag : Byte) (param input value : Nat) :
    FrameCarriesRequest.Statement (.setParameter tag param input value) := by
  intro h f hf
  cases hf
  simp [Instr.wellFormed, fitsBytes] at h
  refine ⟨by simp, ?_⟩
  simp [judgeFrame, isRequestKind, lengthAllowed, requestOf, fieldAt_first, fieldAt_alone, fieldAt_behind, beBytes_length, h]

theorem FrameCarriesRequest.travelTimerExpiry :
    FrameCarriesRequest.Statement (.travelTimerExpiry) :=
  frameCarriesRequest_of_none rfl

theorem FrameCarriesRequest.passageDeadlineExpiry :
    FrameCarriesRequest.Statement (.passageDeadlineExpiry) :=
  frameCarriesRequest_of_none rfl

theorem FrameCarriesRequest.closeDelayExpiry :
    FrameCarriesRequest.Statement (.closeDelayExpiry) :=
  frameCarriesRequest_of_none rfl

theorem FrameCarriesRequest.alarmTimerExpiry (side : Side) :
    FrameCarriesRequest.Statement (.alarmTimerExpiry side) :=
  frameCarriesRequest_of_none rfl

theorem FrameCarriesRequest.setAisleMode (tag : Byte) (mode : Nat) :
    FrameCarriesRequest.Statement (.setAisleMode tag mode) := by
  intro h f hf
  cases hf
  simp [Instr.wellFormed, fitsBytes] at h
  refine ⟨by simp, ?_⟩
  simp [judgeFrame, isRequestKind, lengthAllowed, requestOf, fieldAt_alone, h]

theorem FrameCarriesRequest.setDirectionTable (tag : Byte) (entries : List Nat) :
    FrameCarriesRequest.Statement (.setDirectionTable tag entries) := by
  intro h f hf
  cases hf
  simp only [Instr.wellFormed, Bool.and_eq_true, decide_eq_true_eq] at h
  refine ⟨by simp [codeBytes, h.1], ?_⟩
  simp [judgeFrame, isRequestKind, lengthAllowed, requestOf, codeBytes, h.1]
  exact byteNumbers_codeBytes h.2

theorem FrameCarriesRequest.freeOpen (tag : Byte) :
    FrameCarriesRequest.Statement (.freeOpen tag) := by
  intro _ f hf
  cases hf
  exact ⟨by decide, by decide⟩

theorem FrameCarriesRequest.resume (tag : Byte) :
    FrameCarriesRequest.Statement (.resume tag) := by
  intro _ f hf
  cases hf
  exact ⟨by decide, by decide⟩

theorem FrameCarriesRequest.grantA (tag : Byte) :
    FrameCarriesRequest.Statement (.grantA tag) := by
  intro _ f hf
  cases hf
  exact ⟨by decide, by decide⟩

theorem FrameCarriesRequest.grantB (tag : Byte) :
    FrameCarriesRequest.Statement (.grantB tag) := by
  intro _ f hf
  cases hf
  exact ⟨by decide, by decide⟩

theorem FrameCarriesRequest.cancelGrants (tag : Byte) :
    FrameCarriesRequest.Statement (.cancelGrants tag) := by
  intro _ f hf
  cases hf
  exact ⟨by decide, by decide⟩

theorem FrameCarriesRequest.setFaultResponse (tag : Byte) (cls response : Nat) :
    FrameCarriesRequest.Statement (.setFaultResponse tag cls response) := by
  intro h f hf
  cases hf
  simp [Instr.wellFormed, fitsBytes] at h
  refine ⟨by simp, ?_⟩
  simp [judgeFrame, isRequestKind, lengthAllowed, requestOf, fieldAt_first, fieldAt_alone, fieldAt_behind, beBytes_length, h]

theorem FrameCarriesRequest.clearFault (tag : Byte) (cls : Nat) :
    FrameCarriesRequest.Statement (.clearFault tag cls) := by
  intro h f hf
  cases hf
  simp [Instr.wellFormed, fitsBytes] at h
  refine ⟨by simp, ?_⟩
  simp [judgeFrame, isRequestKind, lengthAllowed, requestOf, fieldAt_alone, h]

theorem FrameCarriesRequest.serviceHoldBarrierEnter (tag : Byte) :
    FrameCarriesRequest.Statement (.serviceHoldBarrierEnter tag) := by
  intro _ f hf
  cases hf
  exact ⟨by decide, by decide⟩

theorem FrameCarriesRequest.serviceHoldBarrierLeave (tag : Byte) :
    FrameCarriesRequest.Statement (.serviceHoldBarrierLeave tag) := by
  intro _ f hf
  cases hf
  exact ⟨by decide, by decide⟩

theorem FrameCarriesRequest.serviceHoldReaderEnter (tag : Byte) (side : Side) :
    FrameCarriesRequest.Statement (.serviceHoldReaderEnter tag side) := by
  intro _ f hf
  cases side <;> cases hf <;> exact ⟨by decide, by decide⟩

theorem FrameCarriesRequest.serviceHoldReaderLeave (tag : Byte) (side : Side) :
    FrameCarriesRequest.Statement (.serviceHoldReaderLeave tag side) := by
  intro _ f hf
  cases side <;> cases hf <;> exact ⟨by decide, by decide⟩

theorem FrameCarriesRequest.refusalTimerExpiry (side : Side) :
    FrameCarriesRequest.Statement (.refusalTimerExpiry side) :=
  frameCarriesRequest_of_none rfl

theorem FrameCarriesRequest.setLampPriority (tag : Byte) (order : List Nat) :
    FrameCarriesRequest.Statement (.setLampPriority tag order) := by
  intro h f hf
  cases hf
  simp only [Instr.wellFormed, Bool.and_eq_true, decide_eq_true_eq] at h
  refine ⟨by simp [codeBytes, h.1], ?_⟩
  simp [judgeFrame, isRequestKind, lengthAllowed, requestOf, codeBytes, h.1]
  exact byteNumbers_codeBytes h.2

theorem FrameCarriesRequest.journalRead (tag : Byte) (start count : Nat) :
    FrameCarriesRequest.Statement (.journalRead tag start count) := by
  intro h f hf
  cases hf
  simp [Instr.wellFormed, fitsBytes] at h
  refine ⟨by simp, ?_⟩
  simp [judgeFrame, isRequestKind, lengthAllowed, requestOf, fieldAt_first, fieldAt_alone, fieldAt_behind, beBytes_length, h]

theorem FrameCarriesRequest.journalRelease (tag : Byte) (seq : Nat) :
    FrameCarriesRequest.Statement (.journalRelease tag seq) := by
  intro h f hf
  cases hf
  simp [Instr.wellFormed, fitsBytes] at h
  refine ⟨by simp, ?_⟩
  simp [judgeFrame, isRequestKind, lengthAllowed, requestOf, fieldAt_alone, h]

theorem FrameCarriesRequest.rxByte (byte : Byte) (stopBit : Bool) :
    FrameCarriesRequest.Statement (.rxByte byte stopBit) :=
  frameCarriesRequest_of_none rfl

theorem FrameCarriesRequest.gapTimerExpiry :
    FrameCarriesRequest.Statement (.gapTimerExpiry) :=
  frameCarriesRequest_of_none rfl

theorem FrameCarriesRequest.unknownKind (tag : Byte) (kind : Byte) :
    FrameCarriesRequest.Statement (.unknownKind tag kind) := by
  intro h f hf
  cases hf
  simp only [Instr.wellFormed, Bool.not_eq_true'] at h
  simp [judgeFrame, h]

theorem FrameCarriesRequest.badLength (tag : Byte) (kind : Byte) :
    FrameCarriesRequest.Statement (.badLength tag kind) :=
  frameCarriesRequest_of_none rfl

theorem FrameCarriesRequest.frameSent :
    FrameCarriesRequest.Statement (.frameSent) :=
  frameCarriesRequest_of_none rfl

theorem FrameCarriesRequest.setNoticeMask (tag : Byte) (masks : List Nat) :
    FrameCarriesRequest.Statement (.setNoticeMask tag masks) := by
  intro h f hf
  cases hf
  simp only [Instr.wellFormed, Bool.and_eq_true, decide_eq_true_eq] at h
  refine ⟨by simp [codeBytes, h.1], ?_⟩
  simp [judgeFrame, isRequestKind, lengthAllowed, requestOf, codeBytes, h.1]
  exact byteNumbers_codeBytes h.2

theorem FrameCarriesRequest.getStatus (tag : Byte) (part : Nat) :
    FrameCarriesRequest.Statement (.getStatus tag part) := by
  intro h f hf
  cases hf
  simp [Instr.wellFormed, fitsBytes] at h
  refine ⟨by simp, ?_⟩
  simp [judgeFrame, isRequestKind, lengthAllowed, requestOf, fieldAt_alone, h]

theorem FrameCarriesRequest.setIdentity (tag : Byte) (station gate : Nat) :
    FrameCarriesRequest.Statement (.setIdentity tag station gate) := by
  intro h f hf
  cases hf
  simp [Instr.wellFormed, fitsBytes] at h
  refine ⟨by simp, ?_⟩
  simp [judgeFrame, isRequestKind, lengthAllowed, requestOf, fieldAt_first, fieldAt_alone, fieldAt_behind, beBytes_length, h]

theorem FrameCarriesRequest.restart (tag : Byte) :
    FrameCarriesRequest.Statement (.restart tag) := by
  intro _ f hf
  cases hf
  exact ⟨by decide, by decide⟩

theorem FrameCarriesRequest.backupSupplyFailure :
    FrameCarriesRequest.Statement (.backupSupplyFailure) :=
  frameCarriesRequest_of_none rfl

end Sys2Proof.Laws
end

