-- ==== Sys2Proof/Laws/Requests.lean ====
section
/-! SUPPORT. The host port's queue and transmitter: what each owner leaves of the port, and one lemma that says once what a request does at a port that is ready. -/

namespace Sys2Proof.Machine

/-! The transmitter. -/

@[simp] theorem Port.pump_requests (p : Port) : p.pump.requests = p.requests := by
  unfold Port.pump; (repeat' split) <;> simp

@[simp] theorem Port.pump_headTaken (p : Port) : p.pump.headTaken = p.headTaken := by
  unfold Port.pump; (repeat' split) <;> simp

@[simp] theorem Port.pump_masked (p : Port) : p.pump.masked = p.masked := by
  unfold Port.pump; (repeat' split) <;> simp

@[simp] theorem Port.pump_identity (p : Port) : p.pump.station = p.station ∧ p.pump.gateNo = p.gateNo := by
  unfold Port.pump; (repeat' split) <;> simp

@[simp] theorem Port.pump_receiver (p : Port) : p.pump.receiver = p.receiver ∧ p.pump.gap = p.gap := by
  unfold Port.pump; (repeat' split) <;> simp

/-- The transmitter begins one frame and no second one while that is on the line. -/
@[simp] theorem Port.pump_pump (p : Port) : p.pump.pump = p.pump := by
  unfold Port.pump; (repeat' split) <;> simp_all

theorem Port.pump_outgoing_le (p : Port) : p.pump.outgoing.length ≤ p.outgoing.length := by
  unfold Port.pump; (repeat' split) <;> simp_all

/-- A reply that begins to leave is still the same RESTART on its way. -/
@[simp] theorem Port.pump_restarting (p : Port) : p.pump.restarting = p.restarting := by
  unfold Port.pump Port.restarting
  (repeat' split) <;> simp_all [LineFrame.isRestart]
  cases Reply.isRestart _ <;> simp

/-- The transmitter does not look at the request queue. -/
theorem Port.pump_withRequests (p : Port) (q : List Queued) (b : Bool) :
    ({ p with requests := q, headTaken := b } : Port).pump = { p.pump with requests := q, headTaken := b } := by
  unfold Port.pump; (repeat' split) <;> simp_all

/-! What an owner leaves of the port. -/

/-- The requests and the frames that wait for the line, and the queue of commands, are the same. -/
def State.SameFrames (s t : State) : Prop :=
  t.port.requests = s.port.requests ∧ t.port.headTaken = s.port.headTaken ∧ t.port.outgoing = s.port.outgoing ∧
    t.port.line = s.port.line ∧ t.port.rejection = s.port.rejection ∧ t.pending = s.pending

theorem State.SameFrames.refl (s : State) : s.SameFrames s :=
  ⟨rfl, rfl, rfl, rfl, rfl, rfl⟩

theorem State.SameFrames.trans {s t u : State} (h : s.SameFrames t) (k : t.SameFrames u) : s.SameFrames u := by
  obtain ⟨a, b, c, d, e, f⟩ := h
  obtain ⟨a', b', c', d', e', f'⟩ := k
  exact ⟨a'.trans a, b'.trans b, c'.trans c, d'.trans d, e'.trans e, f'.trans f⟩

theorem State.sameFrames_ite {c : Prop} [Decidable c] {s : State} {x y : State × Answer} (hx : s.SameFrames x.1)
    (hy : s.SameFrames y.1) : s.SameFrames (if c then x else y).1 := by
  split <;> assumption

@[simp] theorem State.ok_fst (s : State) (f : List Byte) : (s.ok f).1 = s := rfl

@[simp] theorem State.no_fst (s : State) (r : Result) : (s.no r).1 = s := rfl

theorem State.setParameter_frames (s : State) (a b c : Nat) : s.SameFrames (s.setParameter a b c).1 := by
  unfold State.setParameter State.setDebounce State.setActiveLevel
  repeat' apply State.sameFrames_ite
  all_goals first | exact .refl _ | (split <;> exact .refl _)

theorem State.unmaskFrom_frames (s : State) (o : PerClass Bool) (c : NoticeClass) : s.SameFrames (s.unmaskFrom o c) := by
  unfold State.unmaskFrom State.unmask; (repeat' split) <;> simp [State.SameFrames]

theorem State.setNoticeMask_frames (s : State) (l : List Nat) : s.SameFrames (s.setNoticeMask l).1 := by
  unfold State.setNoticeMask
  split
  · exact .refl _
  · refine .trans ?_ (State.unmaskFrom_frames _ _ _)
    refine .trans ?_ (State.unmaskFrom_frames _ _ _)
    refine .trans ?_ (State.unmaskFrom_frames _ _ _)
    exact .trans (t := { s with port := { s.port with masked := _ } }) (.refl _) (State.unmaskFrom_frames _ _ _)

/-- Whatever the request, its owner leaves the queue and the waiting frames as they are. -/
theorem State.carry_frames (s : State) (r : Request) : s.SameFrames (s.carry r).1 := by
  cases r with
  | setParameter a b c => exact s.setParameter_frames a b c
  | setNoticeMask l => exact s.setNoticeMask_frames l
  | _ =>
    simp only [State.carry, answered]
    first
      | exact .refl _
      | (simp [State.SameFrames]; done)
      | (simp only [State.setIdentity, State.setAisleMode, State.gateCommand, State.commandFreeOpen, State.commandResume,
          State.commandGrant, State.commandCancel, State.setFaultResponse, State.setResponse, State.setLampPriority,
          State.setDirectionTable, State.tariffLoad, State.tariffActivate, State.tariffDiscard, State.keyLoad, State.keyErase,
          State.denylistUpdate, State.denylistBegin, State.denylistPage, State.denylistEnd, State.holdRelease, State.sightingRequest,
          State.setScreen, State.setStandby, State.setKey]
         (repeat' split) <;> simp [State.SameFrames])

/-! A request at a ready port. -/

theorem State.settlePort_empty (s : State) (n : Nat) (h : s.port.requests = []) : s.settlePort n = s.pump := by
  cases n <;> simp [State.settlePort, State.pump, Port.servable, h]

theorem State.settlePort_taken (s : State) (n : Nat) (h : s.port.headTaken = true) : s.settlePort n = s.pump := by
  cases n <;> simp [State.settlePort, State.pump, Port.servable, h]

/-- A request that arrives at a ready port is handed to its owner at once, and its reply follows. -/
theorem State.request_ready (s : State) (tag : Byte) (r : Request) (h : s.port.ready) :
    s.request tag r =
      match ({ s with port := { s.port.pump with requests := [{ tag := tag, request := r.judged }], headTaken := false } } : State).carry
          r.judged with
      | (t, some a) =>
        { t with
          port := ({ t.port with
            outgoing := t.port.outgoing ++ [r.judged.reply tag a.result a.fields], requests := [], headTaken := false } : Port).pump }
      | (t, none) => { t with port := ({ t.port with headTaken := true } : Port).pump } := by
  obtain ⟨hr, ht, ho, hs⟩ := h
  have ho' := Nat.lt_of_le_of_lt s.port.pump_outgoing_le ho
  have e : ({ s with port := s.port.arrive tag r.judged } : State).pump =
      { s with port := { s.port.pump with requests := [{ tag := tag, request := r.judged }], headTaken := false } } := by
    simp only [Port.arrive, hr, State.pump]
    rw [if_pos (by decide)]
    have := Port.pump_withRequests s.port [{ tag := tag, request := r.judged }] false
    rw [← ht] at this ⊢
    simpa using this
  rw [State.request, portTurns, State.settlePort, e]
  have hv : ({ s.port.pump with requests := [{ tag := tag, request := r.judged }], headTaken := false } : Port).servable =
      some { tag := tag, request := r.judged } := by
    have h1 : ({ s.port.pump with requests := [{ tag := tag, request := r.judged }], headTaken := false } : Port).restarting = false := by
      rw [← hs, ← s.port.pump_restarting]; rfl
    simp only [Port.servable, h1]
    simp [ho']
  simp only [hv, State.serve]
  have hc := State.carry_frames
    ({ s with port := { s.port.pump with requests := [{ tag := tag, request := r.judged }], headTaken := false } } : State) r.judged
  obtain ⟨h1, -⟩ := hc
  revert h1
  rcases State.carry _ r.judged with ⟨t, _ | a⟩ <;> intro h1
  · simp only
    rw [State.settlePort_taken _ _ rfl]; rfl
  · have h2 : t.port.requests.drop 1 = [] := by
      have : t.port.requests = [{ tag := tag, request := r.judged }] := h1
      rw [this]; rfl
    simp only
    rw [State.settlePort_empty]
    · simp only [State.replyHead, Port.replyHead, State.pump, h2]
    · exact h2

/-- The state in which a request that arrives at a ready port finds its owner. -/
def State.atOwner (s : State) (tag : Byte) (r : Request) : State :=
  { s with port := { s.port.pump with requests := [{ tag := tag, request := r.judged }], headTaken := false } }

/-- A request whose owner changes nothing of the port: the owner's change, and the reply. -/
theorem State.request_answered {s v : State} {tag : Byte} {r : Request} {a : Answer} (h : s.port.ready)
    (hc : (s.atOwner tag r).carry r.judged = (v, some a)) (hp : v.port = (s.atOwner tag r).port) :
    s.request tag r = { v with port := s.port.answer (r.judged.reply tag a.result a.fields) } := by
  rw [State.request_ready s tag r h]
  simp only [State.atOwner] at hc hp
  simp only [hc, hp, Port.answer]
  have h1 : s.port.pump = { s.port.pump with requests := [], headTaken := false } := by
    have := s.port.pump_requests; have := s.port.pump_headTaken; have h2 := h.1; have h3 := h.2.1
    cases hq : s.port.pump; simp_all
  rw [h1]

end Sys2Proof.Machine
end

