-- ==== Sys2Proof/Tests/Slice0.lean ====
section
/-! SUPPORT. Tests: the ill-formed commands that WellFormed refuses, single steps with results worked out from the rules, and a state with operands that meet the hypotheses of every statement that has some. -/

namespace Sys2Proof.Tests

open Sys2Proof.Machine

/-! WellFormed: one ill-formed command for each check. -/

theorem test_wf_tariff_load : (Instr.tariffLoad 0 256 (List.replicate 35 0)).wellFormed = false ∧
    (Instr.tariffLoad 0 2 (List.replicate 34 0)).wellFormed = false := by decide
theorem test_wf_tariff_activate : (Instr.tariffActivate 0 65536 0).wellFormed = false ∧
    (Instr.tariffActivate 0 0 65536).wellFormed = false := by decide
theorem test_wf_key : (Instr.keyLoad 0 256 0).wellFormed = false ∧ (Instr.keyErase 0 256).wellFormed = false := by decide
theorem test_wf_set_clock : ∀ d ∈ ([⟨65536, 1, 1, 0, 0, 0⟩, ⟨2000, 256, 1, 0, 0, 0⟩, ⟨2000, 1, 256, 0, 0, 0⟩, ⟨2000, 1, 1, 256, 0, 0⟩,
    ⟨2000, 1, 1, 0, 256, 0⟩, ⟨2000, 1, 1, 0, 0, 256⟩] : List DateTime), (Instr.setClock 0 d 0).wellFormed = false := by decide
theorem test_wf_set_clock_force : (Instr.setClock 0 ⟨2000, 1, 1, 0, 0, 0⟩ 256).wellFormed = false := by decide
theorem test_wf_station_free_period : (Instr.stationFreePeriod 0 4294967296 0).wellFormed = false ∧
    (Instr.stationFreePeriod 0 0 4294967296).wellFormed = false := by decide
theorem test_wf_hold_list_read : (Instr.holdListRead 0 256).wellFormed = false := by decide
theorem test_wf_denylist_begin : (Instr.denylistBegin 0 65536).wellFormed = false := by decide
theorem test_wf_denylist_page : (Instr.denylistPage 0 (List.replicate 86 1)).wellFormed = false := by decide
theorem test_wf_sighting : ∀ f ∈ ([⟨1, 16777216, 0, 1, 0, 0, 0, 0⟩, ⟨1, 0, 2147483648, 1, 0, 0, 0, 0⟩, ⟨1, 0, -2147483649, 1, 0, 0, 0, 0⟩,
    ⟨1, 0, 0, 256, 0, 0, 0, 0⟩, ⟨1, 0, 0, 1, 4294967296, 0, 0, 0⟩, ⟨1, 0, 0, 1, 0, 256, 0, 0⟩, ⟨1, 0, 0, 1, 0, 0, 256, 0⟩,
    ⟨1, 0, 0, 1, 0, 0, 0, 256⟩] : List SightingFields), (Instr.sighting 0 f).wellFormed = false := by decide
theorem test_wf_debounce : (Instr.debounceExpiry (.zones false false false)).wellFormed = false := by decide
theorem test_wf_set_parameter : (Instr.setParameter 0 256 0 0).wellFormed = false ∧
    (Instr.setParameter 0 1 256 0).wellFormed = false ∧ (Instr.setParameter 0 1 0 4294967296).wellFormed = false := by decide
theorem test_wf_set_aisle_mode : (Instr.setAisleMode 0 256).wellFormed = false := by decide
theorem test_wf_direction_table : (Instr.setDirectionTable 0 (List.replicate 15 1)).wellFormed = false ∧
    (Instr.setDirectionTable 0 (List.replicate 16 256)).wellFormed = false := by decide
theorem test_wf_fault_response : (Instr.setFaultResponse 0 256 1).wellFormed = false ∧
    (Instr.setFaultResponse 0 1 256).wellFormed = false ∧ (Instr.clearFault 0 256).wellFormed = false := by decide
theorem test_wf_lamp_priority : (Instr.setLampPriority 0 [1, 2, 3, 4, 5, 6]).wellFormed = false ∧
    (Instr.setLampPriority 0 [1, 2, 3, 4, 5, 6, 256]).wellFormed = false := by decide
theorem test_wf_journal : (Instr.journalRead 0 4294967296 1).wellFormed = false ∧ (Instr.journalRead 0 1 256).wellFormed = false ∧
    (Instr.journalRelease 0 4294967296).wellFormed = false := by decide
theorem test_wf_kinds : (Instr.unknownKind 0 0x1F).wellFormed = false ∧ (Instr.badLength 0 0x20).wellFormed = false := by decide
theorem test_wf_notice_mask : (Instr.setNoticeMask 0 [0, 0, 0, 0, 0, 0]).wellFormed = false ∧
    (Instr.setNoticeMask 0 [0, 0, 0, 0, 0, 0, 256]).wellFormed = false := by decide
theorem test_wf_status_and_identity : (Instr.getStatus 0 256).wellFormed = false ∧ (Instr.setIdentity 0 256 0).wellFormed = false ∧
    (Instr.setIdentity 0 0 256).wellFormed = false := by decide

/-! The state after reset, the starts and the calendar. -/

/-- The commands carry no bits, so that no word spells one. -/
theorem test_no_word : decodeTableWord 8 0x5C = none ∧ (State.reset.withFetchWord 8 0x5C).pending = [] := by decide
/-- R173: 0x1021, initial value 0xFFFF, not reflected, no inversion; the check value of that CRC for the digits 1 to 9 is 0x29B1. -/
theorem test_crc : crc16 [0x31, 0x32, 0x33, 0x34, 0x35, 0x36, 0x37, 0x38, 0x39] = 0x29B1#16 := by decide +kernel
/-- R86: the seconds from 1 January 2000 to 1 March 2000, with 29 February 2000, are 60 days. -/
theorem test_leap_day : (⟨2000, 3, 1, 0, 0, 0⟩ : DateTime).toSecond = 60 * 86400 := by decide
/-- R85, R87: the last second of 2099 is 3,155,759,999. -/
theorem test_last_second : (⟨2099, 12, 31, 23, 59, 59⟩ : DateTime).toSecond = 3155759999 ∧
    (⟨2000, 2, 30, 0, 0, 0⟩ : DateTime).isValid = false ∧ (⟨2000, 2, 29, 0, 0, 0⟩ : DateTime).isValid = true := by decide

/-- §4.7: 14 March 2025, 08:12:00, is network second 795,255,120; 29 February 2025 does not exist; the three instants of the table with the
service-day boundary at minute 240. -/
theorem test_calendar_example : (⟨2025, 3, 14, 8, 12, 0⟩ : DateTime).toSecond = 795255120 ∧
    (⟨2025, 2, 29, 12, 0, 0⟩ : DateTime).isValid = false ∧ (⟨2024, 2, 29, 12, 0, 0⟩ : DateTime).isValid = true ∧
    serviceDay 240 13254252 = 9204 ∧ serviceDay 240 13255240 = 9204 ∧ serviceDay 240 13255440 = 9205 ∧
    weekday 9204 = 4 ∧ dayTypeOf [] 9205 = .saturday ∧ dayTypeOf [] 9206 = .sundayHoliday ∧ dayTypeOf [9204] 9204 = .sundayHoliday := by
  decide
/-- §3.2: fares of the table of R55, and those of the worked journeys. -/
theorem test_fare_example : journeyFare 230 1250 40 10 = 170 ∧ journeyFare 330 1250 40 10 = 250 ∧ journeyFare 330 1250 40 1 = 248 ∧
    journeyFare 330 1250 0 50 = 400 ∧ journeyFare 330 1000 40 10 = 200 := by decide
/-- §6.4: the rows of the worked sequence in which the follower enters behind (4), the person ahead leaves with and without ZM clear (7 and 8),
and the follower leaves (12). -/
theorem test_tracker_example :
    (⟨.a2, false, false, false, ⟨false, true, false⟩⟩ : Tracker).patternChange ⟨true, true, false⟩ =
      (⟨.a2, false, true, false, ⟨true, true, false⟩⟩, []) ∧
    (⟨.a3, false, true, false, ⟨true, false, true⟩⟩ : Tracker).patternChange ⟨true, false, false⟩ =
      (⟨.a1, false, false, true, ⟨true, false, false⟩⟩, [.passage .a false true]) ∧
    (⟨.a3, false, true, false, ⟨false, true, true⟩⟩ : Tracker).patternChange ⟨false, true, false⟩ =
      (⟨.a2, false, true, false, ⟨false, true, false⟩⟩, []) ∧
    (⟨.a3, false, false, true, ⟨false, false, true⟩⟩ : Tracker).patternChange ⟨false, false, false⟩ =
      (⟨.empty, false, false, false, ⟨false, false, false⟩⟩, [.passage .a true false]) := by decide

/-! States for the hypotheses of the statements. -/

/-- A card record with a journey begun at network minute 1666. -/
def record (counter : Nat) : CardRecord :=
  { counter := counter, purse := 1000, journey := .opened, origin := 0, start := 1666, paid := 0, legs := 1, lastStation := 0,
    lastKind := .entry, lastMinute := 1666, capDay := 1, capAcc := 0, code := 0 }

/-- A tariff in which every station lies in zone 1 or 2. -/
def bank (version : Nat) : Bank :=
  { stations := some (1 :: 2 :: List.replicate 254 0), bands := some { fares := List.replicate 16 200, peak := 1000, offPeak := 800, unit := 10 }
    peaks := some { weekday := [(420, 600)], saturday := [], sundayHoliday := [] }
    profiles := some (List.replicate 8 { discount := 0, cap := 500, entryMinimum := 0 })
    rules :=
      some { transferWindow := 60, reentryGrace := 600, sameStationWindow := 10, sameStationCharge := 50, incompleteCharge := 300
             unenteredCharge := 300, freeExitWindow := 30, overdraft := 100, boundary := 180 }
    holidays := some [], products := some (List.replicate 32 (.storedValue, 0)), version := some version, valid := true }

/-- The static area of a card whose check code is 0. -/
def area : StaticArea :=
  { cardId := 7, issuer := 0, keyVersion := 0, productCode := 0, passFrom := 0, passTo := 0, zoneLow := 0, zoneHigh := 0, code := 0 }

/-- A transaction whose card has been read. -/
def tap : Transaction :=
  { card := 7, instant := 100000, tariff := 1, keys := some (some 0 :: List.replicate 7 none)
    mark := some { arrival := 0, afterSwap := false }, journalHeld := true, area := some area, blocked := false
    slot0 := some (record 5).toRaw, slot1 := some (record 4).toRaw, current := some .zero, product := some (.storedValue, 0)
    attached := none, intended := none, fare := none, verdict := none, guard := some 400, waitsForSwap := false }

/-- A gate that serves both directions, its barrier CLOSED and its clock at second 100,000. -/
def serving : State :=
  { State.reset with
    tariff := { State.reset.tariff with active := bank 1, clock := some 100000, keys := some 0 :: List.replicate 7 none }
    gate := { State.reset.gate with barrier := .closed, travel := none, mode := .bidirectional }
    sup := { State.reset.sup with conds := { State.reset.sup.conds with clock := .clear, tariff := .clear } }
    journal := { State.reset.journal with reserved := 1 } }

/-- A reader side with a link state and the frame that waits for its answer. -/
def side (link : LinkState) (frame : Option LinkFrame) (attempt : Nat) : Reader :=
  { Reader.atStart with
    link := link, settle := none, idle := some 30000, claimed := some 7
    exchange := frame.map fun f => { frame := f, attempt := attempt, answer := some 0 } }

/-- A reader side that searches, with a hail window. -/
def hearing (ids : List CardId) (garbled : Bool) (hold : Option SameCardHold) : Reader :=
  { Reader.atStart with
    link := .searching, settle := none, idle := some 30000, summons := some 0, hold := hold
    window := some { ids := ids, garbled := garbled, timer := 0 } }

/-- The serving gate with side A's reader and context set. -/
def atA (r : Reader) (state : CtxState) (tx : Option Transaction) : State :=
  { serving with readers := { serving.readers with a := r }, ctxs := { serving.ctxs with a := { state := state, tx := tx } } }

/-- A state with another gate. -/
def withGate (s : State) (f : Gate → Gate) : State := { s with gate := f s.gate }

/-- A state with another screening unit. -/
def withScreen (s : State) (f : Screen → Screen) : State := { s with screen := f s.screen }

/-- A state with another supervision. -/
def withSup (s : State) (f : Supervision → Supervision) : State := { s with sup := f s.sup }

/-- A state with another host port. -/
def withPort (s : State) (f : Port → Port) : State := { s with port := f s.port }

/-- A state with another raw level and a debounce timer that runs at one input. -/
def settling (s : State) (i : Input) (high filtered : Bool) : State :=
  { s with
    aisle := { s.aisle with
      pins := s.aisle.pins.set i high, filters := s.aisle.filters.set i { filtered := filtered, debounce := some 0 } } }

theorem ready_reset : State.reset.port.ready := by
  unfold Port.ready
  decide

/-- A card authorisation for card 7. -/
def auth : Auth := { origin := .card, card := some 7, seq := some 3, granted := some 100000, deadline := some 0 }

/-- A card sighting of card 7. -/
def seen (counter : Nat) (passage : PassageState) : Sighting :=
  { card := 7, counter := counter, purse := 1000, alternate := none, kind := .entry, second := 99960, station := 0, gate := 0
    source := .local, passage := passage, conflict := false, joined := 0 }

/-- A fare record of card 7. -/
def fare : FareRecord :=
  { kind := .entry, charge := 0, counterBefore := 5, counterAfter := 6, purseAfter := 1000, tariff := 1, origin := 0, station := 0
    profile := 0, card := 7, side := .a, instant := 100000 }

/-- An in-doubt entry of card 7. -/
def doubt (attached : Bool) : InDoubt :=
  { card := 7, side := .a, oldCounter := 5, target := .one, record := record 6, fare := fare, tariff := 1, deadline := some 0
    passed := false, attached := attached }

/-! The hypotheses of the statements, met. -/

theorem test_met_StepRunsFront : { State.reset with pending := [.powerOn] }.pending = .powerOn :: [] := rfl
theorem test_met_IdleStep : State.reset.pending = [] ∧ State.reset.due = none ∧
    (withGate State.reset fun g => { g with travel := some 0 }).due = some .travelTimerExpiry := by decide
theorem test_met_ColdStart : { State.reset with markerValid := false }.markerValid = false ∧
    State.reset.aisle.pins = State.reset.aisle.pins ∧ State.reset.readers.a.carrier = true ∧ State.reset.readers.b.carrier = true :=
  ⟨rfl, rfl, rfl, rfl⟩
/-- A free period of this gate's own that has no end (R90). -/
def unended : FreePeriod := { start := 1700, stop := none, origin := .local }
theorem test_met_WarmStart : State.reset.markerValid = true ∧
    (Instr.supplyDip, StartCause.supplyDip) ∈ [(Instr.powerOn, StartCause.powerOn), (.resetPin, .resetPin), (.supplyDip, .supplyDip)] ∧
    State.reset.doubt.entries.length < 2048 - State.reset.journal.records.length ∧ serving.tariff.clock = some 100000 ∧
    State.reset.tariff.clock = none ∧ (unended.origin = .local ∧ unended.stop = none) :=
  ⟨rfl, by decide, by decide, rfl, rfl, rfl, rfl⟩
/-- The drive-fault line ACTIVE at a start, with either response; and the levels of a start that finds the barrier CLOSED. -/
theorem test_met_WarmStart_barrier :
    (let level (p : State) (i : Input) : Bool := p.aisle.pins.get i == (p.aisle.params.get i).activeHigh
     let high (i : Input) : State :=
       { State.reset with
         aisle := { State.reset.aisle with pins := State.reset.aisle.pins.set i (State.reset.aisle.params.get i).activeHigh } }
     level (high .driveFault) .driveFault = true ∧ level State.reset .driveFault = false ∧ level (high .emergency) .emergency = true ∧
     (level (high .closedLimit) .closedLimit && !level (high .closedLimit) .openLimit) = true ∧ level (high .zm) .zm = true) ∧
    State.reset.sup.barrierResponse = .failClosed ∧
    (withSup State.reset fun u => { u with barrierResponse := .failFree }).sup.barrierResponse = .failFree := by decide
/-- R90: a warm start at second 100,000, network minute 1666, ends a free period that began at minute 1700 at its start. -/
theorem test_warm_start_ends_period : ∃ t, exec .resetPin { serving with tariff := { serving.tariff with period := some unended } } =
    .next t ∧ t.tariff.period = some { unended with stop := some 1700 } :=
  ⟨_, rfl, by decide +kernel⟩
theorem test_met_SideTimers : (State.reset.reader .a).settle.isSome ∧
    (let r := { side .searching none 1 with summons := some 0 }
     r.summons.isSome ∧ r.link = .searching ∧ r.holdoff = none) ∧
    { side .searching none 1 with summons := some 0, holdoff := some 0 }.holdoff.isSome ∧ (side .searching none 1).idle.isSome := by decide
theorem test_met_HailWindowJudged :
    ((atA (hearing [] false none) .polling none).reader .a).window = some { ids := [], garbled := false, timer := 0 } ∧
    (∃ x ∈ ([7, 8] : List CardId), ∃ y ∈ ([7, 8] : List CardId), x ≠ y) ∧
    ((atA (hearing [7, 8] false none) .polling none).ctx .a).state = .polling ∧ (∀ x ∈ ([7] : List CardId), x = 7) ∧
    (hearing [7] false (some { card := 7, absence := 1 })).hold = some { card := 7, absence := 1 } :=
  ⟨rfl, ⟨7, by simp, 8, by simp, by decide⟩, rfl, by simp, rfl⟩
theorem test_met_HailWindowJudged_stray : (hearing [7] false none).window = some { ids := [7], garbled := false, timer := 0 } ∧
    (hearing [7] false none).exchange = none := by decide
theorem test_met_PreClaimChecks : (atA (hearing [7] false none) .polling none).hears .a 7 :=
  ⟨⟨{ ids := [7], garbled := false, timer := 0 }, rfl, rfl, by simp, by simp⟩, (by intro h hh; cases hh), rfl⟩
theorem test_met_JournalKeepsReserve_start : ∃ t, exec (.hailWindowClose .a) (atA (hearing [7] false none) .polling none) = .next t ∧
    (t.ctx .a).state = .claiming :=
  ⟨_, rfl, by decide +kernel⟩
/-- A journal with `n` records. -/
def filled (n reserved : Nat) : State :=
  { serving with
    journal := { State.reset.journal with
      records := List.replicate n { seq := 7, second := none, side := none, body := .journalStart }, reserved := reserved } }
theorem test_met_JournalKeepsReserve : 2048 - (filled 2047 1).journal.records.length ≤ (filled 2047 1).journal.reserved ∧
    (filled 1791 1).journal.reserved < 2048 - (filled 1791 1).journal.records.length ∧ 2048 - (1791 + 1) = 256 ∧ 2048 - (2031 + 1) = 16 ∧
    (filled 2031 1).sup.conds.journal = .clear ∧ (filled 2031 1).tariff.clock = some 100000 := by
  refine ⟨?_, ?_, rfl, rfl, rfl, rfl⟩ <;> simp only [filled, serving, List.length_replicate] <;> decide
/-- R169: the append that takes free entries from 257 to 256 queues JOURNAL_LOW and disarms the notice. -/
theorem test_journal_low : ((filled 1791 1).appendUnreserved none .journalStart).journal.armed = false ∧
    ((filled 1791 1).appendUnreserved none .journalStart).port.notices.getLast? =
      some (.journalLow { free := 256, reserved := 1, oldest := some 7, newest := some 4 }) := by decide +kernel

theorem test_met_CarrierLostAndBack :
    (let s := atA (side .bound (some (.claim 7)) 1) .claiming (some tap)
     (s.reader .a).carrier = true ∧ (s.reader .a).exchange.isSome ∧ (s.ctx .a).state = .claiming ∧ (s.ctx .a).tx.isSome) ∧
    { side .down none 1 with carrier := false }.carrier = false := by decide
theorem test_met_ClaimAndFetch : (side .bound (some (.claim 7)) 1).exchange = some { frame := .claim 7, attempt := 1, answer := some 0 } ∧
    (side .bound (some (.fetch false .zero)) 1).link = .bound := by decide
theorem test_met_CardChecks_no_key : { tap with keys := some (List.replicate 8 none) }.key = none ∧
    { tap with keys := some (List.replicate 8 none) }.area = some area ∧ tap.attached = none := by decide

/-- The card of the checks: a slot of `tap`, with a purse and with the check code that its key computes. -/
def genuine (counter : Nat) (purse : Int) : CardRecord :=
  { record counter with purse := purse, code := Config.checkFn 0 7 { record counter with purse := purse }.protectedBytes }

theorem genuine_verified (counter : Nat) (purse : Int) (h : counter ≤ 16777215) (hp : purse = 1000 ∨ purse = 900) :
    verifiedSlot 0 7 (some (genuine counter purse).toRaw) = some (genuine counter purse) := by
  have hd : (genuine counter purse).toRaw.decode = some (genuine counter purse) := by
    rcases hp with rfl | rfl <;>
      simp [RawRecord.decode, CardRecord.toRaw, genuine, record, journeyOfCode, tapKindOfCode, JourneyState.code, TapKind.code,
        CardRecord.inRange, Nat.mod_eq_of_lt (show counter < 16777216 by omega), h]
  have hp : (genuine counter purse).protectedBytes = { record counter with purse := purse }.protectedBytes := rfl
  rw [verifiedSlot, Option.bind_some, hd]
  exact if_pos (by rw [hp]; rfl)

theorem test_met_CardChecks_code : ∃ code, Config.checkFn 0 7 area.protectedBytes ≠ code ∧ tap.key = some 0 :=
  ⟨Config.checkFn 0 7 area.protectedBytes + 1, by simp, by decide⟩
theorem test_met_CardChecks_slots : verifiedSlot 0 7 none = none := rfl
theorem test_met_CardChecks_current :
    chooseSlot (verifiedSlot 0 7 (some (genuine 5 1000).toRaw)) (verifiedSlot 0 7 (some (genuine 4 1000).toRaw)) =
      .current .zero (genuine 5 1000) := by
  rw [genuine_verified 5 1000 (by decide) (by decide), genuine_verified 4 1000 (by decide) (by decide)]
  rfl
theorem test_met_CardChecks_conflict :
    chooseSlot (verifiedSlot 0 7 (some (genuine 5 1000).toRaw)) (verifiedSlot 0 7 (some (genuine 5 900).toRaw)) = .conflict ∧
    State.reset.screen.capture = false ∧ (withScreen serving fun c => { c with capture := true }).screen.capture = true := by
  refine ⟨?_, rfl, rfl⟩
  rw [genuine_verified 5 1000 (by decide) (by decide), genuine_verified 5 900 (by decide) (by decide)]
  simp [chooseSlot, genuine, record]
theorem test_met_CardChecks_product : (serving.bankOf 1).productFor 31 = (.storedValue, 0) ∧
    (serving.bankOf 1).productFor 32 = (.unmapped, 0) ∧ (∀ d ∈ serving.doubt.entries, d.card ≠ tap.card) ∧
    (withGate serving fun g => { g with mode := .entryOnly }).gate.mode = .entryOnly := by decide
theorem test_met_SlotAndCounterRules : (record 5).counter > (record 4).counter ∧ record 5 = record 5 ∧
    ((record 5).counter = { record 5 with purse := 0 }.counter ∧ record 5 ≠ { record 5 with purse := 0 }) := by decide
/-- R19, R96, R117: a slot that verifies, a hold-until one second after the instant and at it, and the ends of the re-entry grace. -/
theorem test_met_SlotAndCounterRules_figures :
    verifiedSlot 0 7 (some (genuine 5 1000).toRaw) = some (genuine 5 1000) ∧
    (withScreen serving fun c => { c with holds := [{ card := 7, until_ := 100001, joined := 0 }] }).screen.isHeld 7 100000 = true ∧
    (withScreen serving fun c => { c with holds := [{ card := 7, until_ := 100001, joined := 0 }] }).screen.isHeld 7 100001 = false ∧
    isReentry .entry (record 5) 0 99960 600 = true ∧ isReentry .entry (record 5) 0 99959 600 = false ∧
    isReentry .entry (record 5) 0 100560 600 = true ∧ isReentry .entry (record 5) 0 100561 600 = false :=
  ⟨genuine_verified 5 1000 (by decide) (by decide), by decide⟩
theorem test_met_AnswersAndGuard :
    (let r := side .bound (some (.fetch false .zero)) 2
     r.window = none ∧ r.exchange = some { frame := .fetch false .zero, attempt := 2, answer := some 0 }) ∧
    (let s := atA (side .bound (some (.fetch true .one)) 3) .reading (some tap)
     (s.reader .a).link = .bound ∧ (s.ctx .a).tx = some tap ∧ tap.attached = none ∧ (s.ctx .a).state = .reading) := by decide
theorem test_ignored_answer : ∀ e turn' no', (side .bound (some (.fetch false .zero)) 2).exchange = some e →
    e.frame = .fetch turn' no' → true = false ∨ true ≠ turn' ∨ SlotNo.zero ≠ no' := by
  intro e turn' no' h hf
  cases h
  cases hf
  exact .inr (.inl (by decide))
theorem test_met_AnswersAndGuard_guard : tap.guard.isSome ∧ ∀ st ∈ [CtxState.claiming, .reading, .screening, .pricing],
    ((atA (side .bound none 1) st (some tap)).ctx .a).tx = some tap ∧
      ((atA (side .bound none 1) st (some tap)).ctx .a).state ∈ [CtxState.claiming, .reading, .screening, .pricing] := by decide

/-- Side A in SCREENING. -/
def screened (x : Transaction) : State := atA (side .bound none 1) .screening (some x)

/-- Side A in PRICING, its request with the calculator. -/
def priced (x : Transaction) : State :=
  { atA (side .bound none 1) .pricing (some x) with fares := { current := some { side := .a, period := none }, waiting := none } }

/-- A tap whose card is not in a journey. -/
def fresh : Transaction := { tap with slot0 := some { record 5 with journey := .closed }.toRaw }

theorem test_met_ScreeningOrder :
    (let s := screened tap
     (s.ctx .a).state = .screening ∧ (s.ctx .a).tx = some tap ∧ tap.attached = none ∧ tap.waitsForSwap = false ∧
     tap.product = some (.storedValue, 0) ∧ tap.currentRecord = some (record 5) ∧ tap.mark = some { arrival := 0, afterSwap := false } ∧
     s.screen.isHeld 7 100000 = false ∧ s.screen.lookup 0 7 = false ∧ tap.blocked = false ∧ s.screen.capture = false ∧
     counterRules (s.screen.sightingOf 7) 5 1000 = none ∧ s.screen.sightingOf 7 = none ∧
     isReentry .entry (record 5) s.port.station 100000 (s.bankOf 1).ruleSet.reentryGrace = true ∧ (s.reader .a).link = .bound) ∧
    (withScreen serving fun c => { c with holds := [{ card := 7, until_ := 100001, joined := 0 }] }).screen.isHeld 7 100000 = true ∧
    (withScreen serving fun c => { c with holds := [{ card := 7, until_ := 100000, joined := 0 }] }).screen.isHeld 7 100000 = false ∧
    (withScreen serving fun c => { c with denylist := [7], capture := true }).screen.lookup 0 7 = true ∧
    counterRules (some { seen 5 .taken with conflict := true }) 5 1000 = some .conflictFlag ∧
    counterRules (some (seen 6 .taken)) 5 1000 = some .counter ∧
    isReentry .entry { record 5 with journey := .closed } 0 100000 600 = false ∧ fresh.currentRecord.isSome := by decide +kernel
/-- R116, R117: the counter rules with capture, and the sightings of a PASSBACK: the card's counter with NONE, PENDING or TAKEN, and another
counter, at its nearest one below the card's without the alternate counter. -/
theorem test_met_ScreeningOrder_sightings :
    (withScreen (screened tap) fun c => { c with capture := true }).screen.capture = true ∧ ((screened tap).reader .a).link = .bound ∧
    (withScreen serving fun c => { c with sightings := [seen 6 .taken] }).screen.sightingOf 7 = some (seen 6 .taken) ∧
    (∀ p ∈ [PassageState.none, .pending, .taken], counterRules (some (seen 5 p)) 5 1000 = none ∧ (seen 5 p).counter = (record 5).counter ∧
      (seen 5 p).passage ∈ [PassageState.none, .pending, .taken]) ∧
    counterRules (some (seen 4 .notTaken)) 5 1000 = none ∧ (seen 4 .notTaken).counter ≠ (record 5).counter ∧
    (seen 4 .notTaken).alternate ≠ some (record 5).counter := by decide
/-- R106: a mark flagged "after the swap" of a card that is held and of one that is not, and a lookup that waits. -/
theorem test_met_ScreeningOrder_swap :
    (let x := { tap with mark := some { arrival := 0, afterSwap := true } }
     (screened x).ctx .a = { state := .screening, tx := some x } ∧ x.waitsForSwap = false ∧ x.attached = none ∧
     (screened x).screen.isHeld x.card x.instant = false ∧
     (withScreen (screened x) fun c => { c with holds := [{ card := 7, until_ := 100001, joined := 0 }] }).screen.isHeld x.card x.instant =
       true) ∧
    ((screened { tap with waitsForSwap := true }).ctx .a).tx = some { tap with waitsForSwap := true } := by decide
theorem test_met_CommitPoint_refused : ∃ q, (priced { tap with slot0 := some (record 16777215).toRaw }).pricingRequest .a
    { tap with slot0 := some (record 16777215).toRaw } = some q ∧ price q (bank 1) none = .refuse .cardExhausted :=
  ⟨_, rfl, by decide +kernel⟩
theorem test_met_CommitPoint_write : ∃ q r f, (priced tap).pricingRequest .a tap = some q ∧ price q (bank 1) none = .write r f ∧
    (priced tap).bankOf 1 = bank 1 :=
  ⟨_, _, _, rfl, rfl, rfl⟩
theorem test_met_CommitPoint : (priced tap).fares.current = some { side := .a, period := none } ∧ ((priced tap).ctx .a).tx = some tap ∧
    tap.key = some 0 ∧ tap.current = some .zero ∧ (priced tap).inFreeOpen = false ∧ (priced tap).gate.barrier ≠ .held ∧
    (priced tap).inService .a = true ∧ 4 ≤ (List.replicate 4 (doubt false)).length ∧ (List.replicate 3 (doubt false)).length < 4 ∧
    ((priced tap).reader .a).link = .bound ∧
    (withGate (priced tap) fun g => { g with reasons := { g.reasons with command := true } }).inFreeOpen = true ∧
    (withGate (priced tap) fun g => { g with barrier := .held }).gate.barrier = .held ∧ (priced tap).screen.sightingOf 7 = none ∧
    (withScreen (priced tap) fun c => { c with sightings := [seen 5 .taken] }).screen.sightingOf 7 = some (seen 5 .taken) := by
  decide +kernel

/-- Side A in WRITING, with its in-doubt entry. -/
def writing (attempt : Nat) : State :=
  { atA (side .bound (some (.store false .one (record 6))) attempt) .writing
      (some { tap with keys := none, mark := none, journalHeld := false, guard := none, fare := some fare, intended := some (record 6) }) with
    doubt := { entries := [doubt false], periodS := 30 }
    gate := { serving.gate with reservations := { a := .held, b := .absent } } }

theorem test_met_WriteCompleted :
    (let s := writing 1
     (s.reader .a).exchange = some { frame := .store false .one (record 6), attempt := 1, answer := some 0 } ∧
     (s.reader .a).link = .bound ∧ (s.ctx .a).state = .writing ∧ (s.ctx .a).tx.isSome ∧ s.gate.reservations.a = .held ∧
     s.screen.sightingOf 7 = none) ∧
    ({ tap with journalHeld := false, fare := some fare }.fare = some fare) ∧
    (withScreen (writing 1) fun c => { c with sightings := [seen 6 .taken] }).screen.sightingOf 7 = some (seen 6 .taken) ∧
    ((seen 6 .taken).counter = fare.counterAfter ∧ (seen 6 .taken).purse = fare.purseAfter) ∧ (seen 5 .taken).counter < fare.counterAfter ∧
    fare.counterAfter < (seen 7 .taken).counter ∧ { seen 6 .taken with purse := 999 }.purse ≠ fare.purseAfter := by decide
theorem test_met_WriteCompleted_rewrite :
    (let x := { tap with attached := some 7, journalHeld := false, fare := some fare }
     let s := { atA (side .bound (some (.store false .one (record 6))) 1) .writing (some x) with
       doubt := { entries := [doubt true], periodS := 30 } }
     (s.reader .a).exchange = some { frame := .store false .one (record 6), attempt := 1, answer := some 0 } ∧
     (s.reader .a).link = .bound ∧ (s.ctx .a).state = .writing ∧ (s.ctx .a).tx = some x ∧ x.attached = some x.card ∧
     s.port.masked.get .tapResult = false ∧ s.port.notices.length ≤ 28) := by decide
theorem test_met_WriteInDoubt : ((writing 3).reader .a).exchange.map (·.attempt) = some 3 ∧
    ∀ d ∈ (writing 3).doubt.entries, d.card = 7 → d.passed = false := by decide
theorem test_met_WriteInDoubt_rewrite :
    (let x := { tap with attached := some 7, journalHeld := false, fare := some fare }
     let s := { atA (side .bound (some (.store false .one (record 6))) 3) .writing (some x) with
       doubt := { entries := [doubt true], periodS := 30 } }
     (s.reader .a).exchange.map (·.attempt) = some 3 ∧ (s.reader .a).link = .bound ∧ (s.ctx .a).state = .writing ∧
     (s.ctx .a).tx = some x ∧ x.attached = some x.card ∧ ∀ d ∈ s.doubt.entries, d.card = x.card → d.passed = false) := by decide
theorem test_met_DeadlinePasses :
    { serving with doubt := { entries := [doubt false], periodS := 5 } }.entryOf 7 = some (doubt false) ∧ (doubt false).deadline.isSome ∧
    (doubt false).attached = false ∧ { serving with doubt := { entries := [doubt false], periodS := 5 } }.writingCard 7 = false ∧
    { serving with doubt := { entries := [doubt true], periodS := 5 } }.entryOf 7 = some (doubt true) ∧ (doubt true).attached = true := by
  decide +kernel
theorem test_met_DeadlinePasses_detached :
    (let e := { doubt true with passed := true, deadline := none }
     let x := { tap with attached := some 7, journalHeld := false, fare := some fare }
     let s := { atA (side .bound (some (.store false .one (record 6))) 3) .writing (some x) with doubt := { entries := [e], periodS := 30 } }
     s.entryOf 7 = some e ∧ e.passed = true ∧ (s.ctx .a).state = .writing ∧ (s.ctx .a).tx = some x ∧ x.card = e.card ∧
     x.attached = some e.card ∧ x.journalHeld = false ∧ (s.reader .a).exchange.map (·.attempt) = some 3) := by decide +kernel
theorem test_met_CaptureFinished :
    (let s := atA (side .bound (some (.mark true)) 3) .marking (some { tap with verdict := some (.denylisted, none), mark := none })
     (s.reader .a).exchange = some { frame := .mark true, attempt := 3, answer := some 0 } ∧ (s.reader .a).link = .bound ∧
     (s.ctx .a).state = .marking ∧
     (s.ctx .a).tx = some { tap with verdict := some (.denylisted, none), mark := none }) := by decide

/-- Carrier lost in CLAIMING, in WRITING (a first write, and a rewrite whose entry's deadline went by) and in MARKING. -/
theorem test_met_CarrierLostAndBack_exchange :
    ((atA (side .bound (some (.claim 7)) 1) .claiming (some tap)).reader .a).exchange.isSome ∧ tap.attached = none ∧
    (let s := writing 3
     (s.reader .a).carrier = true ∧ (s.reader .a).exchange.isSome ∧ (s.ctx .a).state = .writing ∧
     (∃ x, (s.ctx .a).tx = some x ∧ x.attached = none ∧ x.journalHeld = false) ∧
     ∀ d ∈ s.doubt.entries, d.card = 7 → d.passed = false) ∧
    (let e := { doubt true with passed := true, deadline := none }
     let x := { tap with attached := some 7, journalHeld := false, fare := some fare }
     let s := { atA (side .bound (some (.store false .one (record 6))) 3) .writing (some x) with doubt := { entries := [e], periodS := 30 } }
     (s.reader .a).carrier = true ∧ x.attached = some x.card ∧ s.entryOf x.card = some e ∧ e.passed = true) ∧
    (let x := { tap with verdict := some (.denylisted, none), mark := none }
     let s := atA (side .bound (some (.mark true)) 3) .marking (some x)
     (s.reader .a).carrier = true ∧ (s.reader .a).exchange.isSome ∧ (s.ctx .a).state = .marking ∧ (s.ctx .a).tx = some x ∧
     x.attached = none ∧ (∀ h ∈ s.screen.holds, h.card ≠ x.card) ∧ s.screen.holds.length < 64) :=
  ⟨rfl, rfl, ⟨rfl, rfl, rfl, ⟨_, rfl, rfl, rfl⟩, by decide⟩, by decide, by decide⟩
/-- R7, R31: carrier lost in MARKING makes the capture FAILED and the card held. -/
theorem test_carrier_lost_in_marking : ∃ t, exec (.carrierLoss .a)
    (atA (side .bound (some (.mark true)) 1) .marking (some { tap with verdict := some (.denylisted, none), mark := none })) = .next t ∧
    t.screen.holds.map (·.card) = [7] ∧ t.ctx .a = { state := .outOfService, tx := none } :=
  ⟨_, rfl, by decide +kernel⟩

/-- The serving gate with a tap of card 7 at side A and its in-doubt entry at a side. -/
def judged (x : Transaction) (sd : Side) : State :=
  { atA (side .bound none 1) .reading (some x) with doubt := { entries := [{ doubt false with side := sd }], periodS := 30 } }

theorem test_met_InDoubtJudged_other_side : (judged tap .b).entryOf 7 = some { doubt false with side := .b } ∧
    tap.slotRecord .zero = some (record 5) ∧ tap.journalHeld = true ∧ ((judged tap .b).reader .a).link = .bound := by decide +kernel
theorem test_met_InDoubtJudged_written :
    (let x := { tap with current := some .one, slot1 := some (record 6).toRaw }
     (judged x .a).entryOf 7 = some (doubt false) ∧ x.slotRecord .one = some (record 6) ∧ record 6 = (doubt false).record ∧
     (record 6).counter = (doubt false).oldCounter + 1 ∧ x.current = some (doubt false).target) := by decide +kernel
theorem test_met_InDoubtJudged_rewrite : (judged tap .a).entryOf 7 = some (doubt false) ∧ SlotNo.zero ≠ (doubt false).target ∧
    (record 5).counter = (doubt false).oldCounter ∧ tap.slotRecord .one ≠ some (doubt false).record ∧
    (judged tap .a).inFreeOpen = false ∧ (judged tap .a).gate.barrier ≠ .held ∧ (judged tap .a).inService .a = true := by decide +kernel
/-- R41 with R34: the rewrite forbidden by free-open, by a barrier that is HELD, and by a side that is out of service. -/
theorem test_met_InDoubtJudged_forbidden : (doubt false).passed = false ∧
    (withGate (judged tap .a) fun g => { g with reasons := { g.reasons with command := true } }).inFreeOpen = true ∧
    (let s := withGate (judged tap .a) fun g => { g with barrier := .held }
     s.inFreeOpen = false ∧ s.gate.barrier = .held) ∧
    (let s := withSup (judged tap .a) fun u => { u with readerHold := { a := true, b := false } }
     s.inFreeOpen = false ∧ s.inService .a = false) := by decide +kernel
/-- R40 and R46: a write found WRITTEN whose reservation was withdrawn, and the sightings of its commit. -/
theorem test_met_InDoubtJudged_commit :
    (withGate (judged tap .a) fun g => { g with reservations := { a := .withdrawn .freeOpen, b := .absent } }).gate.reservations.get .a ≠
      .held ∧
    (withGate (judged tap .a) fun g => { g with reservations := { a := .held, b := .absent } }).gate.reservations.get .a = .held ∧
    (judged tap .a).screen.sightingOf 7 = none ∧
    (withScreen (judged tap .a) fun c => { c with sightings := [seen 5 .taken] }).screen.sightingOf 7 = some (seen 5 .taken) ∧
    (seen 5 .taken).counter < fare.counterAfter ∧ (seen 6 .taken).counter = fare.counterAfter ∧ (seen 6 .taken).purse = fare.purseAfter ∧
    fare.counterAfter < (seen 7 .taken).counter := by decide +kernel
theorem test_met_InDoubtJudged_slot :
    (let s := { atA (side .bound (some (.fetch true .one)) 1) .reading (some { tap with slot0 := some (genuine 5 1000).toRaw }) with
       doubt := { entries := [doubt false], periodS := 30 } }
     (s.reader .a).exchange.map (·.frame) = some (.fetch true .one) ∧ s.entryOf 7 = some (doubt false) ∧ s.gate.mode = .bidirectional ∧
     ((s.bankOf 1).productFor area.productCode.toNat).1 ≠ .unmapped ∧ tap.key = some 0 ∧ tap.area = some area) ∧
    (let code := Config.checkFn 0 7 area.protectedBytes
     Config.checkFn 0 7 { area with code := code }.protectedBytes = { area with code := code }.code) :=
  ⟨by decide +kernel, rfl⟩
theorem test_met_InDoubtJudged_superseded :
    (let x := { tap with current := some .one, slot1 := some (record 7).toRaw }
     x.slotRecord .one = some (record 7) ∧ ¬(record 7 = (doubt false).record ∧ (record 7).counter = (doubt false).oldCounter + 1)) ∧
    (let x := { tap with slot1 := some (record 6).toRaw }
     x.current = some .zero ∧ SlotNo.zero ≠ (doubt false).target ∧ x.slotRecord .zero = some (record 5) ∧
     (record 5).counter = (doubt false).oldCounter ∧ x.slotRecord (doubt false).target = some (doubt false).record) := by
  decide +kernel
/-- R42 with R23 check 6: 2,030 records and 2 reservations leave 17 free entries, 2,031 leave 16. -/
theorem test_met_InDoubtJudged_journal : (filled 2030 2).journal.reserved - 1 - 1 + 16 < 2048 - ((filled 2030 2).journal.records.length + 1) ∧
    2048 - ((filled 2031 2).journal.records.length + 1) ≤ (filled 2031 2).journal.reserved - 1 - 1 + 16 := by
  simp only [filled, serving, List.length_replicate]
  decide
theorem test_met_GrantsWithoutWrite :
    (let x := { tap with product := some (.staff, 0) }
     (screened x).ctx .a = { state := .screening, tx := some x } ∧ x.currentRecord = some (record 5) ∧ x.mark.isSome ∧
     (priced x).fares.current = some { side := .a, period := none } ∧ x.area.isSome) ∧
    (let s := withScreen (screened tap) fun c => { c with sightings := [seen 5 .notTaken] }
     s.screen.isHeld 7 100000 = false ∧ s.screen.lookup 0 7 = false ∧
     isReentry .entry (record 5) s.port.station 100000 (s.bankOf 1).ruleSet.reentryGrace = true ∧
     s.screen.sightingOf 7 = some (seen 5 .notTaken) ∧ (seen 5 .notTaken).counter = (record 5).counter ∧
     (seen 5 .notTaken).purse = (record 5).purse) := by decide +kernel
theorem test_met_GrantsWithoutWrite_alternate :
    (let y := { seen 4 .notTaken with alternate := some 5 }
     (withScreen (screened tap) fun c => { c with sightings := [y] }).screen.sightingOf 7 = some y ∧ y.conflict = false ∧
     y.counter + 1 = (record 5).counter ∧ y.alternate = some (record 5).counter) := by decide
/-- A pricing request at second 100,000 for a stored-value card at station 0. -/
def request (r : CardRecord) (sd : Side) : PricingRequest :=
  { card := 7, record := r, area := area, kind := .storedValue, profile := 0, side := sd, station := 0, instant := 100000, tariff := 1 }

theorem test_met_FareFigures : (∃ r f, price (request (record 5) .a) (bank 1) none = .write r f ∧ f.kind = .incompleteCharge) ∧
    (bank 1).ruleSet.incompleteCharge ≤ 65535 ∧ (bank 1).ruleSet.unenteredCharge ≤ 65535 ∧ (bank 1).ruleSet.sameStationCharge ≤ 65535 ∧
    0 < 1 ∧ 100 ≤ 100 ∧
    (let arrived := if { record 5 with capAcc := 500 }.capDay = 1 then { record 5 with capAcc := 500 }.capAcc else 0
     500 ≠ 0 ∧ 500 ≤ arrived ∧ arrived < 501) :=
  ⟨⟨_, _, rfl, rfl⟩, by decide⟩
/-- Requests of station 0 in zone 1 at network minute 1666 for every case of the table, and of a station without a zone. -/
theorem test_met_FareFigures_cases :
    (bank 1).zoneOf 0 ≠ 0 ∧ (bank 1).zoneOf 2 = 0 ∧ (record 16777215).counter = 16777215 ∧ 100000 / 60 = 1666 ∧ (1666 - 180) / 1440 = 1 ∧
    area.passTo.toNat < 1 ∧
    ((record 5).journey = .opened ∧ (record 5).origin = 0 ∧ (record 5).legs = 1 ∧ (record 5).start ≤ 1666 ∧ 1666 ≤ (record 5).start + 10) ∧
    (let r := { record 5 with journey := .closed, lastStation := 1, lastMinute := 1606, legs := 3 }
     r.lastMinute ≤ 1666 ∧ 1666 ≤ r.lastMinute + (bank 1).ruleSet.transferWindow ∧ 0 ≠ r.lastStation ∧ r.legs < 4) ∧
    ¬(1606 ≤ 1666 ∧ 0 ≠ (record 5).lastStation) ∧
    (let f : FreePeriod := { start := 1600, stop := some 1636, origin := .station }
     f.start ≤ 1666 ∧ (∀ e, f.stop = some e → 1666 ≤ e + (bank 1).ruleSet.freeExitWindow) ∧ 1599 < f.start) ∧
    (let f : FreePeriod := { start := 1600, stop := some 1635, origin := .station }
     ¬∀ e, f.stop = some e → 1666 ≤ e + (bank 1).ruleSet.freeExitWindow) := by
  refine ⟨by decide, by decide, rfl, by decide, by decide, by decide, by decide, by decide, by decide, ⟨by decide, ?_, by decide⟩, ?_⟩
  · intro e h; cases h; decide
  · intro f h; exact absurd (h 1635 rfl) (by decide)
/-- R52 to R54: a complete bank, a journey from zone 1 to zone 2 for stored value, and for a pass of zone 1, one zone outside it. -/
theorem test_met_FareFigures_stages :
    (∃ zoneTable bands peaks profiles rules holidays profile, (bank 1).stations = some zoneTable ∧ (bank 1).bands = some bands ∧
      (bank 1).peaks = some peaks ∧ (bank 1).profiles = some profiles ∧ (bank 1).rules = some rules ∧
      (bank 1).holidays = some holidays ∧ profiles[(request (record 5) .b).profile]? = some profile) ∧
    (∀ z, z ∈ [2] ↔ (min 1 2 ≤ z ∧ z ≤ max 1 2) ∧ (z < 1 ∨ 1 < z)) :=
  ⟨⟨_, _, _, _, _, _, _, rfl, rfl, rfl, rfl, rfl, rfl, rfl⟩, fun z => by simp only [List.mem_singleton]; omega⟩
/-- R53's own example: a pass of zones 1 to 3 between zones 2 and 5 has band 2, and one whose low exceeds its high covers no zone. -/
theorem test_pass_band : passBand 2 5 1 3 = 2 ∧ passBand 5 2 1 3 = 2 ∧ passBand 2 3 1 3 = 0 ∧ passBand 2 5 3 1 = 4 := by decide
/-- R54: the weekday window 420 to 600 on service day 2, a Monday, includes minute 420 and excludes minute 600; day 1, a Sunday, has none. -/
theorem test_peak_window : isPeak (bank 1) (2 * 1440 + 420) = true ∧ isPeak (bank 1) (2 * 1440 + 599) = true ∧
    isPeak (bank 1) (2 * 1440 + 600) = false ∧ isPeak (bank 1) (2 * 1440 + 419) = false ∧ isPeak (bank 1) (1440 + 420) = false := by decide
/-- R57: an exit through stage 5 from the same station, with a cap of 500 of which 480 are used up: 20 of the charge of 50 are taken. -/
theorem test_met_FareCap : ∃ r f, price (request { record 5 with capAcc := 480 } .b) (bank 1) none = .write r f ∧
    f.kind = .exitCharge ∧ f.charge = 20 ∧ r.capAcc = 500 ∧ r.purse = 980 :=
  ⟨_, _, rfl, by decide⟩
theorem test_met_TariffLoad : State.reset.port.ready ∧ (List.replicate 64 (0 : Byte)).length + 1 ∈ [257, 36, 52, 41, 16, 66, 65] :=
  ⟨ready_reset, by decide⟩
/-- R76, R189: contents of each section whose values lie at the ends of their ranges, and of section 5 with an overdraft limit above its own. -/
theorem test_met_TariffLoad_sections :
    (∀ k < 256, fieldAt k 1 (List.replicate 256 15) ≤ 15) ∧
    (let c := List.replicate 30 (0xFF : Byte) ++ [0x01, 0xF4, 0x0B, 0xB8, 50]
     c.length = 35 ∧ 500 ≤ fieldAt 30 2 c ∧ fieldAt 32 2 c ≤ 3000 ∧ fieldAt 34 1 c ∈ [1, 2, 5, 10, 50]) ∧
    (let c := [1, 0x05, 0x9F, 0x05, 0xA0] ++ List.replicate 46 (0 : Byte)
     c.length = 51 ∧ fieldAt 0 1 c = 1 ∧ fieldAt 1 2 c = 1439 ∧ fieldAt 3 2 c = 1440 ∧ fieldAt 17 1 c = 0 ∧ fieldAt 34 1 c = 0) ∧
    (∀ k < 8, fieldAt (5 * k) 1 (List.replicate 40 100) ≤ 100) ∧
    (let c : List Byte := [180, 0x02, 0x58, 60, 0, 0, 0, 0, 0, 0, 120, 0x13, 0x88, 0x01, 0x67]
     c.length = 15 ∧ fieldAt 0 1 c = 180 ∧ fieldAt 1 2 c = 600 ∧ fieldAt 3 1 c = 60 ∧ fieldAt 10 1 c = 120 ∧ fieldAt 11 2 c = 5000 ∧
     fieldAt 13 2 c = 359) ∧
    ¬fieldAt 11 2 ([0, 0, 0, 0, 0, 0, 0, 0, 0, 0, 0, 0x13, 0x89, 0, 0] : List Byte) ≤ 5000 ∧
    (let c := (32 : Byte) :: List.replicate 64 (0x8E : Byte)
     c.length = 65 ∧ fieldAt 0 1 c ≤ 32 ∧ ∀ k < 32, fieldAt (1 + 2 * k) 2 c ≤ 36524) ∧
    (∀ k < 32, fieldAt (2 * k) 1 (List.replicate 64 3) < 4 ∧ fieldAt (2 * k + 1) 1 (List.replicate 64 3) ≤ 7) ∧
    State.reset.tariff.activation = none ∧ State.reset.tariff.pinned = false := by decide +kernel
theorem test_met_TariffAndKeyRequests : State.reset.port.ready ∧ 65535 ≤ 65535 :=
  ⟨ready_reset, by decide⟩

/-- The serving gate at a second. -/
def at_ (second : Nat) : State := { serving with tariff := { serving.tariff with clock := some second } }

theorem test_met_ClockAdvance : State.reset.tariff.clock = none ∧ (at_ 3155759998).tariff.clock = some 3155759998 ∧
    (100000 + 1) % 60 ≠ 0 ∧ (100019 + 1) % 60 = 0 ∧ (at_ 100019).swapDue = false ∧ (at_ 100019).tariff.activation = none ∧
    (at_ 3155759999).tariff.clock = some 3155759999 := by decide
theorem test_met_ClockAdvance_pending : (at_ 100019).boundary = 180 ∧ 2 ≠ 0 ∧ serviceDay 180 ((100019 + 1) / 60) < 2 := by decide
/-- R109: a horizon of 1 minute that is set at second 100,000 removes a sighting of second 99,899 at the minute step of second 100,020, and
not before: the sighting request of the same record is judged by the 30 minutes in force. -/
theorem test_horizon_next_minute_step :
    (let s := withScreen (at_ 100019) fun c => { c with sightings := [{ seen 5 .taken with second := 99899 }], horizonMin := 1 }
     ∃ t, exec .clockAdvance s = .next t ∧ t.screen.sightings = [] ∧ t.screen.horizonInForce = 1) ∧
    (let s := withScreen (at_ 100000) fun c => { c with horizonMin := 1 }
     ∃ t, exec (.sighting 1 ⟨7, 5, 1000, 1, 99899, 0, 0, 2⟩) s = .next t ∧ t.screen.sightings.length = 1) :=
  ⟨⟨_, rfl, by decide +kernel⟩, ⟨_, rfl, by decide +kernel⟩⟩
theorem test_met_TariffSwap :
    (let s := { at_ 100019 with tariff := { (at_ 100019).tariff with activation := some (2, 1), standby := bank 2 } }
     s.tariff.clock = some 100019 ∧ s.tariff.activation = some (2, 1) ∧
     1 ≤ ((100019 + 1) / 60 - (if s.tariff.active.valid then s.tariff.active.ruleSet.boundary else 0)) / 1440 ∧
     2048 - s.journal.records.length > s.journal.reserved) ∧ (100019 + 1) % 60 = 0 := by decide +kernel
theorem test_met_ClockRequests : serving.port.ready ∧ (⟨2000, 1, 1, 0, 0, 60⟩ : DateTime).isValid = false ∧
    (⟨2000, 1, 1, 0, 0, 0⟩ : DateTime).isValid = true ∧ (at_ 61).tariff.clock = some 61 ∧
    (∃ t, (at_ 61).tariff.clock = some t ∧ (⟨2000, 1, 1, 0, 0, 0⟩ : DateTime).toSecond + 60 < t) ∧
    ¬(∃ t, (at_ 60).tariff.clock = some t ∧ (⟨2000, 1, 1, 0, 0, 0⟩ : DateTime).toSecond + 60 < t) ∧
    State.reset.tariff.clock = none ∧ State.reset.tariff.period = none ∧ 100000 < 256 ^ 4 ∧ (at_ 60).tariff.activation = none ∧
    (at_ 60).journal.records.length + (at_ 60).journal.reserved + 4 ≤ 2048 :=
  ⟨ready_reset, by decide, by decide, rfl, ⟨61, rfl, by decide⟩, (by rintro ⟨t, h, ht⟩; cases h; exact absurd ht (by decide)), rfl, rfl,
    by decide, rfl, by decide⟩
/-- §4.7: at 14 March 2025, 08:12:00, GET_CLOCK shows the date, second 795,255,120, service day 9204, Friday (4), WEEKDAY and boundary 180. -/
theorem test_get_clock : ∃ t, exec (.getClock 1) (at_ 795255120) = .next t ∧
    (t.port.outgoing.head?.map fun r => [fieldAt 2 2 r.fields, fieldAt 4 1 r.fields, fieldAt 5 1 r.fields, fieldAt 6 1 r.fields,
      fieldAt 9 4 r.fields, fieldAt 13 2 r.fields, fieldAt 15 1 r.fields, fieldAt 17 2 r.fields]) =
      some [2025, 3, 14, 8, 795255120, 9204, 4, 180] :=
  ⟨_, rfl, by decide +kernel⟩
theorem test_met_HoldAndDenylistRequests : State.reset.port.ready := ready_reset

/-- The serving gate with an update at the head of the queue. -/
def updating (add applying : Bool) (denylist : List CardId) : State :=
  withScreen serving fun c =>
    { c with queue := [{ add := add, card := 7, arrival := 1 }], arrivals := 1, applying := applying, denylist := denylist }

theorem test_met_ApplyOneUpdate : (updating true false []).screen.queue = { add := true, card := 7, arrival := 1 } :: [] ∧
    (updating true true [6, 8]).screen.applying = true ∧ (7 : CardId) ∉ ([6, 8] : List CardId) ∧ (7 : CardId) ∈ ([7] : List CardId) ∧
    ([6, 8] : List CardId).Pairwise (· < ·) ∧ ([6, 8] : List CardId).length < 16384 := by decide +kernel
/-- R102: the mark of an earlier claim holds the head back, an equal one and a flagged one do not, and one from before the
wrap of the arrival counter does. -/
theorem test_holds_back :
    (let u : DenyUpdate := { add := true, card := 7, arrival := 2 }
     holdsBack 2 u (some { arrival := 1, afterSwap := false }) = true ∧ holdsBack 2 u (some { arrival := 2, afterSwap := false }) = false ∧
     holdsBack 2 u (some { arrival := 1, afterSwap := true }) = false ∧
     holdsBack 2 u (some { arrival := 4294967295, afterSwap := false }) = true) := by decide
theorem test_met_LookupReflectsEarlierUpdates :
    (let c := (updating true true []).screen
     c.arrivals ≤ 4294967295 ∧ arrivalAge c.arrivals 0 < 2147483648 ∧
     (∀ u ∈ c.queue, u.arrival ≤ 4294967295 ∧ arrivalAge c.arrivals u.arrival < 2147483648) ∧ arrivalAge c.arrivals 1 ≤ arrivalAge c.arrivals 1) := by
  decide +kernel
theorem test_met_BulkReplace_refused : State.reset.screen.build ≠ .ending ∧ (List.replicate 85 (7 : CardId)).length ≤ 85 := by decide

/-- A bulk replace that awaits its swap, with the reply to DENYLIST_END held. -/
def ending : State :=
  withPort (withScreen (screened { tap with mark := some { arrival := 0, afterSwap := true }, waitsForSwap := true })
    fun c => { c with build := .ending, buildList := [6, 7], buildVersion := 9, buildLast := some 7 })
    fun p => { p with requests := [{ tag := 1, request := .denylistEnd }], headTaken := true }

theorem test_met_BulkReplace_swap : ending.screen.build = .ending ∧ ending.screen.queue = [] ∧ ending.screen.applying = false ∧
    (∀ m, (ending.ctx .a).mark = some m → m.afterSwap = true) ∧ (∀ m, (ending.ctx .b).mark = some m → m.afterSwap = true) ∧
    ending.port.requests = [{ tag := 1, request := .denylistEnd }] ∧ ending.port.headTaken = true ∧ ending.port.outgoing.length < 8 :=
  ⟨rfl, rfl, rfl, (by intro m h; cases h; rfl), (by intro m h; cases h), rfl, rfl, by decide⟩
theorem test_met_BulkReplace_waits : ((ending.ctx .a).state = .screening ∧ ∃ x, (ending.ctx .a).tx = some x ∧ x.waitsForSwap = true) ∧
    ¬((ending.ctx .b).state = .screening ∧ ∃ x, (ending.ctx .b).tx = some x ∧ x.waitsForSwap = true) :=
  ⟨⟨rfl, _, rfl, rfl⟩, by rintro ⟨h, -⟩; cases h⟩
theorem test_met_SightingMerged : serving.port.ready ∧
    (let f : SightingFields := ⟨7, 16777215, -99999, 2, 3155759999, 255, 255, 3⟩
     f.counter ≤ 16777215 ∧ (-99999 ≤ f.purse ∧ f.purse ≤ 9999999) ∧ f.second ≤ 3155759999 ∧ f.station ≤ 255 ∧ f.gate ≤ 255 ∧
     (f.kind = 1 ∨ f.kind = 2) ∧ f.passage ≤ 3) ∧ ¬(⟨7, 16777216, 0, 1, 0, 0, 0, 0⟩ : SightingFields).counter ≤ 16777215 ∧
    State.reset.tariff.clock = none ∧ serving.tariff.clock = some 100000 ∧ 98199 + 30 * 60 < 100000 ∧ 100000 ≤ 98200 + 30 * 60 ∧
    serving.screen.sightingOf 7 = none ∧
    (withScreen serving fun c => { c with sightings := [seen 5 .taken] }).screen.sightingOf 7 = some (seen 5 .taken) :=
  ⟨ready_reset, by decide, by decide, rfl, rfl, by decide, by decide, rfl, rfl⟩
theorem test_met_SightingMerged_full :
    (let rest := List.replicate 511 { seen 5 .taken with card := 8 }
     (seen 5 .taken :: rest).length = 511 + 1 ∧ (∀ x ∈ rest, x.card ≠ (seen 5 .taken).card) ∧
     (withScreen serving fun c => { c with sightings := seen 5 .taken :: rest }).screen.sightingOf 9 = none) := by
  refine ⟨congrArg (· + 1) List.length_replicate, fun x hx => ?_, ?_⟩
  · rw [List.eq_of_mem_replicate hx]; decide
  · simp only [Screen.sightingOf, withScreen]
    refine List.find?_eq_none.mpr fun x hx => ?_
    rcases List.mem_cons.mp hx with h | h
    · subst h; decide
    · rw [List.eq_of_mem_replicate h]; decide

/-! Aisle sensing and the barrier. -/

/-- The serving gate with its barrier in a state that an owner's authorisation holds open. -/
def opened (b : BarrierState) (queue : List Auth) : State :=
  withGate serving fun g =>
    { g with barrier := b, owner := some .a, drive := .open_, travel := some 0, closeDelay := none, queues := { a := queue, b := [] } }

theorem test_met_InputsSettle :
    (let s := settling (opened .opening [{ auth with deadline := none }]) .openLimit true false
     (s.aisle.filters.get .openLimit).debounce.isSome ∧ s.gate.barrier = .opening ∧ s.gate.owner = some .a ∧ s.gate.travel.isSome ∧
     (s.aisle.pins.get .openLimit == (s.aisle.params.get .openLimit).activeHigh) = true ∧ s.gate.queues.get .a ≠ []) ∧
    (let s := settling (withGate serving fun g => { g with barrier := .closing, phase := some .driving, travel := some 0 }) .closedLimit true false
     (s.aisle.filters.get .closedLimit).debounce.isSome ∧ s.gate.barrier = .closing ∧ s.gate.phase = some .driving ∧ s.gate.travel.isSome ∧
     (s.aisle.pins.get .closedLimit == (s.aisle.params.get .closedLimit).activeHigh) = true ∧ s.gate.queues.a = [] ∧ s.gate.queues.b = []) ∧
    (settling serving .openLimit true false).gate.barrier ∉ [BarrierState.opening, .closing, .checking] ∧
    (let s := settling (withGate serving fun g => { g with barrier := .checking, travel := some 1 }) .closedLimit true false
     s.gate.barrier = .checking ∧ s.gate.travel.isSome ∧ s.aisle.active .openLimit = false) ∧
    (let s := settling { withGate serving fun g => { g with barrier := .checking, travel := some 1 } with
       aisle := { serving.aisle with
         filters := serving.aisle.filters.set .closedLimit { filtered := true, debounce := none } } } .openLimit false true
     s.gate.barrier = .checking ∧ s.gate.travel.isSome ∧
     (s.aisle.pins.get .openLimit == (s.aisle.params.get .openLimit).activeHigh) = false ∧ s.aisle.active .closedLimit = true) ∧
    (let s := settling serving .driveFault true false
     (s.aisle.filters.get .driveFault).debounce.isSome ∧
     (s.aisle.pins.get .driveFault == (s.aisle.params.get .driveFault).activeHigh) = true ∧ s.sup.barrierHold = false ∧
     s.sup.conds.barrier = .clear) ∧
    (let s := settling serving .driveFault false true
     (s.aisle.pins.get .driveFault == (s.aisle.params.get .driveFault).activeHigh) = false) := by decide +kernel
theorem test_met_ZonesSettle :
    (true && ((settling serving .za true false).aisle.filters.get Zone.za.input).debounce.isSome) = true ∧
    (serving.aisle.stuck.za.stuck = false ∧ serving.aisle.stuck.zm.stuck = false ∧ serving.aisle.stuck.zb.stuck = false) ∧
    (serving.aisle.stuck.get .za).timer = none ∧
    (let s := { serving with
       aisle := { serving.aisle with stuck := { serving.aisle.stuck with zm := { timer := some 0, stuck := false } } } }
     (s.aisle.stuck.get .zm).timer.isSome ∧ s.sup.barrierHold = false ∧ s.sup.conds.sensor = .clear ∧
     s.sup.sensorResponse = .failClosed) := by decide +kernel
/-- The serving gate in a phase of CLOSING, with a close delay, an authorisation queued at side B or none, and CLOSED_LIMIT. -/
def closingIn (ph : ClosingPhase) (delayMs : Nat) (waiting : List Auth) (limit : Bool) : State :=
  withGate { serving with aisle := { serving.aisle with
      filters := serving.aisle.filters.set .closedLimit { filtered := limit, debounce := none } } } fun g =>
    { g with barrier := .closing, phase := some ph, closeDelayMs := delayMs, queues := { a := [], b := waiting } }
/-- The last pattern of the serving gate is clear; each phase and state that takes a pattern in its own way, with a close delay that runs,
that waits and that is 0, and a drive that finds CLOSED_LIMIT INACTIVE, ACTIVE, and ACTIVE with side B waiting. -/
theorem test_met_ZonesSettle_pattern :
    serving.gate.seen = { za := false, zm := false, zb := false } ∧
    (withGate serving fun g => { g with seen := { g.seen with zm := true } }).gate.seen.zm = true ∧
    (closingIn .driving 500 [] false).gate.phase = some .driving ∧
    (let s := closingIn (.yielding true) 500 [auth] true
     s.gate.phase = some (.yielding true) ∧ s.gate.closeDelay = none ∧ s.aisle.active .closedLimit = true ∧ s.gate.queues.get .b ≠ [] ∧
     s.gate.queues.get (Side.other .b) = []) ∧
    (let s := withGate (closingIn (.yielding false) 0 [auth] true) fun g => { g with queues := { a := [auth], b := [auth] } }
     s.gate.closeDelay = none ∧ s.gate.closeDelayMs = 0 ∧ s.gate.queues.get .a ≠ [] ∧
     s.gate.directions[s.gate.pointer]? = some .a) ∧
    (let s := closingIn .clearing 0 [] true
     s.gate.barrier = .closing ∧ s.gate.phase = some .clearing ∧ s.gate.closeDelayMs = 0 ∧ s.aisle.active .closedLimit = true ∧
     s.gate.queues.a = [] ∧ s.gate.queues.b = []) ∧
    (closingIn .clearing 0 [] false).aisle.active .closedLimit = false ∧ (closingIn .clearing 500 [] false).gate.closeDelayMs ≠ 0 ∧
    (withGate (closingIn .clearing 500 [] false) fun g => { g with closeDelay := some 7 }).gate.closeDelay.isSome ∧
    (let s := withGate (opened .opened []) fun g => { g with closeDelayMs := 0, queues := { a := [], b := [auth] } }
     s.gate.barrier = .opened ∧ s.gate.owner = some .a ∧ s.gate.phase = none ∧ s.gate.closeDelay = none ∧
     (s.gate.queues.get .a).isEmpty = true ∧ s.gate.queues.get (Side.other .a) = [auth]) ∧
    (withGate serving fun g => { g with barrier := .checking }).gate.barrier = .checking ∧
    (withGate serving fun g => { g with barrier := .faultClosed }).gate.barrier = .faultClosed ∧
    serving.gate.barrier ∈ [BarrierState.closed, .opening, .freeOpen, .faultOpen, .held] := by decide +kernel
/-- R139, R145: ZM occupied during DRIVING gives YIELDING with drive OPEN; the tailgate close drives "the moment ZM is clear". -/
theorem test_obstruction :
    (let t := (closingIn .driving 500 [] false).handPattern { za := false, zm := true, zb := false }
     t.gate.phase = some (.yielding false) ∧ t.gate.drive = .open_) ∧
    (let t := (closingIn (.yielding true) 500 [] false).handPattern { za := true, zm := false, zb := false }
     t.gate.phase = some .driving ∧ t.gate.drive = .close ∧ t.gate.travel = some 1200) := by decide +kernel
theorem test_met_TrackerFollowsPerson :
    (let t := State.reset.aisle.tracker
     { t with resync := true }.resync = true ∧ t.resync = false ∧ t.state = .empty ∧ { t with state := .a1 }.state = .a1 ∧
     { t with state := .a2 }.state = .a2 ∧ { t with state := .a3 }.state = .a3) := by decide
theorem test_met_PassageTaken :
    (let s := withScreen (opened .opened [auth]) fun c => { c with sightings := [seen 5 .pending] }
     s.gate.barrier ∈ [BarrierState.opening, .opened] ∧ s.gate.owner = some .a ∧ s.gate.queues.get .a = auth :: [] ∧ auth.card = some 7 ∧
     s.screen.sightingOf 7 = some (seen 5 .pending) ∧ (seen 5 .pending).source = .local ∧ (seen 5 .pending).passage = .pending) ∧
    { auth with origin := .staff, seq := none }.origin = .staff ∧ (opened .opening []).gate.queues.get .a = [] ∧ (opened .opened [auth]).gate.owner = some (Side.other .b) ∧
    serving.gate.barrier ∈ [BarrierState.closed, .closing, .checking, .faultClosed] ∧
    serving.gate.barrier ∉ [BarrierState.opening, .opened] ∧
    (withGate serving fun g => { g with barrier := .freeOpen }).gate.barrier ∈ [BarrierState.freeOpen, .faultOpen] ∧
    (withGate serving fun g => { g with barrier := .held }).gate.barrier = .held := by decide +kernel
/-- R143, R147: a passage from side A in a CLOSED barrier is an INTRUSION at side A, without an owner. -/
theorem test_intrusion : ((serving.takeReport (.passage .a false false)).journal.records.getLast?.map (·.body)) =
    some (.alarm .intrusion (some .a) none true false) := by decide +kernel

/-- The serving gate in free-open by a set of reasons. -/
def freeOpen (b : BarrierState) (emergency command fault : Bool) : State :=
  withGate serving fun g => { g with barrier := b, drive := .open_, reasons := { emergency := emergency, command := command, fault := fault } }

theorem test_met_FreeOpenBegins : serving.port.ready ∧
    (serving.gate.reasons = { emergency := false, command := false, fault := false }) ∧ (freeOpen .freeOpen false false true).gate.reasons.fault = true ∧
    (let s := settling serving .emergency false false
     s.aisle.filters.emergency.debounce.isSome ∧ (s.aisle.pins.emergency == s.aisle.params.emergency.activeHigh) = true) ∧
    (let s := settling (freeOpen .freeOpen true false false) .emergency true true
     s.aisle.filters.emergency.debounce.isSome ∧ (s.aisle.pins.emergency == s.aisle.params.emergency.activeHigh) = false ∧
     s.gate.reasons.emergency = true ∧ s.gate.autoResume = false) ∧
    serving.journal.records.length + serving.journal.reserved + 0 + 1 < 2048 ∧ serving.port.masked.passage = false ∧
    serving.port.notices.length + 2 * 0 + 2 < 32 :=
  ⟨ready_reset, by decide, by decide, by decide, by decide, by decide, rfl, by decide⟩
theorem test_met_ResumeEndsFreeOpen : (freeOpen .faultOpen false true false).port.ready ∧ serving.gate.reasons.command = false ∧
    (let s := freeOpen .faultOpen false true false
     s.aisle.active .emergency = false ∧ s.gate.reasons.command = true ∧ s.gate.reasons.emergency = false ∧ s.gate.reasons.fault = false ∧
     s.gate.holdOrder = false ∧ s.gate.failClosedOrder = false ∧ s.gate.barrier = .faultOpen ∧ s.aisle.active .closedLimit = false ∧
     s.gate.closeDelayMs ≠ 0) ∧ (freeOpen .freeOpen false true true).gate.reasons.fault = true ∧
    (freeOpen .freeOpen false true false).gate.barrier = .freeOpen :=
  ⟨ready_reset, by decide, by decide, by decide, by decide⟩
/-- Free-open by the emergency input alone and with COMMAND, auto-resume ENABLED and a close delay of 0, the input about to be INACTIVE. -/
theorem test_met_ResumeEndsFreeOpen_auto :
    (let s := settling (withGate (freeOpen .freeOpen true false false) fun g => { g with autoResume := true, closeDelayMs := 0 }) .emergency
       true true
     s.aisle.filters.emergency.debounce.isSome ∧ (s.aisle.pins.emergency == s.aisle.params.emergency.activeHigh) = false ∧
     s.gate.reasons.emergency = true ∧ s.gate.reasons.command = false ∧ s.gate.reasons.fault = false ∧ s.gate.autoResume = true ∧
     s.gate.closeDelayMs = 0 ∧ (s.gate.seen.za || s.gate.seen.zm || s.gate.seen.zb) = false ∧ s.aisle.active .closedLimit = false ∧
     s.gate.queues = { a := [], b := [] }) ∧
    (freeOpen .freeOpen true true false).gate.reasons.emergency = true ∧ (freeOpen .freeOpen true true false).gate.reasons.command = true ∧
    (settling serving .closedLimit true true).aisle.active .closedLimit = true := by decide
/-- Free-open by COMMAND alone from FREE_OPEN: a close delay of 500 ms with clear zones, one of 0 with CLOSED_LIMIT INACTIVE, and one of 0 with
CLOSED_LIMIT ACTIVE and both queues empty; a hold and a fail-closed order in force. -/
theorem test_met_ResumeEndsFreeOpen_closing :
    (let s := freeOpen .freeOpen false true false
     s.aisle.active .emergency = false ∧ s.gate.reasons.command = true ∧ s.gate.reasons.emergency = false ∧ s.gate.reasons.fault = false ∧
     s.gate.holdOrder = false ∧ s.gate.failClosedOrder = false ∧ s.gate.barrier = .freeOpen ∧ s.gate.closeDelayMs ≠ 0) ∧
    (let s := withGate (freeOpen .freeOpen false true false) fun g => { g with closeDelayMs := 0 }
     s.gate.closeDelayMs = 0 ∧ (s.gate.seen.za || s.gate.seen.zm || s.gate.seen.zb) = false ∧ s.aisle.active .closedLimit = false) ∧
    (let s := withGate (settling (freeOpen .freeOpen false true false) .closedLimit true true) fun g => { g with closeDelayMs := 0 }
     s.gate.closeDelayMs = 0 ∧ (s.gate.seen.za || s.gate.seen.zm || s.gate.seen.zb) = false ∧ s.aisle.active .closedLimit = true ∧
     s.gate.queues = { a := [], b := [] }) ∧
    (withGate (freeOpen .freeOpen false true false) fun g => { g with holdOrder := true }).gate.holdOrder = true ∧
    (withGate (freeOpen .freeOpen false true false) fun g => { g with failClosedOrder := true }).gate.failClosedOrder = true := by decide
theorem test_met_GrantsByHand : serving.port.ready ∧ (freeOpen .freeOpen false true false).inFreeOpen = true ∧ serving.inFreeOpen = false ∧
    serving.gate.holdOrder = false ∧ serving.gate.failClosedOrder = false ∧
    (List.replicate 4 auth).length + (if serving.gate.reservations.get .a = .absent then 0 else 1) = 4 ∧
    (List.replicate 3 auth).length + (if serving.gate.reservations.get .a = .absent then 0 else 1) < 4 ∧ serving.gate.barrier = .closed ∧
    serving.gate.queues.get (Side.other .a) = [] ∧ (opened .opened [auth]).gate.barrier = .opened ∧
    (opened .opened [auth]).gate.phase = none :=
  ⟨ready_reset, by decide, by decide, by decide, by decide, by decide, by decide, by decide, by decide, by decide, by decide⟩
theorem test_met_BarrierTimers :
    serving.gate.travel = none ∧ (opened .opening [auth]).gate.travel.isSome ∧ (opened .opening [auth]).sup.conds.barrier = .clear ∧
    (withSup serving fun u => { u with conds := { u.conds with barrier := .raised none } }).sup.conds.barrier ≠ .clear ∧
    (opened .opened [auth]).gate.queues.get .a = auth :: [] ∧ auth.deadline.isSome ∧ serving.gate.closeDelay = none ∧
    (let s := withGate (opened .opened []) fun g => { g with closeDelay := some 0, queues := { a := [], b := [auth] } }
     s.gate.closeDelay.isSome ∧ s.gate.barrier = .opened ∧ s.gate.owner = some .a ∧ s.gate.queues.get (Side.other .a) = auth :: []) ∧
    (let s := withGate serving fun g => { g with barrier := .closing, phase := some .clearing, closeDelay := some 0 }
     s.gate.closeDelay.isSome ∧ s.gate.barrier = .closing ∧ s.aisle.active .closedLimit = false) ∧
    (let s := settling (withGate serving fun g =>
       { g with barrier := .checking, travel := some 1, pointer := 15, queues := { a := [auth], b := [auth] } }) .closedLimit true false
     (s.aisle.filters.get .closedLimit).debounce.isSome ∧ s.gate.barrier = .checking ∧ s.gate.travel.isSome ∧
     (s.aisle.pins.closedLimit == s.aisle.params.closedLimit.activeHigh) = true ∧ s.aisle.active .openLimit = false ∧
     s.gate.queues.a ≠ [] ∧ s.gate.queues.b ≠ [] ∧ s.gate.pointer < 16) := by decide +kernel

/-! Settings, supervision, the journal and the port. -/

theorem lampLaw_reset : State.reset.lampLaw := by
  unfold State.lampLaw
  decide
theorem test_met_SettingRequests : State.reset.port.ready ∧ State.reset.lampLaw ∧ 3 < 4 ∧
    [AisleMode.closed, .entryOnly, .exitOnly, .bidirectional][3]? = some .bidirectional ∧ (List.replicate 16 1).length = 16 ∧
    [1, 2, 3, 4, 5, 6, 7].length = 7 ∧ State.reset.sup.lampOrder = [.free, .outOfService, .alarm, .refused, .retap, .go, .idle] ∧
    (freeOpen .freeOpen false true false).inFreeOpen = true ∧ serving.inService .a = true ∧ serving.gate.alarms.get .a = none :=
  ⟨ready_reset, lampLaw_reset, by decide, rfl, rfl, rfl, rfl, rfl, rfl, rfl⟩
/-- R163: the sources of RETAP, GO and IDLE at side A, each with nothing above it. -/
theorem test_met_SettingRequests_lamps :
    (let quiet (s : State) : Prop := s.inFreeOpen = false ∧ s.inService .a = true ∧ s.gate.alarms.get .a = none ∧ s.sup.refusal.get .a = none
     let go (s : State) : Prop := s.gate.owner = some .a ∧ s.gate.queues.get .a ≠ []
     let retap := { serving with doubt := { serving.doubt with entries := [doubt false] } }
     let own := withGate serving fun g => { g with owner := some .a, queues := g.queues.set .a [auth] }
     quiet retap ∧ (∃ d ∈ retap.doubt.entries, d.side = .a) ∧ quiet own ∧ (∀ d ∈ own.doubt.entries, d.side ≠ .a) ∧ go own ∧
     quiet serving ∧ (∀ d ∈ serving.doubt.entries, d.side ≠ .a) ∧ ¬go serving) := by decide
theorem test_met_ParameterRequests : State.reset.port.ready ∧ (0 = 0 ∨ 7 < 0) ∧ (7 ≠ 0) ∧ 7 < 8 ∧
    [Input.za, .zm, .zb, .openLimit, .closedLimit, .driveFault, .emergency][7 - 1]? = some .emergency ∧ 10 < 11 :=
  ⟨ready_reset, by decide, by decide, by decide, rfl, by decide⟩
theorem test_met_FaultRequests : serving.port.ready ∧ (1, 3) ∉ [(1, 1), (1, 2), (2, 1), (2, 2), (2, 3)] ∧
    (2, 3) ∈ [(1, 1), (1, 2), (2, 1), (2, 2), (2, 3)] ∧ serving.sup.conds.barrier = .clear ∧
    (let s := withGate (withSup serving fun u => { u with conds := { u.conds with barrier := .raised none } })
       fun g => { g with barrier := .faultClosed, failClosedOrder := true }
     s.sup.conds.barrier ≠ .clear ∧ s.aisle.active .driveFault = false ∧ s.gate.barrier = .faultClosed ∧ s.gate.failClosedOrder = true ∧
     s.gate.reasons.fault = false ∧ s.aisle.active .closedLimit = false) :=
  ⟨ready_reset, by decide, by decide, by decide, by decide⟩

/-- The serving gate under a barrier hold. -/
def heldGate : State :=
  withGate (withSup serving fun u => { u with barrierHold := true }) fun g => { g with barrier := .held, holdOrder := true }

theorem test_met_BarrierHold : serving.port.ready ∧ serving.sup.barrierHold = false ∧ serving.inFreeOpen = false ∧
    heldGate.port.ready ∧ heldGate.sup.barrierHold = true ∧ heldGate.gate.barrier = .held ∧ heldGate.gate.failClosedOrder = false ∧
    heldGate.aisle.active .driveFault = false ∧ heldGate.aisle.active .closedLimit = false ∧
    (freeOpen .freeOpen false true false).inFreeOpen = true ∧ (freeOpen .freeOpen false true false).gate.barrier ≠ .held :=
  ⟨ready_reset, rfl, rfl, ready_reset, rfl, rfl, rfl, rfl, rfl, rfl, by decide⟩
/-- R8: a carrier that is there to be lost, with and without the hold. -/
theorem test_met_ReaderHold_carrier : (serving.reader .a).carrier = true ∧ serving.sup.readerHold.get .a = false ∧
    (withSup serving fun u => { u with readerHold := { a := true, b := false } }).sup.readerHold.get .a = true := by decide
theorem test_met_ReaderHold : serving.port.ready ∧ serving.sup.readerHold.get .a = false ∧
    (serving.reader .a).link ∈ [LinkState.settling, .searching] ∧ (serving.ctx .a).state ∈ [CtxState.polling, .holdoff] ∧
    ((writing 1).reader .a).link = .bound ∧ ((writing 1).ctx .a).state = .writing ∧
    (let s := withSup (atA (side .down none 1) .outOfService none) fun u => { u with readerHold := { a := true, b := false } }
     s.sup.readerHold.get .a = true ∧ (s.reader .a).link = .down ∧ (s.reader .a).carrier = true) ∧
    (let s := withSup (writing 1) fun u => { u with readerHold := { a := true, b := false } }
     s.port.ready ∧ s.sup.readerHold.get .a = true ∧ (s.reader .a).link = .bound) ∧
    (let s := withSup (atA { side .down none 1 with carrier := false } .outOfService none) fun u =>
       { u with readerHold := { a := true, b := false } }
     s.port.ready ∧ s.sup.readerHold.get .a = true ∧ (s.reader .a).carrier = false) :=
  ⟨ready_reset, by decide, by decide, by decide, by decide, by decide, by decide, ⟨ready_reset, rfl, rfl⟩, ready_reset, rfl, rfl⟩
theorem numberLaw_reset : State.reset.journal.numberLaw :=
  ⟨⟨rfl, rfl, rfl⟩, by decide, by decide⟩
theorem test_met_JournalRequests : State.reset.port.ready ∧ State.reset.journal.numberLaw ∧ State.reset.journal.records.length ≤ 2048 ∧
    (8 < 9 ∧ 1 ≤ 8) ∧ (∀ r ∈ State.reset.journal.records, r.seq ≠ 4) ∧
    (∃ before r after, State.reset.journal.records = before ++ r :: after ∧ (∀ q ∈ before, q.seq ≠ 2) ∧ r.seq = 2) ∧
    2147483647 < State.reset.journal.offset 2147483649 ∧ State.reset.journal.offset 4 ≤ 2147483647 ∧
    State.reset.journal.records.length ≤ State.reset.journal.offset 4 ∧ State.reset.sup.conds.journal = .clear :=
  ⟨ready_reset, numberLaw_reset, by decide, by decide, by decide, ⟨[_], _, [_], rfl, by decide, rfl⟩, by decide, by decide, by decide, rfl⟩

/-- The bytes of a GET_CLOCK frame with tag 1, after the start byte and without the last byte, and the last byte. -/
def getClockFrame : List Byte := (frameBytes 0x11 1 []).drop 1

theorem test_met_PortReceives : State.reset.port.receiver = .hunting ∧ (0x5D#8 ≠ 0x5C#8) ∧
    (withPort serving fun p => { p with receiver := .receiving [0x02], gap := some 0 }).port.receiver = .receiving [0x02] ∧
    600 < fieldAt 0 2 ([0x02, 0x59] : List Byte) ∧ fieldAt 0 2 ([0x02, 0x58] : List Byte) ≤ 600 ∧
    (let got := getClockFrame.dropLast
     let b := getClockFrame.getLast?.getD 0
     2 < got.length ∧ got.length + 1 = fieldAt 0 2 got + 6 ∧
     (crc16 ((got ++ [b]).take (fieldAt 0 2 got + 4))).toNat = fieldAt (fieldAt 0 2 got + 4) 2 (got ++ [b]) ∧
     (crc16 ((got ++ [b + 1]).take (fieldAt 0 2 got + 4))).toNat ≠ fieldAt (fieldAt 0 2 got + 4) 2 (got ++ [b + 1]) ∧
     got[2]? = some 0x11#8 ∧ fieldAt 0 2 got = 0 ∧ got[3]? = some 1) ∧
    (withPort serving fun p => { p with gap := some 0 }).port.gap.isSome ∧ State.reset.port.gap = none := by decide +kernel
/-- A good frame of each kind of judgment: a command's request, an unknown kind, a bad length, and a code without a command. -/
theorem test_met_PortReceives_frames : commandRequest (.getClock 1) = some (0x91, 1, judgeFrame 0x11 []) ∧
    31 < (0x77 : Byte).toNat ∧ lengthAllowed (0x11 : Byte).toNat [(0 : Byte)].length = false ∧
    judgeFrame 0x05 [7] = .gateCommand 7 ∧ judgeFrame 0x06 [1, 3] = .serviceHold 1 3 ∧ State.reset.port.ready :=
  ⟨by decide, by decide, by decide, by decide, by decide, ready_reset⟩
/-- R175: a request of each shape, one whose list makes it a BAD_LENGTH, and the three reasons to wait. -/
theorem test_met_PortQueues_requests : commandRequest (.getClock 1) = some (0x91, 1, .getClock) ∧
    commandRequest (.unknownKind 1 0x77) = some (0xFF, 1, .unknownKind 0x77) ∧
    commandRequest (.setLampPriority 1 []) = some (0x89, 1, .setLampPriority []) ∧
    (Request.setLampPriority []).judged = .badLength 0x09 ∧
    (let r : Reply := { kind := 0x9F, tag := 1, result := .ok, fields := [] }
     (withPort serving fun p => { p with outgoing := [r] }).port.restarting = true ∧
     (let p := (withPort serving fun p => { p with outgoing := List.replicate 8 { r with kind := 0x91 } }).port
      p.line.isSome ∧ 8 ≤ p.outgoing.length)) ∧
    (withPort serving fun p => { p with line := none }).port.line = none := by decide
theorem test_met_PortQueues : ending.port.headTaken = true ∧ ending.port.requests.length < 4 ∧
    (let p := { ending.port with requests := List.replicate 4 { tag := 1, request := .denylistEnd } }
     p.requests.length = 4 ∧ p.outgoing.length < 7 ∧ p.restarting = false) ∧
    (List.replicate 7 ({ kind := 0x91, tag := 1, result := .ok, fields := [] } : Reply)).length = 7 ∧
    (∃ f, State.reset.port.line = some f ∧ f.isRestart = false) ∧ State.reset.port.requests = [] ∧ State.reset.port.outgoing = [] ∧
    State.reset.port.rejection = 0 ∧ State.reset.port.notices ≠ [] ∧
    (withPort serving fun p => { p with rejection := 255, notices := [] }).port.rejection ≠ 0 ∧ serving.markerValid = true ∧
    serving.doubt.entries.length < 2048 - serving.journal.records.length :=
  ⟨rfl, by decide, by decide, rfl, ⟨_, rfl, rfl⟩, rfl, rfl, rfl, by decide, by decide, rfl, by decide⟩
theorem test_met_PortQueues_notices : (∀ c, (Notice.freeOpenEnd 1).cls = some c → State.reset.port.masked.get c = false) ∧
    (List.replicate 31 (Notice.freeOpenEnd 1)).length < 32 ∧ 32 ≤ (List.replicate 32 (Notice.freeOpenEnd 1)).length ∧
    (Notice.freeOpenEnd 1).cls = some .passage ∧ (Notice.fault (.denylistFull 7)).cls = some .fault ∧
    (PerClass.all true).get .passage = true ∧ (PerClass.all true).get .fault = true :=
  ⟨(by intro c h; cases h; rfl), by decide, by decide, rfl, rfl, rfl, rfl⟩
theorem test_met_PortRequestsAnswered : State.reset.port.ready ∧ [0, 0, 0, 0, 0, 0, 2].length = 7 ∧ (∃ n ∈ [0, 0, 0, 0, 0, 0, 2], 1 < n) ∧
    NoticeClass.alarm.isCondition = true ∧
    (let p := { State.reset.port with masked := PerClass.all true, flagged := PerClass.all true, withheld := PerClass.all 3 }
     p.masked.get .alarm = true ∧ p.flagged.get .alarm = true ∧ p.withheld.get .alarm = 3) :=
  ⟨ready_reset, rfl, by decide, rfl, by decide⟩

/-! The laws, at the state after reset and at the step from it. -/

theorem lists_reset : State.reset.screen.denylistLaw ∧ State.reset.screen.holdLaw ∧ State.reset.screen.sightingLaw ∧
    State.reset.doubt.law ∧ State.reset.port.law := by
  unfold Screen.denylistLaw Screen.holdLaw Screen.sightingLaw DoubtTable.law Port.law
  decide
theorem ranges_reset : State.reset.aisle.tracker.law ∧ State.reset.aisle.paramLaw ∧ State.reset.gate.rangeLaw ∧
    State.reset.port.receiverLaw := by
  refine ⟨?_, ?_, ?_, ?_⟩
  · unfold Tracker.law; decide
  · intro i; cases i <;> decide
  · unfold Gate.rangeLaw; decide
  · exact ⟨(fun _ h => by cases h), rfl⟩
theorem test_met_TablesStayLawful : State.reset.screen.holdLaw ∧ State.reset.screen.sightingLaw ∧ State.reset.aisle.paramLaw ∧
    State.reset.gate.rangeLaw ∧ State.reset.lampLaw ∧ ∃ t, step State.reset = .next t :=
  ⟨lists_reset.2.1, lists_reset.2.2.1, ranges_reset.2.1, ranges_reset.2.2.1, lampLaw_reset, _, rfl⟩
/-- A gate whose side A writes to card 7 under its in-doubt entry, while side B prices card 8 (R25, R34, R38, R49, R168). -/
def bothSides : State :=
  { serving with
    readers := { a := side .bound (some (.store false .one (record 6))) 1, b := { side .bound none 1 with claimed := some 8 } }
    ctxs :=
      { a := { state := .writing, tx := some { tap with fare := some fare, journalHeld := false, mark := none, guard := none } }
        b := { state := .pricing, tx := some { tap with card := 8, mark := none } } }
    doubt := { State.reset.doubt with entries := [doubt false] }
    fares := { current := some { side := .b, period := none }, waiting := none }
    gate := { serving.gate with reservations := { a := .held, b := .held } }
    journal := { serving.journal with reserved := 2 } }
theorem bothSides_tapLaw : bothSides.tapLaw := by
  refine ⟨?_, ?_, ?_, ?_, ?_, ?_, ?_⟩
  · intro sd
    cases sd
    · refine ⟨by unfold Reader.linkLaw; decide, by decide, by decide, ?_, by decide, by decide, by decide, by decide, by decide, ?_⟩
      · intro e h; cases h; rfl
      · intro x h
        cases h
        exact ⟨rfl, by decide, fun _ => ⟨rfl, doubt false, by decide, rfl⟩, by decide, by decide, .inl rfl⟩
    · refine ⟨by unfold Reader.linkLaw; decide, by decide, by decide, ?_, by decide, by decide, by decide, by decide, by decide, ?_⟩
      · intro e h; cases h
      · intro x h
        cases h
        exact ⟨rfl, by decide, by decide, by decide, by decide, .inl rfl⟩
  · intro x y hx hy; cases hx; cases hy; decide
  · intro p h; cases h; rfl
  · intro sd h; cases h
  · decide
  · decide
  · decide
theorem test_met_TransactionsStayLawful : bothSides.tapLaw ∧ ∃ t, step bothSides = .next t :=
  ⟨bothSides_tapLaw, _, rfl⟩
/-- Side A keeps its STORE while side B, which keeps the laws, enters WRITING. -/
theorem test_met_NoStoreInFreeOpenOrHeld : bothSides.tapLaw ∧ ∃ t, exec .pricingComplete bothSides = .next t ∧
    (bothSides.ctx .b).state ≠ .writing ∧ (t.ctx .b).state = .writing ∧ t.reader .a = bothSides.reader .a :=
  ⟨bothSides_tapLaw, _, rfl, by decide, by decide +kernel, by decide +kernel⟩
theorem test_met_QueuesStayLawful : (opened .opened (List.replicate 4 auth)).gate.queueLaw := by
  unfold Gate.queueLaw
  decide
theorem test_met_JournalStaysNumbered : State.reset.journal.numberLaw := numberLaw_reset
theorem test_met_BarrierStaysGoverned : serving.barrierLaw := by
  unfold State.barrierLaw Gate.barrierLaw
  decide +kernel
theorem test_met_RecordBytesAgree : (record 16777215).inRange = true := by decide +kernel
/-- R188: the 22 bytes of a CLAIMED frame, written out field by field; a block flag that is neither 0 nor 1 names nothing (log 17). -/
theorem test_claimed_layout :
    readClaimed [0, 0, 0, 0, 0, 0, 7, 0x01, 0x02, 3, 31, 0x00, 0x10, 0x00, 0x20, 1, 15, 0xA1, 0xA2, 0xA3, 0xA4, 1] =
      some ({ cardId := 7, issuer := 258, keyVersion := 3, productCode := 31, passFrom := 16, passTo := 32, zoneLow := 1, zoneHigh := 15,
              code := 0xA1A2A3A4 }, true) ∧
    readClaimed (List.replicate 21 0 ++ [2]) = none ∧ readSlot (List.replicate 31 2) = none := by decide +kernel
theorem test_met_FrameBytesAgree : State.reset.port.receiver = .hunting ∧ (List.replicate 600 (0 : Byte)).length ≤ 600 := by
  decide +kernel

end Sys2Proof.Tests
end

section
/-! The reader sides: the commands of the card link as the operations that they carry out. -/

namespace Sys2Proof.Machine

/-! The arms of the dispatch. -/

theorem exec_settleTimerExpiry (sd : Side) (s : State) : exec (.settleTimerExpiry sd) s = .next (s.settleExpires sd).pump := rfl

theorem exec_summonsTimerExpiry (sd : Side) (s : State) : exec (.summonsTimerExpiry sd) s = .next (s.summonsExpires sd).pump := rfl

theorem exec_holdoffTimerExpiry (sd : Side) (s : State) : exec (.holdoffTimerExpiry sd) s = .next (s.holdoffExpires sd).pump := rfl

theorem exec_idleTimerExpiry (sd : Side) (s : State) : exec (.idleTimerExpiry sd) s = .next (s.idleExpires sd).pump := rfl

theorem exec_hail (sd : Side) (clean : Bool) (card : CardId) (s : State) :
    exec (.hail sd clean card) s = .next (s.setReader sd ((s.reader sd).hearHail clean card)).pump := rfl

theorem exec_hailWindowClose {s : State} {sd : Side} {w : HailWindow} (hw : (s.reader sd).window = some w) :
    exec (.hailWindowClose sd) s = .next ((s.setReader sd { s.reader sd with window := none }).judgeWindow sd w).pump := by
  show execHailWindowClose sd s = _
  simp only [execHailWindowClose, hw, finishEvent]

theorem exec_carrierLoss (sd : Side) (s : State) : exec (.carrierLoss sd) s = .next (s.carrierLost sd).pump := rfl

theorem exec_carrierReturn (sd : Side) (s : State) : exec (.carrierReturn sd) s = .next (s.carrierReturns sd).pump := rfl

theorem exec_claimed (sd : Side) (ok : Bool) (area : StaticArea) (blocked : Bool) (s : State) :
    exec (.claimed sd ok area blocked) s = .next (s.claimedArrives sd ok area blocked).pump := rfl

theorem exec_slot (sd : Side) (ok turn : Bool) (no : SlotNo) (w : RawRecord) (s : State) :
    exec (.slot sd ok turn no w) s = .next (s.slotArrives sd ok turn no w).pump := rfl

theorem exec_done (sd : Side) (ok turn : Bool) (s : State) : exec (.done sd ok turn) s = .next (s.doneArrives sd ok turn).pump := rfl

theorem exec_answerTimerExpiry (sd : Side) (s : State) : exec (.answerTimerExpiry sd) s = .next (s.answerExpires sd).pump := rfl

theorem exec_guardTimerExpiry (sd : Side) (s : State) : exec (.guardTimerExpiry sd) s = .next (s.guardExpires sd).pump := rfl

/-! Writes that change nothing. -/

@[simp] theorem State.setReader_reader (s : State) (sd : Side) : s.setReader sd (s.reader sd) = s := by
  simp [State.setReader, State.reader]

@[simp] theorem State.setCtx_ctx (s : State) (sd : Side) : s.setCtx sd (s.ctx sd) = s := by
  simp [State.setCtx, State.ctx]

@[simp] theorem State.setCtx_setCtx (s : State) (sd : Side) (c d : Context) : (s.setCtx sd c).setCtx sd d = s.setCtx sd d := by
  simp [State.setCtx]

@[simp] theorem State.setReader_setReader (s : State) (sd : Side) (q r : Reader) :
    (s.setReader sd q).setReader sd r = s.setReader sd r := by
  simp [State.setReader]

/-! The timers of a side (R2, R3, R5). -/

theorem State.settleExpires_running {s : State} {sd : Side} (h : (s.reader sd).settle.isSome) :
    s.settleExpires sd = s.linkSearching sd := by
  obtain ⟨n, hn⟩ := Option.isSome_iff_exists.mp h
  simp [State.settleExpires, hn]

/-- A context whose state changes under a condition. -/
theorem State.ite_setCtxState (s : State) (sd : Side) (st : CtxState) (c : Prop) [Decidable c] :
    (if c then s.setCtxState sd st else s) =
      { s with ctxs := if c then s.ctxs.set sd { s.ctx sd with state := st } else s.ctxs } := by
  split <;> rfl

theorem State.contextBack_eq (s : State) (sd : Side) :
    s.contextBack sd =
      { s with
        ctxs := if (s.ctx sd).state = .outOfService then s.ctxs.set sd { s.ctx sd with state := .polling } else s.ctxs } :=
  s.ite_setCtxState sd .polling _

theorem State.summonsExpires_searching {s : State} {sd : Side} (h : (s.reader sd).summons.isSome)
    (hl : (s.reader sd).link = .searching) (hh : (s.reader sd).holdoff = none) :
    s.summonsExpires sd = s.setReader sd (s.reader sd).sendSummon := by
  obtain ⟨n, hn⟩ := Option.isSome_iff_exists.mp h
  simp [State.summonsExpires, hn, hl, hh]

theorem State.summonsExpires_holdoff {s : State} {sd : Side} (h : (s.reader sd).summons.isSome)
    (hh : (s.reader sd).holdoff.isSome) : s.summonsExpires sd = s.setReader sd { s.reader sd with summons := none } := by
  obtain ⟨n, hn⟩ := Option.isSome_iff_exists.mp h
  obtain ⟨m, hm⟩ := Option.isSome_iff_exists.mp hh
  simp [State.summonsExpires, hn, hm]

theorem State.holdoffExpires_running {s : State} {sd : Side} (h : (s.reader sd).holdoff.isSome) :
    s.holdoffExpires sd =
      { s with
        readers := s.readers.set sd
          { { s.reader sd with holdoff := none }.sendSummon with summons := some Cadence.active.interval }
        ctxs := if (s.ctx sd).state = .holdoff then s.ctxs.set sd { s.ctx sd with state := .polling } else s.ctxs } := by
  obtain ⟨n, hn⟩ := Option.isSome_iff_exists.mp h
  simp only [State.holdoffExpires, hn, State.ite_setCtxState]
  rfl

theorem State.idleExpires_running {s : State} {sd : Side} (h : (s.reader sd).idle.isSome) :
    s.idleExpires sd =
      s.setReader sd { s.reader sd with idle := none, cadence := if s.gate.mode = .closed then .quiet else .idle } := by
  obtain ⟨n, hn⟩ := Option.isSome_iff_exists.mp h
  simp [State.idleExpires, hn]

/-- R3's intervals, written out. -/
theorem Cadence.interval_eq (c : Cadence) : c.interval = match c with | .active => 15 | .idle => 120 | .quiet => 500 := by
  cases c <;> rfl

/-- A side that begins to search sends its first summons at the interval of its start cadence (R2). -/
theorem Reader.beginSearching_eq (r : Reader) (m : AisleMode) :
    r.beginSearching m =
      { r with
        link := .searching, settle := none, idle := some 30000, cadence := if m = .closed then .quiet else .active
        summons := some (if m = .closed then 500 else 15)
        window := some { ids := [], garbled := false, timer := 3 }, lastFrame := some .summon } := by
  cases m <;> rfl

/-- Settles O6: every timer of a side, by the operation that its expiry carries out. -/
theorem sideTimers : Obligations.SideTimers := by
  refine ⟨?settle, fun s sd => ⟨?summons, ?summonsInHoldoff, ?holdoff⟩, fun s sd => ⟨?idle, rfl, rfl, rfl⟩⟩
  case settle =>
    intro s sd h
    rw [exec_settleTimerExpiry, State.settleExpires_running h, State.linkSearching, State.contextBack_eq, Reader.beginSearching_eq]
    rfl
  case summons =>
    intro h hl hh
    rw [exec_summonsTimerExpiry, State.summonsExpires_searching h hl hh, Reader.sendSummon, Cadence.interval_eq]
    rfl
  case summonsInHoldoff =>
    intro h hh
    rw [exec_summonsTimerExpiry, State.summonsExpires_holdoff h hh]
    rfl
  case holdoff =>
    intro h
    rw [exec_holdoffTimerExpiry, State.holdoffExpires_running h]
    rfl
  case idle =>
    intro h
    rw [exec_idleTimerExpiry, State.idleExpires_running h]
    rfl

/-! Answers that are not called for (R4, R13). -/

/-- An answer that belongs to no exchange makes an open window garbled. -/
theorem Reader.strayAnswer_window {r : Reader} {w : HailWindow} (h : r.window = some w) :
    r.strayAnswer = { r with window := some { w with garbled := true } } := by
  simp [Reader.strayAnswer, h]

/-- Without an open window an answer that belongs to no exchange changes nothing. -/
theorem Reader.strayAnswer_closed {r : Reader} (h : r.window = none) : r.strayAnswer = r := by
  cases r
  cases h
  rfl

theorem Reader.hearHail_closed {r : Reader} (h : r.window = none) (clean : Bool) (card : CardId) : r.hearHail clean card = r := by
  cases r
  cases h
  rfl

theorem Reader.awaited_none {r : Reader} (h : r.exchange = none) : r.awaited = none := by
  simp [Reader.awaited, h]

theorem Reader.awaited_some {r : Reader} {e : Exchange} (h : r.exchange = some e) : r.awaited = some e.frame := by
  simp [Reader.awaited, h]

/-- The answers of a card other than HAIL, as commands at a side. -/
def Instr.isAnswerAt (c : Instr) (sd : Side) : Prop :=
  (∃ ok area blocked, c = .claimed sd ok area blocked) ∨ (∃ ok turn no contents, c = .slot sd ok turn no contents) ∨
    ∃ ok turn, c = .done sd ok turn

theorem exec_answer_idle {s : State} {sd : Side} {c : Instr} (hc : Instr.isAnswerAt c sd) (h : (s.reader sd).exchange = none) :
    exec c s = .next (s.setReader sd (s.reader sd).strayAnswer).pump := by
  have ha := Reader.awaited_none h
  rcases hc with ⟨ok, area, blocked, rfl⟩ | ⟨ok, turn, no, contents, rfl⟩ | ⟨ok, turn, rfl⟩
  · simp only [exec_claimed, State.claimedArrives, ha]
  · simp only [exec_slot, State.slotArrives, ha]
  · simp only [exec_done, State.doneArrives, ha]

/-! The judgment of a hail window (R4, R5, R6). -/

/-- Two cards in a window: the rest is not all of the first card. -/
theorem all_eq_false_of_ne {c : CardId} {rest : List CardId} (h : ∃ x ∈ c :: rest, ∃ y ∈ c :: rest, x ≠ y) :
    rest.all (· = c) = false := by
  by_contra hn
  have hall : ∀ x ∈ c :: rest, x = c := by simpa using hn
  obtain ⟨x, hx, y, hy, hxy⟩ := h
  exact hxy ((hall x hx).trans (hall y hy).symm)

theorem State.judgeWindow_collision {s : State} {sd : Side} {w : HailWindow}
    (h : w.garbled = true ∨ ∃ x ∈ w.ids, ∃ y ∈ w.ids, x ≠ y) : s.judgeWindow sd w = s.collide sd := by
  unfold State.judgeWindow
  split
  · rfl
  next hg =>
    have htwo := h.resolve_left hg
    split
    next hids => simp [hids] at htwo
    next card rest hids =>
      rw [hids] at htwo
      rw [if_neg (by simp [all_eq_false_of_ne htwo])]

theorem State.judgeWindow_empty {s : State} {sd : Side} {w : HailWindow} (hg : w.garbled = false) (hi : w.ids = []) :
    s.judgeWindow sd w = s := by
  simp [State.judgeWindow, hg, hi]

theorem State.judgeWindow_oneCard {s : State} {sd : Side} {w : HailWindow} {card : CardId} (hg : w.garbled = false)
    (hi : w.ids ≠ []) (hall : ∀ x ∈ w.ids, x = card) : s.judgeWindow sd w = s.oneCard sd card := by
  obtain ⟨c, rest, hcons⟩ := List.exists_cons_of_ne_nil hi
  rw [hcons] at hall
  obtain rfl : c = card := hall c (by simp)
  have hrest : rest.all (· = c) = true := by simpa using fun x hx => hall x (List.mem_cons_of_mem _ hx)
  simp only [State.judgeWindow, hg, hcons, hrest]
  rfl

/-- A collision at a context in POLLING (R5, R26). -/
theorem State.collide_polling {s : State} {sd : Side} (h : (s.ctx sd).state = .polling) :
    s.collide sd =
      { s with
        readers := s.readers.set sd { (s.reader sd).heard.restartHold with holdoff := some holdoffMs }
        ctxs := s.ctxs.set sd { s.ctx sd with state := .holdoff }
        sup := { s.sup with refusal := s.sup.refusal.set sd (some refusalMs) }
        port := s.port.notify (.tapResult
          { side := sd, outcome := .multipleCards, card := none, reason := none, capture := none, grant := .none, charge := none
            tariff := none }) } := by
  simp only [State.collide, State.ctx_setReader, h]
  rfl

/-- The held card heard alone restarts its absence timer (R6). -/
theorem State.oneCard_held {s : State} {sd : Side} {x : SameCardHold} (h : (s.reader sd).hold = some x) :
    s.oneCard sd x.card =
      s.setReader sd { (s.reader sd).heard with hold := some { x with absence := absenceMs } } := by
  simp [State.oneCard, Reader.heard, Reader.restartHold, h]

/-- Settles O7: what joins an open window, and each of its judgments. -/
theorem hailWindowJudged : Obligations.HailWindowJudged := by
  intro s sd w hw
  refine ⟨?clean, ?garbled, ?stray, ?empty, ?collision, ?held⟩
  case clean =>
    intro card
    simp only [exec_hail, Reader.hearHail, hw]
    rfl
  case garbled =>
    intro card
    simp only [exec_hail, Reader.hearHail, hw]
    rfl
  case stray =>
    intro answer hc he
    rw [exec_answer_idle hc he, Reader.strayAnswer_window hw]
    rfl
  case empty =>
    intro hg hi
    rw [exec_hailWindowClose hw, State.judgeWindow_empty hg hi]
    rfl
  case collision =>
    intro htwo hp
    rw [exec_hailWindowClose hw, State.judgeWindow_collision htwo, State.collide_polling (by simpa using hp)]
    rw [State.reader_setReader]
    simp only [State.setReader, PerSide.set_set]
    rfl
  case held =>
    intro h hg hi hall hh
    rw [exec_hailWindowClose hw, State.judgeWindow_oneCard hg hi hall, State.oneCard_held (by simpa using hh),
      State.reader_setReader, State.setReader_setReader]
    rfl

end Sys2Proof.Machine
end

section
/-! What verifies, the current slot, the counter rules, what is held and what a re-entry is (R19, R20, R96, R116, R117). -/

namespace Sys2Proof.Machine

/-! The current slot (R20). -/

theorem chooseSlot_higher_zero {x y : CardRecord} (h : x.counter > y.counter) :
    chooseSlot (some x) (some y) = .current .zero x := by
  rw [chooseSlot, if_pos h]

theorem chooseSlot_higher_one {x y : CardRecord} (h : x.counter < y.counter) :
    chooseSlot (some x) (some y) = .current .one y := by
  rw [chooseSlot, if_neg (by omega), if_pos h]

/-- Equal counters: the records decide. -/
theorem chooseSlot_equal {x y : CardRecord} (h : x.counter = y.counter) :
    chooseSlot (some x) (some y) = if x = y then .current .zero x else .conflict := by
  rw [chooseSlot, if_neg (by omega), if_neg (by omega)]

/-! The slots that verify (R18, R19). -/

theorem RawRecord.inRange_of_decode {raw : RawRecord} {r : CardRecord} (h : raw.decode = some r) : r.inRange = true := by
  unfold RawRecord.decode at h
  split at h
  · simp only [Option.ite_none_right_eq_some, Option.some.injEq] at h
    obtain ⟨hr, rfl⟩ := h
    exact hr
  · cases h

theorem verifiedSlot_eq_some {key : Key} {card : CardId} {w : Option RawRecord} {r : CardRecord} :
    verifiedSlot key card w = some r ↔
      ∃ raw, w = some raw ∧ raw.decode = some r ∧ Config.checkFn key card r.protectedBytes = r.code := by
  unfold verifiedSlot
  cases hd : w.bind RawRecord.decode with
  | none =>
    refine ⟨fun h => (by cases h), ?_⟩
    rintro ⟨raw, rfl, hraw, -⟩
    simp [hraw] at hd
  | some q =>
    obtain ⟨raw, rfl, hq⟩ := Option.bind_eq_some_iff.mp hd
    simp only [Option.ite_none_right_eq_some, Option.some.injEq, exists_eq_left', hq]
    constructor
    · rintro ⟨hc, rfl⟩
      exact ⟨rfl, hc⟩
    · rintro ⟨rfl, hc⟩
      exact ⟨hc, rfl⟩

theorem inRange_of_verifiedSlot {key : Key} {card : CardId} {w : Option RawRecord} {r : CardRecord}
    (h : verifiedSlot key card w = some r) : r.inRange = true := by
  obtain ⟨raw, -, hd, -⟩ := verifiedSlot_eq_some.mp h
  exact RawRecord.inRange_of_decode hd

/-! The counter rules (R116). -/

/-- Whether a sighting's alternate counter accepts a counter. -/
def Sighting.accepts (x : Sighting) (k : Nat) : Bool :=
  decide (x.alternate = some k ∨ x.alternate = some (k + 1))

theorem Sighting.accepts_iff {x : Sighting} {k : Nat} :
    x.accepts k = true ↔ x.alternate = some k ∨ x.alternate = some (k + 1) :=
  decide_eq_true_iff

/-- The tests of the counter rules in their order. -/
theorem counterRules_some (x : Sighting) (k : Nat) (p : Int) :
    counterRules (some x) k p =
      if k < x.counter ∧ x.accepts k = false then some .counter
      else if k = x.counter ∧ p ≠ x.purse then some .counter
      else if x.conflict then some .conflictFlag
      else none := by
  rcases x with ⟨card, counter, purse, _ | a, kind, second, station, gate, source, passage, conflict, joined⟩
  · simp [counterRules, Sighting.accepts]
  · simp [counterRules, Sighting.accepts, eq_comm (a := a)]

theorem counterRules_counter_iff (x : Sighting) (k : Nat) (p : Int) :
    counterRules (some x) k p = some .counter ↔ k < x.counter ∧ x.accepts k = false ∨ k = x.counter ∧ p ≠ x.purse := by
  rw [counterRules_some]
  split
  next hlow => simp [hlow]
  next hlow =>
    split
    next hpurse => simp [hpurse]
    next hpurse => cases x.conflict <;> simp [hlow, hpurse]

theorem counterRules_conflictFlag_iff (x : Sighting) (k : Nat) (p : Int) :
    counterRules (some x) k p = some .conflictFlag ↔
      x.conflict = true ∧ (k < x.counter → x.accepts k = true) ∧ (k = x.counter → p = x.purse) := by
  rw [counterRules_some]
  split
  next hlow => simp [hlow]
  next hlow =>
    split
    next hpurse => simp [hpurse]
    next hpurse =>
      have hacc : k < x.counter → x.accepts k = true := by simpa using hlow
      have hp : k = x.counter → p = x.purse := by simpa using hpurse
      simpa using fun _ => And.intro hacc hp

/-! What is held, and what a re-entry is (R96, R117). -/

theorem Screen.isHeld_iff (c : Screen) (card : CardId) (instant : Nat) :
    c.isHeld card instant = true ↔ ∃ e ∈ c.holds, e.card = card ∧ instant < e.until_ := by
  simp [Screen.isHeld]

theorem isReentry_iff (kind : TapKind) (r : CardRecord) (station instant grace : Nat) :
    isReentry kind r station instant grace = true ↔
      kind = .entry ∧ r.journey = .opened ∧ r.origin = station ∧ r.start * 60 ≤ instant ∧ instant ≤ r.start * 60 + grace := by
  have hgrace : instant - r.start * 60 ≤ grace ↔ instant ≤ r.start * 60 + grace := by omega
  simp only [isReentry, decide_eq_true_eq, hgrace]

/-- Settles O13: the slot's choice by the order of the counters, the counter rules by their cases. -/
theorem slotAndCounterRules : Obligations.SlotAndCounterRules := by
  refine ⟨fun x y => ⟨rfl, rfl, rfl, chooseSlot_higher_zero, chooseSlot_higher_one, ?same, ?differ⟩, ⟨fun k p => rfl, ?rules⟩,
    fun key card w r => ⟨verifiedSlot_eq_some, inRange_of_verifiedSlot⟩, Screen.isHeld_iff, isReentry_iff⟩
  case same =>
    intro hc hxy
    rw [chooseSlot_equal hc, if_pos hxy]
  case differ =>
    intro hc hxy
    rw [chooseSlot_equal hc, if_neg hxy]
  case rules =>
    intro x k p
    simp only [counterRules_counter_iff, counterRules_conflictFlag_iff, Bool.eq_false_iff, ne_eq, Sighting.accepts_iff, not_or,
      and_self]

end Sys2Proof.Machine
end

section
/-! The layouts of the card link: a record and its 30 bytes, and the payloads of CLAIMED, SLOT and STORE (R184, R188). -/

namespace Sys2Proof.Machine

/-! Codes and the bytes that carry them. -/

theorem journeyOfCode_code (j : JourneyState) : journeyOfCode (BitVec.ofNat 8 j.code).toNat = some j := by
  cases j <;> rfl

theorem tapKindOfCode_code (k : TapKind) : tapKindOfCode (BitVec.ofNat 8 k.code).toNat = some k := by
  cases k <;> rfl

theorem slotOfByte_code (no : SlotNo) : slotOfByte no.code = some no := by
  cases no <;> rfl

theorem blockFlagOfByte_boolByte (b : Bool) : blockFlagOfByte (boolByte b) = some b := by
  cases b <;> rfl

/-! Areas read back from their bytes. -/

/-- A field behind another field. -/
theorem fieldAt_skip {k at_ n v : Nat} (rest : List Byte) (h : k ≤ at_) :
    fieldAt at_ n (beBytes k v ++ rest) = fieldAt (at_ - k) n rest :=
  fieldAt_behind rest (beBytes_length k v) h

theorem RawRecord.ofBytes_bytes (w : RawRecord) : RawRecord.ofBytes w.bytes = w := by
  unfold RawRecord.ofBytes RawRecord.bytes
  simp (disch := omega) only [List.append_assoc, fieldAt_first, fieldAt_alone, fieldAt_skip, Nat.reduceSub, BitVec.ofNat_toNat,
    BitVec.setWidth_eq]

/-- The fields of a static area, whatever follows its bytes. -/
theorem StaticArea.ofBytes_bytes (a : StaticArea) (rest : List Byte) : StaticArea.ofBytes (a.bytes ++ rest) = a := by
  unfold StaticArea.ofBytes StaticArea.bytes StaticArea.protectedBytes
  simp (disch := omega) only [List.append_assoc, fieldAt_first, fieldAt_skip, Nat.reduceSub, BitVec.ofNat_toNat, BitVec.setWidth_eq]

/-! A record in its ranges and what STORE sends for it (R18). -/

theorem CardRecord.inRange_iff (r : CardRecord) :
    r.inRange = true ↔
      r.counter ≤ 16777215 ∧ (-99999 ≤ r.purse ∧ r.purse ≤ 9999999) ∧ r.origin ≤ 255 ∧ r.start ≤ 52595999 ∧ r.paid ≤ 65535 ∧
        r.legs ≤ 4 ∧ r.lastStation ≤ 255 ∧ r.lastMinute ≤ 52595999 ∧ r.capDay ≤ 36524 ∧ r.capAcc ≤ 65535 := by
  simp [CardRecord.inRange, and_assoc]

/-- A number that fits a word is what the word holds. -/
theorem toNat_ofNat_of_lt {n v : Nat} (h : v < 2 ^ n) : (BitVec.ofNat n v).toNat = v := by
  rw [BitVec.toNat_ofNat, Nat.mod_eq_of_lt h]

theorem JourneyState.code_lt (j : JourneyState) : j.code < 2 ^ 8 := by
  cases j <;> decide

theorem TapKind.code_lt (k : TapKind) : k.code < 2 ^ 8 := by
  cases k <;> decide

/-- A purse of R18 survives its four bytes of two's complement. -/
theorem toInt_ofInt_purse {p : Int} (hlow : -99999 ≤ p) (hhigh : p ≤ 9999999) : (BitVec.ofInt 32 p).toInt = p := by
  rw [BitVec.toInt_ofInt]
  exact Int.bmod_eq_of_le (by omega) (by omega)

theorem CardRecord.toRaw_bytes {r : CardRecord} (h : r.inRange = true) : r.toRaw.bytes = r.bytes := by
  obtain ⟨_, _, _, _, _, _, _, _, _, _⟩ := r.inRange_iff.mp h
  simp (disch := omega) only [RawRecord.bytes, CardRecord.toRaw, CardRecord.bytes, CardRecord.protectedBytes, purseBytes,
    toNat_ofNat_of_lt, toNat_ofNat_of_lt r.journey.code_lt, toNat_ofNat_of_lt r.lastKind.code_lt]

theorem CardRecord.decode_toRaw {r : CardRecord} (h : r.inRange = true) : r.toRaw.decode = some r := by
  obtain ⟨_, ⟨hlow, hhigh⟩, _, _, _, _, _, _, _, _⟩ := r.inRange_iff.mp h
  simp (disch := omega) only [RawRecord.decode, CardRecord.toRaw, journeyOfCode_code, tapKindOfCode_code, toNat_ofNat_of_lt,
    toInt_ofInt_purse hlow hhigh]
  exact if_pos h

/-! The payloads of the card link. -/

theorem slotPayload_length (no : SlotNo) (w : RawRecord) : (slotPayload no w).length = 31 := by
  simp [slotPayload]

theorem readSlot_slotPayload (no : SlotNo) (w : RawRecord) : readSlot (slotPayload no w) = some (no, w) := by
  rw [readSlot, if_pos (slotPayload_length no w)]
  simp [slotPayload, slotOfByte_code, RawRecord.ofBytes_bytes]

theorem claimedPayload_length (area : StaticArea) (blocked : Bool) : (claimedPayload area blocked).length = 22 := by
  simp [claimedPayload]

theorem readClaimed_claimedPayload (area : StaticArea) (blocked : Bool) :
    readClaimed (claimedPayload area blocked) = some (area, blocked) := by
  have hflag : (claimedPayload area blocked).getD 21 0 = boolByte blocked := by
    rw [claimedPayload, List.getD_append_right _ _ _ _ (by simp)]
    simp
  rw [readClaimed, if_pos (claimedPayload_length area blocked), hflag, blockFlagOfByte_boolByte]
  simp [claimedPayload, StaticArea.ofBytes_bytes]

/-- Settles O59: each layout is read field by field; a record in range is the record of what STORE sends for it. -/
theorem recordBytesAgree : Obligations.RecordBytesAgree := by
  refine ⟨fun r h => ⟨cardRecord_bytes_length r, ?fields, ?decodes, fun no => ⟨?store, readSlot_slotPayload no r.toRaw⟩⟩,
    fun sd ok area blocked => ⟨claimedPayload_length area blocked, ?claimed⟩,
    fun sd ok turn no w => ⟨slotPayload_length no w, ?slot⟩⟩
  case fields => rw [← CardRecord.toRaw_bytes h, RawRecord.ofBytes_bytes]
  case decodes => rw [← CardRecord.toRaw_bytes h, RawRecord.ofBytes_bytes, CardRecord.decode_toRaw h]
  case store => rw [storePayload, slotPayload, CardRecord.toRaw_bytes h]
  case claimed => rw [claimedAnswer, readClaimed_claimedPayload, Option.map_some]
  case slot => rw [slotAnswer, readSlot_slotPayload, Option.map_some]

end Sys2Proof.Machine
end

section
/-! The claim, the reading and the end of a transaction (R11 to R16, R19, R20, R28, R29, R37). -/

namespace Sys2Proof.Machine

/-! What a finished transaction leaves (R6, R16, R37, R48). -/

theorem TapOutcome.setsHold_iff (o : TapOutcome) : o.setsHold = true ↔ ¬(o = .cardLost ∨ o = .retap) := by
  cases o <;> simp [TapOutcome.setsHold]

theorem TapOutcome.isRefusal_iff (o : TapOutcome) :
    o.isRefusal = true ↔ o ∉ [TapOutcome.accepted, .repeated, .resolved, .retap] := by
  cases o <;> simp [TapOutcome.isRefusal]

theorem Reader.part_eq_parted {r : Reader} (h : r.link = .bound) (held : Bool) : r.part held = r.parted held := by
  rw [Reader.parted, if_neg (by simp [h]), Reader.part, Cadence.interval_eq]
  cases held <;> rfl

theorem Reader.parted_of_ne_bound {r : Reader} (h : r.link ≠ .bound) (held : Bool) : r.parted held = r :=
  if_pos h

theorem State.partIfBound_eq (s : State) (sd : Side) :
    s.partIfBound sd = s.setReader sd ((s.reader sd).parted (s.sup.readerHold.get sd)) := by
  unfold State.partIfBound
  split
  next h => rw [Reader.part_eq_parted h]
  next h => rw [Reader.parted_of_ne_bound h, State.setReader_reader]

/-- The same-card hold that a finished tap leaves (R6, R37). -/
theorem State.holdAfter_eq (s : State) (sd : Side) (card : CardId) (o : TapOutcome) :
    (if o.setsHold then s.setReader sd ((s.reader sd).setHold card) else s) =
      s.setReader sd
        { s.reader sd with
          hold := if o = .cardLost ∨ o = .retap then (s.reader sd).hold else some { card := card, absence := 1500 } } := by
  split
  next h => rw [if_neg ((TapOutcome.setsHold_iff o).mp h)]; rfl
  next h => rw [if_pos (not_not.mp (mt (TapOutcome.setsHold_iff o).mpr h))]; exact (s.setReader_reader sd).symm

theorem State.refusalAfter_eq (s : State) (sd : Side) (o : TapOutcome) :
    (if o.isRefusal then s.handRefusal sd else s) =
      { s with sup := { s.sup with
        refusal :=
          if o ∈ [TapOutcome.accepted, .repeated, .resolved, .retap] then s.sup.refusal
          else s.sup.refusal.set sd (some 2000) } } := by
  split
  next h => rw [if_neg ((TapOutcome.isRefusal_iff o).mp h)]; rfl
  next h => rw [if_pos (not_not.mp (mt (TapOutcome.isRefusal_iff o).mpr h))]

/-- The pin is all that its release can change (R81). -/
theorem State.releasePin_eq (s : State) : ∃ pin, s.releasePin = { s with tariff := { s.tariff with pinned := pin } } := by
  unfold State.releasePin
  split
  · exact ⟨s.tariff.pinned, rfl⟩
  · exact ⟨false, rfl⟩

/-- The calculator holds no request of a side (R49). -/
def Calculator.FreeOf (f : Calculator) (sd : Side) : Prop :=
  f.waiting ≠ some sd ∧ f.current.map (·.side) ≠ some sd

/-- A waiting request that is taken is no other side's (R49). -/
theorem State.takeWaiting_eq {s : State} {sd : Side} (h : s.fares.FreeOf sd) :
    ∃ f, s.takeWaiting = { s with fares := f } ∧ f.FreeOf sd := by
  unfold State.takeWaiting
  split
  next hw => exact ⟨_, rfl, by simp, by simpa [hw] using h.1⟩
  next => exact ⟨s.fares, rfl, h⟩

/-- The calculator's requests are all that a withdrawal changes, and none of them is the side's afterwards (R49). -/
theorem State.withdrawPricing_eq (s : State) (sd : Side) :
    ∃ f, s.withdrawPricing sd = { s with fares := f } ∧ f.FreeOf sd := by
  unfold State.withdrawPricing
  refine State.takeWaiting_eq (s := { s with fares := _ }) ⟨?_, ?_⟩
  all_goals dsimp only; split <;> split <;> simp_all

/-- The release of a transaction without an attached entry (R37). -/
theorem State.releaseTx_unattached (s : State) (sd : Side) {x : Transaction} (h : x.attached = none) :
    s.releaseTx sd x =
      { s with
        gate := { s.gate with reservations := s.gate.reservations.set sd .absent }
        journal := { s.journal with reserved := s.journal.reserved - (if x.journalHeld then 1 else 0) } } := by
  simp only [State.releaseTx, h]
  split <;> rfl

/-- What the close of a side's context changes: the context is POLLING, or OUT_OF_SERVICE if its link is DOWN, and the calculator's
requests and the pin follow (R37, R49, R81). -/
theorem State.closeContext_eq (s : State) (sd : Side) :
    ∃ fares pin,
      s.closeContext sd =
        { s with
          ctxs := s.ctxs.set sd { state := if (s.reader sd).link = .down then .outOfService else .polling, tx := none }
          fares := fares
          tariff := { s.tariff with pinned := pin } } ∧
        fares.FreeOf sd := by
  dsimp only [State.closeContext]
  generalize (if (s.reader sd).link = .down then CtxState.outOfService else .polling) = st
  obtain ⟨fares, hfares, hfree⟩ := (s.setCtx sd { state := st, tx := none }).withdrawPricing_eq sd
  rw [hfares]
  obtain ⟨pin, hpin⟩ := State.releasePin_eq { s.setCtx sd { state := st, tx := none } with fares := fares }
  exact ⟨fares, pin, hpin, hfree⟩

/-- The state in which FINISHING closes the context of a transaction: all that it held is released, its refusal and its TAP_RESULT are
handed on, and its side has parted (R37). -/
def State.closing (s : State) (sd : Side) (x : Transaction) (f : Finish) : State :=
  let r := s.releaseTx sd x
  { r with
    readers := r.readers.set sd ((r.reader sd).afterTap (r.sup.readerHold.get sd) x.card f.outcome)
    sup := { r.sup with
      refusal :=
        if f.outcome ∈ [TapOutcome.accepted, .repeated, .resolved, .retap] then r.sup.refusal
        else r.sup.refusal.set sd (some 2000) }
    port := r.port.notify (.tapResult (f.tapResult sd x)) }

theorem State.finishTx_eq {s : State} {sd : Side} {x : Transaction} (f : Finish) (h : (s.ctx sd).tx = some x) :
    s.finishTx sd f = (s.closing sd x f).closeContext sd := by
  simp only [State.finishTx, h, State.refusalAfter_eq, State.partIfBound_eq, State.holdAfter_eq]
  rw [State.setReader_setReader, State.reader_setReader]
  rfl

/-- The end of a transaction without an attached entry, in a state that differs from `s` in the side's context alone (R37). -/
theorem State.finishTx_endedTo {s : State} {sd : Side} {c : Context} {x y : Transaction} (f : Finish) (hc : c.tx = some y)
    (ha : y.attached = none) (hcard : y.card = x.card) (hheld : y.journalHeld = x.journalHeld) (htariff : y.tariff = x.tariff) :
    s.endedTo ((s.setCtx sd c).finishTx sd f).pump sd x f := by
  have hy : ((s.setCtx sd c).ctx sd).tx = some y := by rw [State.ctx_setCtx, hc]
  rw [State.finishTx_eq f hy]
  obtain ⟨fares, pin, hclose, hfree⟩ := ((s.setCtx sd c).closing sd y f).closeContext_eq sd
  rw [hclose, State.closing, State.releaseTx_unattached _ _ ha, Finish.tapResult, hcard, hheld, htariff]
  refine ⟨rfl, ?_, rfl, rfl, rfl, rfl, hfree, rfl, rfl, rfl, rfl, rfl, rfl⟩
  simp only [State.setCtx, PerSide.set_set]
  rfl

/-! The claim and the reading (R11, R12, R15, R27). -/

/-- A link operation on a BOUND link is sent (R15). -/
theorem State.ask_bound {s : State} {sd : Side} (f : LinkFrame) (h : (s.reader sd).link = .bound) :
    s.ask sd f = s.setReader sd ((s.reader sd).send f) :=
  if_pos h

theorem State.claimedArrives_valid {s : State} {sd : Side} {e : Exchange} {card : CardId} (he : (s.reader sd).exchange = some e)
    (hf : e.frame = .claim card) (area : StaticArea) (blocked : Bool) :
    s.claimedArrives sd true area blocked = s.claimAnswered sd area blocked := by
  simp [State.claimedArrives, Reader.awaited_some he, hf]

theorem State.slotArrives_valid {s : State} {sd : Side} {e : Exchange} {turn : Bool} {no : SlotNo}
    (he : (s.reader sd).exchange = some e) (hf : e.frame = .fetch turn no) (w : RawRecord) :
    s.slotArrives sd true turn no w = s.slotAnswered sd no w := by
  simp [State.slotArrives, Reader.awaited_some he, hf]

/-- Settles O11: both answers lead to a fetch on a link that stays BOUND. -/
theorem claimAndFetch : Obligations.ClaimAndFetch := by
  intro s sd e he hl
  refine ⟨fun card area blocked hf => ?_, fun turn w hf => ?_⟩
  · rw [exec_claimed, State.claimedArrives_valid he hf, State.claimAnswered, State.ask_bound]
    · simp only [State.setReader, State.setCtxState, State.mapTx, State.setCtx, State.reader, State.ctx, PerSide.get_set_self,
        PerSide.set_set]
      rfl
    · simpa [State.setCtxState, State.mapTx] using hl
  · rw [exec_slot, State.slotArrives_valid he hf, State.slotAnswered, State.ask_bound]
    · simp only [State.setReader, State.mapTx, State.setCtx, State.reader, State.ctx, PerSide.get_set_self, PerSide.set_set]
      rfl
    · simpa [State.mapTx, Reader.endExchange] using hl

/-! The end of a transaction that CARD_LOST or the guard reaches (R14, R29). -/

theorem State.finishTx_endedTo_self {s : State} {sd : Side} {x : Transaction} (f : Finish) (hx : (s.ctx sd).tx = some x)
    (ha : x.attached = none) : s.endedTo (s.finishTx sd f).pump sd x f := by
  have h := State.finishTx_endedTo (s := s) (sd := sd) f hx ha rfl rfl rfl
  rwa [State.setCtx_ctx] at h

theorem State.cardLost_reading {s : State} {sd : Side} {x : Transaction} (hx : (s.ctx sd).tx = some x)
    (h : (s.ctx sd).state = .claiming ∨ (s.ctx sd).state = .reading) : s.cardLost sd = s.finishTx sd { outcome := .cardLost } := by
  rcases h with h | h <;> simp [State.cardLost, h, hx]

/-- A side that has parted is not BOUND (R16). -/
theorem Reader.parted_link_ne (r : Reader) (held : Bool) : (r.parted held).link ≠ .bound := by
  unfold Reader.parted
  split
  · assumption
  · split <;> simp

/-- A side parts once: the end of its transaction finds it parted (R16, R37). -/
theorem State.endedTo_of_parted {s t : State} {sd : Side} {x : Transaction} {f : Finish}
    (h : (s.setReader sd ((s.reader sd).parted (s.sup.readerHold.get sd))).endedTo t sd x f) : s.endedTo t sd x f := by
  obtain ⟨hreaders, hrest⟩ := h
  refine ⟨?_, hrest⟩
  rw [hreaders, State.reader_setReader, Reader.afterTap, Reader.afterTap]
  simp only [State.setReader, PerSide.set_set, Reader.parted_of_ne_bound (Reader.parted_link_ne _ _)]

theorem State.answerExpires_resends {s : State} {sd : Side} {e : Exchange} (he : (s.reader sd).exchange = some e)
    (h : e.attempt < 3) :
    s.answerExpires sd =
      s.setReader sd
        { s.reader sd with exchange := some { e with attempt := e.attempt + 1, answer := some answerMs }, lastFrame := some e.frame } := by
  simp [State.answerExpires, he, h]

theorem State.answerExpires_lost {s : State} {sd : Side} {e : Exchange} (he : (s.reader sd).exchange = some e) (h : e.attempt = 3)
    (hl : (s.reader sd).link = .bound) :
    s.answerExpires sd = (s.setReader sd ((s.reader sd).parted (s.sup.readerHold.get sd))).cardLost sd := by
  simp [State.answerExpires, he, h, Reader.part_eq_parted hl]

theorem State.guardExpires_beforeCommit {s : State} {sd : Side} {x : Transaction} (hx : (s.ctx sd).tx = some x)
    (hg : x.guard.isSome) (hs : (s.ctx sd).state ∈ [CtxState.claiming, .reading, .screening, .pricing]) :
    s.guardExpires sd = s.finishTx sd { outcome := .timeout } := by
  obtain ⟨n, hn⟩ := Option.isSome_iff_exists.mp hg
  have hb : (s.ctx sd).state.beforeCommit = true := by
    revert hs
    cases (s.ctx sd).state <;> simp [CtxState.beforeCommit]
  simp [State.guardExpires, State.abortTx, hx, hn, hb]

/-! Answers that the frame in progress does not call for (R13). -/

theorem Reader.awaited_eq_some {r : Reader} {f : LinkFrame} (h : r.awaited = some f) :
    ∃ e, r.exchange = some e ∧ e.frame = f :=
  Option.map_eq_some_iff.mp h

theorem State.strayAnswer_ignored {s : State} {sd : Side} (h : (s.reader sd).window = none) :
    s.setReader sd (s.reader sd).strayAnswer = s := by
  rw [Reader.strayAnswer_closed h, State.setReader_reader]

theorem State.slotArrives_ignored {s : State} {sd : Side} {ok turn : Bool} {no : SlotNo} (w : RawRecord)
    (hw : (s.reader sd).window = none)
    (h : ∀ e turn' no', (s.reader sd).exchange = some e → e.frame = .fetch turn' no' → ok = false ∨ turn ≠ turn' ∨ no ≠ no') :
    s.slotArrives sd ok turn no w = s := by
  unfold State.slotArrives
  split
  next turn' no' hawaited =>
    obtain ⟨e, he, hf⟩ := Reader.awaited_eq_some hawaited
    have hbad := h e turn' no' he hf
    rw [if_neg]
    rintro ⟨hok, hturn, hno⟩
    simp [hok, hturn, hno] at hbad
  next => exact State.strayAnswer_ignored hw

theorem nonempty_cardRecord : Nonempty CardRecord :=
  ⟨{ counter := 0, purse := 0, journey := .none, origin := 0, start := 0, paid := 0, legs := 0, lastStation := 0, lastKind := .entry
     lastMinute := 0, capDay := 0, capAcc := 0, code := 0 }⟩

theorem State.doneArrives_ignored {s : State} {sd : Side} {ok turn : Bool} (hw : (s.reader sd).window = none)
    (h : ∀ e turn' no' record, (s.reader sd).exchange = some e →
      e.frame = .store turn' no' record ∨ e.frame = .mark turn' → ok = false ∨ turn ≠ turn') :
    s.doneArrives sd ok turn = s := by
  have hbad {turn' : Bool} (ht : ok = false ∨ turn ≠ turn') : ¬(ok = true ∧ turn = turn') := by
    rintro ⟨hok, hturn⟩
    simp [hok, hturn] at ht
  unfold State.doneArrives
  split
  next turn' no' record hawaited =>
    obtain ⟨e, he, hf⟩ := Reader.awaited_eq_some hawaited
    exact if_neg (hbad (h e turn' no' record he (.inl hf)))
  next turn' hawaited =>
    obtain ⟨e, he, hf⟩ := Reader.awaited_eq_some hawaited
    obtain ⟨record⟩ := nonempty_cardRecord
    exact if_neg (hbad (h e turn' .zero record he (.inr hf)))
  next => exact State.strayAnswer_ignored hw

theorem State.claimedArrives_ignored {s : State} {sd : Side} {ok : Bool} (area : StaticArea) (blocked : Bool)
    (hw : (s.reader sd).window = none)
    (h : ∀ e card, (s.reader sd).exchange = some e → e.frame = .claim card → ok = false) :
    s.claimedArrives sd ok area blocked = s := by
  unfold State.claimedArrives
  split
  next card hawaited =>
    obtain ⟨e, he, hf⟩ := Reader.awaited_eq_some hawaited
    simp [h e card he hf]
  next => exact State.strayAnswer_ignored hw

/-- Settles O14: what is ignored changes nothing; the third attempt parts the side and ends its transaction, and so does the guard. -/
theorem answersAndGuard : Obligations.AnswersAndGuard := by
  refine ⟨fun s sd hw => ⟨?slot, ?done, ?claimed, ?hail⟩, fun s sd e he => ⟨?resend, ?lost⟩, ?guard⟩
  case slot =>
    intro ok turn no w h
    rw [exec_slot, State.slotArrives_ignored w hw h]
    rfl
  case done =>
    intro ok turn h
    rw [exec_done, State.doneArrives_ignored hw h]
    rfl
  case claimed =>
    intro ok area blocked h
    rw [exec_claimed, State.claimedArrives_ignored area blocked hw h]
    rfl
  case hail =>
    intro ok card
    rw [exec_hail, Reader.hearHail_closed hw, State.setReader_reader]
    rfl
  case resend =>
    intro h
    rw [exec_answerTimerExpiry, State.answerExpires_resends he h]
    rfl
  case lost =>
    intro x h hl hx ha hs
    refine ⟨_, exec_answerTimerExpiry sd s, ?_⟩
    rw [State.answerExpires_lost he h hl, State.cardLost_reading (by simpa using hx) (by simpa using hs)]
    exact State.endedTo_of_parted (State.finishTx_endedTo_self _ (by simpa using hx) ha)
  case guard =>
    intro s sd x hx hg ha hs
    refine ⟨_, exec_guardTimerExpiry sd s, ?_⟩
    rw [State.guardExpires_beforeCommit hx hg hs]
    exact State.finishTx_endedTo_self _ hx ha

/-! The card checks after slot 1 (R19, R20, R28). -/

theorem State.mapTx_some {s : State} {sd : Side} {x : Transaction} (f : Transaction → Transaction) (h : (s.ctx sd).tx = some x) :
    s.mapTx sd f = s.setCtx sd { s.ctx sd with tx := some (f x) } := by
  simp [State.mapTx, h]

section Verification

variable {s : State} {sd : Side} {x : Transaction} {area : StaticArea} {key : Key}

theorem State.verify_noKey (hx : (s.ctx sd).tx = some x) (ha : x.area = some area) (hk : x.key = none) :
    s.verify sd = s.finishTx sd { outcome := .keyUnknown } := by
  simp [State.verify, hx, ha, hk]

theorem State.verify_badCode (hx : (s.ctx sd).tx = some x) (ha : x.area = some area) (hk : x.key = some key)
    (hc : Config.checkFn key x.card area.protectedBytes ≠ area.code) : s.verify sd = s.finishTx sd { outcome := .checkFailed } := by
  simp [State.verify, hx, ha, hk, hc]

theorem State.verify_neither (hx : (s.ctx sd).tx = some x) (ha : x.area = some area) (hk : x.key = some key)
    (hc : Config.checkFn key x.card area.protectedBytes = area.code)
    (hs : chooseSlot (verifiedSlot key x.card x.slot0) (verifiedSlot key x.card x.slot1) = .neither) :
    s.verify sd = s.finishTx sd { outcome := .checkFailed } := by
  simp [State.verify, hx, ha, hk, hc, hs]

theorem State.verify_conflict (hx : (s.ctx sd).tx = some x) (ha : x.area = some area) (hk : x.key = some key)
    (hc : Config.checkFn key x.card area.protectedBytes = area.code)
    (hs : chooseSlot (verifiedSlot key x.card x.slot0) (verifiedSlot key x.card x.slot1) = .conflict) :
    s.verify sd = s.captureVerdict sd .cloneSuspect (some .slotConflict) := by
  simp [State.verify, hx, ha, hk, hc, hs]

end Verification

section Product

variable {s : State} {sd : Side} {c : Context} {x y : Transaction} {area : StaticArea}

theorem State.checkProduct_unmapped (hp : ((s.bankOf x.tariff).productFor area.productCode.toNat).1 = .unmapped) :
    (s.setCtx sd c).checkProduct sd x area = (s.setCtx sd c).finishTx sd { outcome := .productUnknown } :=
  if_pos hp

theorem State.checkProduct_mapped (hy : c.tx = some y)
    (hp : ((s.bankOf x.tariff).productFor area.productCode.toNat).1 ≠ .unmapped) :
    (s.setCtx sd c).checkProduct sd x area =
      let u :=
        s.setCtx sd { c with tx := some { y with product := some ((s.bankOf x.tariff).productFor area.productCode.toNat) } }
      match directionRefusal s.gate.mode ((s.bankOf x.tariff).productFor area.productCode.toNat).1 sd with
      | some o => u.finishTx sd { outcome := o }
      | none => u.enterScreening sd := by
  have hmap := State.mapTx_some (s := s.setCtx sd c) (sd := sd) (x := y)
    (fun t => { t with product := some ((s.bankOf x.tariff).productFor area.productCode.toNat) }) (by rw [State.ctx_setCtx, hy])
  rw [State.ctx_setCtx, State.setCtx_setCtx] at hmap
  rw [← hmap]
  exact if_neg hp

end Product

theorem directionRefusal_closed {kind : ProductKind} (sd : Side) (h : kind ≠ .staff) :
    directionRefusal .closed kind sd = some .stationClosed :=
  if_neg h

/-- A tap against the direction of the aisle (R28). -/
theorem directionRefusal_against {mode : AisleMode} {kind : ProductKind} {sd : Side} (h : kind ≠ .staff)
    (hm : (mode = .entryOnly ∧ sd = .b) ∨ (mode = .exitOnly ∧ sd = .a)) : directionRefusal mode kind sd = some .directionClosed := by
  rcases hm with ⟨rfl, rfl⟩ | ⟨rfl, rfl⟩ <;> exact if_neg h

/-- A tap that the aisle mode allows, and every STAFF tap (R28). -/
theorem directionRefusal_allowed {mode : AisleMode} {kind : ProductKind} {sd : Side}
    (h : kind = .staff ∨ mode = .bidirectional ∨ (mode = .entryOnly ∧ sd = .a) ∨ (mode = .exitOnly ∧ sd = .b)) :
    directionRefusal mode kind sd = none := by
  unfold directionRefusal
  rcases h with h | h | ⟨h, hsd⟩ | ⟨h, hsd⟩
  · exact if_pos h
  all_goals simp [*]

theorem State.entryOf_none {s : State} {card : CardId} (h : ∀ d ∈ s.doubt.entries, d.card ≠ card) : s.entryOf card = none := by
  simpa [State.entryOf] using h

/-- A card without an in-doubt entry waits for its screening (R30). -/
theorem State.enterScreening_noEntry {s : State} {sd : Side} {c : Context} {x : Transaction} (hc : c.tx = some x)
    (h : ∀ d ∈ s.doubt.entries, d.card ≠ x.card) :
    (s.setCtx sd c).enterScreening sd = s.setCtx sd { c with state := .screening } := by
  have he : (s.setCtx sd { state := .screening, tx := some x }).entryOf x.card = none := State.entryOf_none h
  simp [State.enterScreening, State.setCtxState, hc, he]

section Current

variable {s : State} {sd : Side} {x : Transaction} {area : StaticArea} {key : Key} {n : SlotNo} {record : CardRecord}

theorem State.verify_current {n : SlotNo} {record : CardRecord} (hx : (s.ctx sd).tx = some x) (ha : x.area = some area)
    (hk : x.key = some key) (hc : Config.checkFn key x.card area.protectedBytes = area.code)
    (hs : chooseSlot (verifiedSlot key x.card x.slot0) (verifiedSlot key x.card x.slot1) = .current n record) :
    s.verify sd = (s.setCtx sd { s.ctx sd with tx := some { x with current := some n } }).checkProduct sd x area := by
  simp [State.verify, hx, ha, hk, hc, hs, State.mapTx]

theorem State.verify_productUnknown (hx : (s.ctx sd).tx = some x) (hatt : x.attached = none) (ha : x.area = some area)
    (hk : x.key = some key) (hc : Config.checkFn key x.card area.protectedBytes = area.code)
    (hs : chooseSlot (verifiedSlot key x.card x.slot0) (verifiedSlot key x.card x.slot1) = .current n record)
    (hp : ((s.bankOf x.tariff).productFor area.productCode.toNat).1 = .unmapped) :
    s.endedTo (s.verify sd).pump sd x { outcome := .productUnknown } := by
  rw [State.verify_current hx ha hk hc hs, State.checkProduct_unmapped hp]
  exact State.finishTx_endedTo _ rfl hatt rfl rfl rfl

theorem State.verify_directionRefused {o : TapOutcome} (hx : (s.ctx sd).tx = some x) (hatt : x.attached = none)
    (ha : x.area = some area) (hk : x.key = some key) (hc : Config.checkFn key x.card area.protectedBytes = area.code)
    (hs : chooseSlot (verifiedSlot key x.card x.slot0) (verifiedSlot key x.card x.slot1) = .current n record)
    (hp : ((s.bankOf x.tariff).productFor area.productCode.toNat).1 ≠ .unmapped)
    (hd : directionRefusal s.gate.mode ((s.bankOf x.tariff).productFor area.productCode.toNat).1 sd = some o) :
    s.endedTo (s.verify sd).pump sd x { outcome := o } := by
  rw [State.verify_current hx ha hk hc hs, State.checkProduct_mapped rfl hp, hd]
  exact State.finishTx_endedTo _ rfl hatt rfl rfl rfl

theorem State.verify_screening (hx : (s.ctx sd).tx = some x) (ha : x.area = some area) (hk : x.key = some key)
    (hc : Config.checkFn key x.card area.protectedBytes = area.code)
    (hs : chooseSlot (verifiedSlot key x.card x.slot0) (verifiedSlot key x.card x.slot1) = .current n record)
    (hp : ((s.bankOf x.tariff).productFor area.productCode.toNat).1 ≠ .unmapped)
    (hd : directionRefusal s.gate.mode ((s.bankOf x.tariff).productFor area.productCode.toNat).1 sd = none)
    (he : ∀ d ∈ s.doubt.entries, d.card ≠ x.card) :
    s.verify sd =
      s.setCtx sd
        { state := .screening
          tx := some
            { x with current := some n, product := some ((s.bankOf x.tariff).productFor area.productCode.toNat) } } := by
  rw [State.verify_current hx ha hk hc hs, State.checkProduct_mapped rfl hp, hd]
  exact State.enterScreening_noEntry rfl he

end Current

/-- MARKING entered on a BOUND link (R29, R31, R103). -/
theorem State.enterMarking_bound {s : State} {sd : Side} {x : Transaction} (o : TapOutcome) (reason : Option CloneReason)
    (hx : (s.ctx sd).tx = some x) (hl : (s.reader sd).link = .bound) :
    ∃ pin,
      s.enterMarking sd o reason =
        { s with
          readers := s.readers.set sd ((s.reader sd).send (.mark (s.reader sd).turn))
          ctxs := s.ctxs.set sd
            { state := .marking
              tx := some { x with verdict := some (o, reason), mark := none, guard := none, waitsForSwap := false } }
          tariff := { s.tariff with pinned := pin } } := by
  simp only [State.enterMarking, State.mapTx_some _ hx]
  generalize hu : State.setCtxState _ sd .marking = u
  obtain ⟨pin, hpin⟩ := u.releasePin_eq
  refine ⟨pin, ?_⟩
  have hlink : (u.releasePin.reader sd).link = .bound := by
    rw [hpin, ← hu]
    exact hl
  rw [State.ask_bound _ hlink, hpin, ← hu]
  simp only [State.setCtxState, State.ctx_setCtx, State.setCtx_setCtx]
  rfl

/-- SLOT for slot 1 leads to the verification (R15, R27). -/
theorem State.slotArrives_one {s : State} {sd : Side} {e : Exchange} {x : Transaction} {turn : Bool}
    (he : (s.reader sd).exchange = some e) (hf : e.frame = .fetch turn .one) (hx : (s.ctx sd).tx = some x) (w : RawRecord) :
    s.slotArrives sd true turn .one w =
      State.verify
        { s with
          readers := s.readers.set sd { s.reader sd with turn := !(s.reader sd).turn, exchange := none }
          ctxs := s.ctxs.set sd { s.ctx sd with tx := some { x with slot1 := some w } } } sd := by
  rw [State.slotArrives_valid he hf]
  simp only [State.slotAnswered]
  rw [State.mapTx_some (s := s.setReader sd (s.reader sd).endExchange) _ hx]
  rfl

/-- Settles O12: each failed check ends the transaction, and a card that passes them all waits for its screening. -/
theorem cardChecks : Obligations.CardChecks := by
  intro s sd e x area turn w he hf hx harea hatt r u
  have hexec : exec (.slot sd true turn .one w) s = .next (u.verify sd).pump := by
    rw [exec_slot, State.slotArrives_one he hf hx]
  have hu : (u.ctx sd).tx = some { x with slot1 := some w } := by simp [u, State.ctx]
  have hended {t : State} {f : Finish} (h : u.endedTo t sd { x with slot1 := some w } f) : u.endedTo t sd x f := h
  refine ⟨fun hk => ⟨_, hexec, hended ?noKey⟩, fun key hk => ⟨fun hc => ⟨_, hexec, hended ?badCode⟩, fun hc =>
    ⟨fun h0 h1 => ⟨_, hexec, hended ?neither⟩,
      fun hs => ⟨fun hcap => ⟨_, hexec, hended ?conflict⟩, fun hcap hl => ⟨_, hexec, ?marking⟩⟩,
      fun n record hs => ⟨fun hp => ⟨_, hexec, hended ?unmapped⟩, fun hp hstaff hm => ⟨_, hexec, hended ?closed⟩,
        fun hp hstaff hm => ⟨_, hexec, hended ?against⟩, fun hp hm hd => ?passes⟩⟩⟩⟩
  case noKey =>
    rw [State.verify_noKey hu harea hk]
    exact State.finishTx_endedTo_self _ hu hatt
  case badCode =>
    rw [State.verify_badCode hu harea hk hc]
    exact State.finishTx_endedTo_self _ hu hatt
  case neither =>
    rw [State.verify_neither hu harea hk hc (by rw [h0, h1]; rfl)]
    exact State.finishTx_endedTo_self _ hu hatt
  case conflict =>
    rw [State.verify_conflict hu harea hk hc hs, State.captureVerdict, if_neg (by simpa [u] using hcap)]
    exact State.finishTx_endedTo_self _ hu hatt
  case marking =>
    rw [State.verify_conflict hu harea hk hc hs, State.captureVerdict, if_pos (by simpa [u] using hcap)]
    obtain ⟨pin, hpin⟩ := State.enterMarking_bound .cloneSuspect (some .slotConflict) hu (by simpa [u, r, State.reader] using hl)
    rw [hpin]
    simp only [u, PerSide.set_set, State.reader, PerSide.get_set_self]
    rfl
  case unmapped => exact State.verify_productUnknown hu hatt harea hk hc hs hp
  case closed => exact State.verify_directionRefused hu hatt harea hk hc hs hp (hm ▸ directionRefusal_closed sd hstaff)
  case against => exact State.verify_directionRefused hu hatt harea hk hc hs hp (directionRefusal_against hstaff hm)
  case passes =>
    rw [hexec, State.verify_screening hu harea hk hc hs hp (directionRefusal_allowed hm) hd]
    simp only [u, State.setCtx, PerSide.set_set]
    rfl

end Sys2Proof.Machine
end

section
/-! Loss and return of carrier (R7, R14, R31, R36, R39, R98, R155). -/

namespace Sys2Proof.Machine

/-! What the appends of the journal and the notices read and change: the books, which are the journal, the port and the JOURNAL fault. -/

/-- A state with the books of another. -/
def State.withBooks (s b : State) : State :=
  { s with
    journal := b.journal, port := b.port
    sup := { s.sup with conds := { s.sup.conds with journal := b.sup.conds.journal } } }

theorem State.withBooks_ite (s b c : State) (p : Prop) [Decidable p] :
    s.withBooks (if p then b else c) = if p then s.withBooks b else s.withBooks c :=
  apply_ite s.withBooks p b c

theorem State.withBooks_get (s b : State) {c : FaultClass} (h : c ≠ .journal) :
    (s.withBooks b).sup.conds.get c = s.sup.conds.get c := by
  cases c <;> first | rfl | exact absurd rfl h

@[simp] theorem State.lowCheck_now (s : State) : s.lowCheck.now = s.now := by
  unfold State.lowCheck
  split <;> rfl

section Books

variable {s b : State}

theorem State.notify_withBooks (n : Notice) : (s.withBooks b).notify n = s.withBooks (b.notify n) := rfl

theorem State.appendRaw_withBooks (second : Option Nat) (side : Option Side) (body : RecordBody) :
    (s.withBooks b).appendRaw second side body = s.withBooks (b.appendRaw second side body) := rfl

theorem State.lowCheck_withBooks : (s.withBooks b).lowCheck = s.withBooks b.lowCheck := by
  rw [State.lowCheck, State.lowCheck, State.withBooks_ite]
  rfl

theorem State.journalFaultNews_withBooks (h : s.now = b.now) (raised : Bool) :
    (s.withBooks b).journalFaultNews raised = s.withBooks (b.journalFaultNews raised) := by
  have hnow : (s.withBooks b).now = b.now := h
  rw [State.journalFaultNews, State.journalFaultNews, hnow, State.appendRaw_withBooks, State.lowCheck_withBooks,
    ← State.notify_withBooks, State.withBooks_ite]
  rfl

theorem State.raiseJournal_withBooks (h : s.now = b.now) : (s.withBooks b).raiseJournal = s.withBooks b.raiseJournal := by
  have hset : (s.withBooks b).setCond .journal true = s.withBooks (b.setCond .journal true) := by
    simp only [State.setCond, State.withBooks, ← h]
    rfl
  rw [State.raiseJournal, State.raiseJournal, hset, State.journalFaultNews_withBooks (b := b.setCond .journal true) h, State.withBooks_ite]
  rfl

theorem State.afterAppend_withBooks (h : s.now = b.now) : (s.withBooks b).afterAppend = s.withBooks b.afterAppend := by
  have hlow : s.now = b.lowCheck.now := by rw [State.lowCheck_now, h]
  simp only [State.afterAppend]
  rw [State.lowCheck_withBooks, State.raiseJournal_withBooks hlow, State.withBooks_ite]
  rfl

theorem State.appendReserved_withBooks (h : s.now = b.now) (second : Option Nat) (side : Option Side) (body : RecordBody) :
    (s.withBooks b).appendReserved second side body = s.withBooks (b.appendReserved second side body) :=
  State.afterAppend_withBooks
    (b := State.appendRaw { b with journal := { b.journal with reserved := b.journal.reserved - 1 } } second side body) h

theorem State.appendUnreserved_withBooks (h : s.now = b.now) (side : Option Side) (body : RecordBody) :
    (s.withBooks b).appendUnreserved side body = s.withBooks (b.appendUnreserved side body) := by
  have hnow : (s.withBooks b).now = b.now := h
  rw [State.appendUnreserved, State.appendUnreserved, hnow, State.appendRaw_withBooks,
    State.afterAppend_withBooks (b := b.appendRaw _ _ _) h, State.withBooks_ite]
  rfl

theorem State.appendReserved_frame (second : Option Nat) (side : Option Side) (body : RecordBody) :
    s.appendReserved second side body = s.withBooks (s.appendReserved second side body) :=
  State.appendReserved_withBooks (s := s) (b := s) rfl second side body

theorem State.appendUnreserved_frame (side : Option Side) (body : RecordBody) :
    s.appendUnreserved side body = s.withBooks (s.appendUnreserved side body) :=
  State.appendUnreserved_withBooks (s := s) (b := s) rfl side body

end Books

/-! The records and the reservations after an append (R165). -/

/-- The records of `s` stand at the front of those of `t`, and the reservations are the same. -/
def State.JournalGrows (s t : State) : Prop :=
  s.journal.records <+: t.journal.records ∧ t.journal.reserved = s.journal.reserved

theorem State.JournalGrows.refl (s : State) : s.JournalGrows s :=
  ⟨List.prefix_rfl, rfl⟩

theorem State.JournalGrows.trans {s t u : State} (h : s.JournalGrows t) (k : t.JournalGrows u) : s.JournalGrows u :=
  ⟨h.1.trans k.1, k.2.trans h.2⟩

theorem State.appendRaw_grows (s : State) (second : Option Nat) (side : Option Side) (body : RecordBody) :
    s.JournalGrows (s.appendRaw second side body) :=
  ⟨List.prefix_append _ _, rfl⟩

theorem State.lowCheck_grows (s : State) : s.JournalGrows s.lowCheck := by
  unfold State.lowCheck
  split
  · exact ⟨List.prefix_rfl, rfl⟩
  · exact .refl s

theorem State.raiseJournal_grows (s : State) : s.JournalGrows s.raiseJournal := by
  unfold State.raiseJournal State.journalFaultNews
  split
  · exact .refl s
  · split
    · exact (State.appendRaw_grows (s.setCond .journal true) _ _ _).trans (State.lowCheck_grows _)
    · exact .refl s

theorem State.afterAppend_grows (s : State) : s.JournalGrows s.afterAppend := by
  dsimp only [State.afterAppend]
  split
  · exact s.lowCheck_grows.trans (State.raiseJournal_grows _)
  · exact s.lowCheck_grows

theorem State.appendUnreserved_grows (s : State) (side : Option Side) (body : RecordBody) :
    s.JournalGrows (s.appendUnreserved side body) := by
  unfold State.appendUnreserved
  split
  · exact (State.appendRaw_grows s _ _ _).trans (State.afterAppend_grows _)
  · exact .refl s

/-- A reserved append puts its record at the newest end and takes its reservation (R165). -/
theorem State.appendReserved_grows (s : State) (second : Option Nat) (side : Option Side) (body : RecordBody) :
    s.journal.records ++ [{ seq := s.journal.next, second := second, side := side, body := body }] <+:
        (s.appendReserved second side body).journal.records ∧
      (s.appendReserved second side body).journal.reserved = s.journal.reserved - 1 :=
  State.afterAppend_grows
    (State.appendRaw { s with journal := { s.journal with reserved := s.journal.reserved - 1 } } second side body)

/-! The reader fault (R155). -/

theorem readerClass_ne_journal (sd : Side) : sd.readerClass ≠ .journal := by
  cases sd <;> simp [Side.readerClass]

/-- The books after the raise of a side's reader fault (R155): its record and its notice, where the class was CLEAR. -/
def State.faultTold (s : State) (sd : Side) : State :=
  if s.sup.conds.get sd.readerClass ≠ .clear then s
  else
    (s.appendUnreserved none (.fault sd.readerClass true .fixed)).notify (.fault (.cls sd.readerClass true .fixed))

theorem State.faultTold_withBooks {s b : State} {sd : Side} (h : s.now = b.now)
    (hc : s.sup.conds.get sd.readerClass = b.sup.conds.get sd.readerClass) :
    (s.withBooks b).faultTold sd = s.withBooks (b.faultTold sd) := by
  rw [State.faultTold, State.faultTold, State.withBooks_get _ _ (readerClass_ne_journal sd), hc, State.appendUnreserved_withBooks h,
    State.notify_withBooks, State.withBooks_ite]

theorem State.faultTold_reserved (s : State) (sd : Side) : (s.faultTold sd).journal.reserved = s.journal.reserved := by
  unfold State.faultTold
  split
  · rfl
  · exact (s.appendUnreserved_grows _ _).2

theorem State.faultTold_now (s : State) (sd : Side) : (s.faultTold sd).now = s.now := by
  unfold State.faultTold
  split
  · rfl
  · rw [State.appendUnreserved_frame]
    rfl

theorem State.responseOf_readerClass (s : State) (sd : Side) : s.responseOf sd.readerClass = .fixed := by
  cases sd <;> rfl

/-- The fault conditions with a side's reader fault raised, or as they are where it is RAISED already. -/
def State.readerRaised (s : State) (sd : Side) : FaultConds :=
  if s.sup.conds.get sd.readerClass ≠ .clear then s.sup.conds else s.sup.conds.set sd.readerClass (.raised s.now)

theorem State.readerRaised_ne_clear (s : State) (sd : Side) : (s.readerRaised sd).get sd.readerClass ≠ .clear := by
  unfold State.readerRaised
  split
  · assumption
  · simp

/-- A reader fault changes its own condition and the books. -/
theorem State.raisePlain_reader (s : State) (sd : Side) :
    s.raisePlain sd.readerClass =
      ({ s with sup := { s.sup with conds := s.readerRaised sd } } : State).withBooks (s.faultTold sd) := by
  have hset : s.setCond sd.readerClass true = (s.setCond sd.readerClass true).withBooks s := by
    cases sd <;> rfl
  unfold State.raisePlain State.isRaised State.readerRaised State.faultTold
  simp only [decide_eq_true_eq]
  split
  · rfl
  · rw [State.faultNews, State.responseOf_readerClass, hset, State.appendUnreserved_withBooks (by rfl), State.notify_withBooks]
    rfl

theorem FaultConds.set_of_get {p : FaultConds} {c : FaultClass} {x : FaultCond} (h : p.get c = x) : p.set c x = p := by
  subst h
  cases c <;> rfl

/-- The clear of a reader fault changes its own condition and the books. -/
theorem State.clearPlain_reader (s : State) (sd : Side) :
    ∃ b, s.clearPlain sd.readerClass =
      ({ s with sup := { s.sup with conds := s.sup.conds.set sd.readerClass .clear } } : State).withBooks b := by
  unfold State.clearPlain State.isRaised
  simp only [decide_eq_true_eq]
  split
  · refine ⟨(s.setCond sd.readerClass false).faultNews sd.readerClass false, ?_⟩
    rw [State.faultNews, State.appendUnreserved_frame]
    rfl
  next h =>
    refine ⟨s, ?_⟩
    rw [FaultConds.set_of_get (by simpa using h)]
    rfl

/-! The hold list after an addition (R98). -/

theorem mem_insertHold {x y : HoldEntry} {l : List HoldEntry} : y ∈ insertHold x l ↔ y = x ∨ y ∈ l := by
  induction l with
  | nil => simp [insertHold]
  | cons z l ih =>
    unfold insertHold
    split
    · simp
    · simp only [List.mem_cons, ih]
      tauto

theorem Screen.addHold_mem (c : Screen) (card : CardId) (u : Nat) :
    ∃ e ∈ (c.addHold card u).holds, e.card = card ∧ e.until_ = u := by
  unfold Screen.addHold
  split
  next e he => exact ⟨_, mem_insertHold.mpr (.inl rfl), by simpa using List.find?_some he, rfl⟩
  next => exact ⟨_, mem_insertHold.mpr (.inl rfl), rfl, rfl⟩

/-- The other entries stay while the list has room. -/
theorem Screen.mem_addHold_of_mem {c : Screen} {card : CardId} {e : HoldEntry} (u : Nat) (he : e ∈ c.holds) (hc : e.card ≠ card)
    (hroom : c.holds.length < 64) : e ∈ (c.addHold card u).holds := by
  unfold Screen.addHold
  split
  next => exact mem_insertHold.mpr (.inr (List.mem_filter.mpr ⟨he, by simpa using hc⟩))
  next => exact mem_insertHold.mpr (.inr (by simpa [hroom] using he))

theorem Screen.addHold_sightings (c : Screen) (card : CardId) (u : Nat) : (c.addHold card u).sightings = c.sightings := by
  unfold Screen.addHold
  split <;> rfl

/-! An entry detached (R39). -/

/-- No entry of a card is attached or past its deadline. -/
def State.Detached (s : State) (card : CardId) : Prop :=
  ∀ d ∈ s.doubt.entries, d.card = card → d.passed = false ∧ d.attached = false

theorem State.entryOf_mem {s : State} {card : CardId} {e : InDoubt} (h : s.entryOf card = some e) :
    e ∈ s.doubt.entries ∧ e.card = card :=
  ⟨List.mem_of_find?_eq_some h, by simpa using List.find?_some h⟩

theorem State.mapEntry_self {s : State} {card : CardId} {f : InDoubt → InDoubt}
    (h : ∀ d ∈ s.doubt.entries, d.card = card → f d = d) : s.mapEntry card f = s := by
  have hmap : (s.doubt.entries.map fun d => if d.card = card then f d else d) = s.doubt.entries := by
    refine (List.map_congr_left fun d hd => ?_).trans (List.map_id _)
    split
    next hc => exact h d hd hc
    next => rfl
  rw [State.mapEntry, hmap]

/-- Entries whose deadline has not passed stay, detached. -/
theorem State.detach_open {s : State} {card : CardId} (h : ∀ d ∈ s.doubt.entries, d.card = card → d.passed = false) :
    s.detach card = s.mapEntry card fun d => { d with attached := false } := by
  unfold State.detach
  split
  next hnone =>
    have hother : ∀ d ∈ s.doubt.entries, d.card ≠ card := by simpa [State.entryOf] using hnone
    exact (State.mapEntry_self fun d hd hc => absurd hc (hother d hd)).symm
  next e he =>
    obtain ⟨hmem, hcard⟩ := State.entryOf_mem he
    rw [if_neg (by simp [h e hmem hcard])]

theorem State.detach_expired {s : State} {card : CardId} {e : InDoubt} (he : s.entryOf card = some e) (hp : e.passed = true) :
    s.detach card = s.expireEntry e := by
  simp [State.detach, he, hp]

/-- A detachment that finds the card's entries detached changes nothing. -/
theorem State.detach_of_detached {s : State} {card : CardId} (h : s.Detached card) : s.detach card = s := by
  rw [State.detach_open fun d hd hc => (h d hd hc).1]
  refine State.mapEntry_self fun d hd hc => ?_
  have := (h d hd hc).2
  cases d
  simp_all

theorem State.mapEntry_detached {s : State} {card : CardId} (h : ∀ d ∈ s.doubt.entries, d.card = card → d.passed = false) :
    (s.mapEntry card fun d => { d with attached := false }).Detached card := by
  intro d hd hc
  obtain ⟨d', hd', rfl⟩ := List.mem_map.mp hd
  split at hc <;> simp_all

theorem State.removeEntry_detached (s : State) (card : CardId) : (s.removeEntry card).Detached card := by
  intro d hd hc
  simp [State.removeEntry, hc] at hd

/-- An expiry changes the table and the books. -/
theorem State.expireEntry_frame (s : State) (e : InDoubt) :
    s.expireEntry e = (s.removeEntry e.card).withBooks (s.expireEntry e) :=
  State.appendReserved_frame (s := s.removeEntry e.card) _ _ _

/-- A detachment changes the table and the books. -/
theorem State.detach_frame (s : State) (card : CardId) :
    ∃ d b, s.detach card = ({ s with doubt := d } : State).withBooks b := by
  unfold State.detach
  split
  next => exact ⟨s.doubt, s, rfl⟩
  next e he =>
    split
    · exact ⟨_, _, s.expireEntry_frame e⟩
    · exact ⟨(s.mapEntry card fun e => { e with attached := false }).doubt, s, rfl⟩

/-! The end of a transaction on a side that is DOWN (R7, R37). -/

/-- The release of a transaction's reservations and of its attached entry changes the gate's reservations, the table and the books. -/
theorem State.releaseTx_frame (s : State) (sd : Side) (x : Transaction) :
    ∃ d b, s.releaseTx sd x =
      ({ s with
        gate := { s.gate with reservations := s.gate.reservations.set sd .absent }
        doubt := d } : State).withBooks b := by
  unfold State.releaseTx
  dsimp only
  split
  next card _ =>
    split
    · obtain ⟨d, b, h⟩ := State.detach_frame (s.setReservation sd .absent).unreserve card
      exact ⟨d, b, h⟩
    · obtain ⟨d, b, h⟩ := State.detach_frame (s.setReservation sd .absent) card
      exact ⟨d, b, h⟩
  next =>
    split
    · exact ⟨s.doubt, (s.setReservation sd .absent).unreserve, rfl⟩
    · exact ⟨s.doubt, s, rfl⟩

/-- Where the card's entries are detached and the journal reservation has been given up, the authorisation's alone is released. -/
theorem State.releaseTx_detached {s : State} {sd : Side} {x : Transaction} (ha : x.attached = none ∨ x.attached = some x.card)
    (hheld : x.journalHeld = false) (hd : s.Detached x.card) : s.releaseTx sd x = s.setReservation sd .absent := by
  have hdetach : (s.setReservation sd .absent).detach x.card = s.setReservation sd .absent := State.detach_of_detached hd
  rcases ha with ha | ha <;> simp [State.releaseTx, ha, hheld, hdetach]

/-- FINISHING on a side that is DOWN: no PART, and the context is out of service. -/
theorem State.finishTx_down {s : State} {sd : Side} {x : Transaction} (f : Finish) (hx : (s.ctx sd).tx = some x)
    (hl : (s.reader sd).link = .down) :
    ∃ fares pin, s.finishTx sd f =
      { s.releaseTx sd x with
        readers := s.readers.set sd
          { s.reader sd with
            hold :=
              if f.outcome = .cardLost ∨ f.outcome = .retap then (s.reader sd).hold
              else some { card := x.card, absence := 1500 } }
        ctxs := s.ctxs.set sd { state := .outOfService, tx := none }
        fares := fares
        tariff := { s.tariff with pinned := pin }
        sup := { (s.releaseTx sd x).sup with
          refusal :=
            if f.outcome ∈ [TapOutcome.accepted, .repeated, .resolved, .retap] then s.sup.refusal
            else s.sup.refusal.set sd (some 2000) }
        port := (s.releaseTx sd x).port.notify (.tapResult (f.tapResult sd x)) } := by
  obtain ⟨fares, pin, hclose, -⟩ := (s.closing sd x f).closeContext_eq sd
  obtain ⟨d, b, hrelease⟩ := s.releaseTx_frame sd x
  refine ⟨fares, pin, ?_⟩
  have hparted (held : Bool) : (s.reader sd).parted held = s.reader sd := Reader.parted_of_ne_bound (by simp [hl]) held
  have hreader : (s.closing sd x f).readers = s.readers.set sd
      { s.reader sd with
        hold :=
          if f.outcome = .cardLost ∨ f.outcome = .retap then (s.reader sd).hold
          else some { card := x.card, absence := 1500 } } := by
    rw [State.closing, hrelease, ← hparted (s.sup.readerHold.get sd)]
    rfl
  have hlink : ((s.closing sd x f).reader sd).link = .down := by
    rw [State.reader, hreader, PerSide.get_set_self]
    exact hl
  rw [State.finishTx_eq f hx, hclose, if_pos hlink, hreader, State.closing, hrelease]
  rfl

/-- What the end of an exchange on a side that is DOWN keeps: the side but for its same-card hold, the other side and its context, the
queues, the barrier, the sensing, and every fault class but JOURNAL. -/
structure State.SideKept (s t : State) (sd : Side) : Prop where
  readers : ∃ hold, t.readers = s.readers.set sd { s.reader sd with hold := hold }
  ctx_other : t.ctx sd.other = s.ctx sd.other
  queues : t.gate.queues = s.gate.queues
  barrier : t.gate.barrier = s.gate.barrier
  aisle : t.aisle = s.aisle
  conds : ∀ c, c ≠ .journal → t.sup.conds.get c = s.sup.conds.get c

theorem State.SideKept.refl (s : State) (sd : Side) : s.SideKept s sd :=
  ⟨⟨(s.reader sd).hold, (s.readers.set_get sd).symm⟩, rfl, rfl, rfl, rfl, fun _ _ => rfl⟩

theorem State.SideKept.trans {s t u : State} {sd : Side} (h : s.SideKept t sd) (k : t.SideKept u sd) : s.SideKept u sd := by
  obtain ⟨⟨hold, hr⟩, hc, hq, hb, ha, hf⟩ := h
  obtain ⟨⟨hold', hr'⟩, hc', hq', hb', ha', hf'⟩ := k
  refine ⟨⟨hold', ?_⟩, hc'.trans hc, hq'.trans hq, hb'.trans hb, ha'.trans ha, fun c hj => (hf' c hj).trans (hf c hj)⟩
  rw [hr', State.reader, hr, PerSide.get_set_self, PerSide.set_set]

theorem State.SideKept.of_link_down {s t : State} {sd : Side} (h : s.SideKept t sd) (hl : (s.reader sd).link = .down) :
    (t.reader sd).link = .down := by
  obtain ⟨hold, hr⟩ := h.readers
  rw [State.reader, hr, PerSide.get_set_self]
  exact hl

theorem State.detach_kept (s : State) (sd : Side) (card : CardId) : s.SideKept (s.detach card) sd := by
  obtain ⟨d, b, h⟩ := s.detach_frame card
  rw [h]
  exact ⟨(State.SideKept.refl s sd).readers, rfl, rfl, rfl, rfl, fun c hj => State.withBooks_get _ _ hj⟩

theorem State.finishTx_kept {s : State} {sd : Side} (f : Finish) (hl : (s.reader sd).link = .down) :
    s.SideKept (s.finishTx sd f) sd := by
  cases hx : (s.ctx sd).tx with
  | none =>
    simp only [State.finishTx, hx]
    exact .refl s sd
  | some x =>
    obtain ⟨fares, pin, h⟩ := State.finishTx_down f hx hl
    obtain ⟨d, b, hrelease⟩ := s.releaseTx_frame sd x
    rw [h, hrelease]
    exact ⟨⟨_, rfl⟩, by simp [State.ctx], rfl, rfl, rfl, fun c hj => State.withBooks_get _ _ hj⟩

theorem State.finishMark_kept {s : State} {sd : Side} (c : CaptureResult) (hl : (s.reader sd).link = .down) :
    s.SideKept (s.finishMark sd c) sd := by
  unfold State.finishMark
  split
  next => exact .refl s sd
  next x hx =>
    split
    next => exact .refl s sd
    next o reason hv =>
      obtain ⟨b, hb⟩ : ∃ b, s.appendReserved (some x.instant) (some sd)
          (.cloneCapture x.card x.captureCounter o reason c x.tariff) = s.withBooks b := ⟨_, State.appendReserved_frame _ _ _⟩
      dsimp only
      rw [hb]
      refine State.SideKept.trans ?_ (State.finishTx_kept _ hl)
      have hother : ((s.withBooks b).mapTx sd fun t => { t with journalHeld := false }).ctx sd.other = s.ctx sd.other :=
        PerSide.get_set_other _ _ _
      exact ⟨(State.SideKept.refl s sd).readers, hother, rfl, rfl, rfl, fun c hj => State.withBooks_get s b hj⟩

/-- CARD_LOST on a side that is DOWN (R14, R31, R36). -/
theorem State.cardLost_kept {s : State} {sd : Side} (hl : (s.reader sd).link = .down) : s.SideKept (s.cardLost sd) sd := by
  unfold State.cardLost
  split
  next x _ hx =>
    have hd := s.detach_kept sd x.card
    exact hd.trans (State.finishTx_kept _ (hd.of_link_down hl))
  next => exact State.finishMark_kept _ hl
  all_goals first | exact State.finishTx_kept _ hl | exact .refl s sd

/-! The side that has lost its carrier (R7). -/

/-- A side that is DOWN without carrier; a context that was waiting for a card is out of service. -/
def State.unplugged (s : State) (sd : Side) : State :=
  { s with
    readers := s.readers.set sd { (s.reader sd).goDown with carrier := false, needsSettle := s.sup.readerHold.get sd }
    ctxs :=
      if (s.ctx sd).state = .polling ∨ (s.ctx sd).state = .holdoff then s.ctxs.set sd { s.ctx sd with state := .outOfService }
      else s.ctxs }

/-- The state in which CARD_LOST reaches the engine after a loss of carrier: the reader fault is raised and told. -/
def State.carrierGone (s : State) (sd : Side) : State :=
  ({ s.unplugged sd with sup := { s.sup with conds := s.readerRaised sd } } : State).withBooks (s.faultTold sd)

theorem State.linkDown_eq_unplugged (s : State) (sd : Side) :
    (s.setReader sd { s.reader sd with carrier := false, needsSettle := s.sup.readerHold.get sd }).linkDown sd =
      s.unplugged sd := by
  rw [State.linkDown, State.ite_setCtxState, State.reader_setReader, State.setReader_setReader]
  rfl

theorem State.raisePlain_unplugged (s : State) (sd : Side) : (s.unplugged sd).raisePlain sd.readerClass = s.carrierGone sd := by
  have htold : (s.unplugged sd).faultTold sd = (s.unplugged sd).withBooks (s.faultTold sd) :=
    State.faultTold_withBooks (s := s.unplugged sd) (b := s) rfl rfl
  rw [State.raisePlain_reader, htold]
  rfl

section CarrierGone

variable {s : State} {sd : Side}

theorem State.carrierLost_eq (h : (s.reader sd).carrier = true) :
    s.carrierLost sd = if (s.reader sd).exchange.isSome then (s.carrierGone sd).cardLost sd else s.carrierGone sd := by
  simp only [State.carrierLost, h, State.linkDown_eq_unplugged, State.raisePlain_unplugged]
  rfl

theorem State.carrierLost_idle (h : (s.reader sd).carrier = true) (he : (s.reader sd).exchange = none) :
    s.carrierLost sd = s.carrierGone sd := by
  simp [State.carrierLost_eq h, he]

theorem State.carrierLost_exchange (h : (s.reader sd).carrier = true) (he : (s.reader sd).exchange.isSome) :
    s.carrierLost sd = (s.carrierGone sd).cardLost sd := by
  rw [State.carrierLost_eq h, if_pos he]

theorem State.carrierGone_reader :
    (s.carrierGone sd).reader sd =
      { (s.reader sd).goDown with carrier := false, needsSettle := s.sup.readerHold.get sd } :=
  PerSide.get_set_self _ _ _

theorem State.carrierGone_hold : ((s.carrierGone sd).reader sd).hold = (s.reader sd).hold := by
  rw [State.carrierGone_reader]
  rfl

theorem State.carrierGone_ctx :
    (s.carrierGone sd).ctx sd =
      if (s.ctx sd).state = .polling ∨ (s.ctx sd).state = .holdoff then { s.ctx sd with state := .outOfService } else s.ctx sd := by
  unfold State.carrierGone State.withBooks State.unplugged State.ctx
  split <;> simp

/-- A context that serves a card is as it was. -/
theorem State.carrierGone_ctx_serving (hp : (s.ctx sd).state ≠ .polling) (hh : (s.ctx sd).state ≠ .holdoff) :
    (s.carrierGone sd).ctx sd = s.ctx sd := by
  rw [State.carrierGone_ctx, if_neg (by simp [hp, hh])]

theorem State.carrierGone_link : ((s.carrierGone sd).reader sd).link = .down := by
  rw [State.carrierGone_reader]
  rfl

theorem State.carrierGone_others :
    (s.carrierGone sd).reader sd.other = s.reader sd.other ∧ (s.carrierGone sd).ctx sd.other = s.ctx sd.other := by
  unfold State.carrierGone State.withBooks State.unplugged State.ctx State.reader
  refine ⟨by simp, ?_⟩
  split <;> simp

theorem State.carrierGone_conds : (s.carrierGone sd).sup.conds.get sd.readerClass ≠ .clear := by
  rw [State.carrierGone, State.withBooks_get _ _ (readerClass_ne_journal sd)]
  exact s.readerRaised_ne_clear sd

theorem State.carrierLost_kept (h : (s.reader sd).carrier = true) : (s.carrierGone sd).SideKept (s.carrierLost sd) sd := by
  rw [State.carrierLost_eq h]
  split
  · exact State.cardLost_kept State.carrierGone_link
  · exact .refl _ sd

end CarrierGone

/-! CARD_LOST on a side that is DOWN, state by state (R27, R31, R36). -/

section CardLost

variable {s : State} {sd : Side} {x : Transaction}

theorem State.cardLost_writing (hx : (s.ctx sd).tx = some x) (hs : (s.ctx sd).state = .writing) :
    s.cardLost sd = (s.detach x.card).finishTx sd { outcome := .retap } := by
  simp [State.cardLost, hs, hx]

theorem State.cardLost_marking (hx : (s.ctx sd).tx = some x) (hs : (s.ctx sd).state = .marking) :
    s.cardLost sd = s.finishMark sd .failed := by
  simp [State.cardLost, hs, hx]

theorem State.cardLost_waiting (hs : (s.ctx sd).state = .outOfService) : s.cardLost sd = s := by
  simp [State.cardLost, hs]

/-- The end of MARKING on a side that is DOWN (R31, R98). -/
theorem State.finishMark_down {o : TapOutcome} {reason : Option CloneReason} (c : CaptureResult) (hx : (s.ctx sd).tx = some x)
    (hv : x.verdict = some (o, reason)) (ha : x.attached = none) (ho : o = .denylisted ∨ o = .cloneSuspect)
    (hl : (s.reader sd).link = .down) :
    let u := s.appendReserved (some x.instant) (some sd) (.cloneCapture x.card x.captureCounter o reason c x.tariff)
    ∃ fares pin, s.finishMark sd c =
      { u with
        readers := s.readers.set sd { s.reader sd with hold := some { card := x.card, absence := 1500 } }
        ctxs := s.ctxs.set sd { state := .outOfService, tx := none }
        gate := { s.gate with reservations := s.gate.reservations.set sd .absent }
        fares := fares
        tariff := { s.tariff with pinned := pin }
        screen := s.screen.addHold x.card (s.screen.holdUntil x.instant)
        sup := { u.sup with refusal := s.sup.refusal.set sd (some 2000) }
        port := (u.port.notify (.holdAdded x.card (s.screen.holdUntil x.instant) c)).notify (.tapResult
          { side := sd, outcome := o, card := some x.card, reason := reason, capture := some c, grant := .none, charge := none
            tariff := some x.tariff }) } := by
  intro u
  have hu : u = s.withBooks u := State.appendReserved_frame _ _ _
  have hux : (u.ctx sd).tx = some x := by rw [hu]; exact hx
  have hmark : s.finishMark sd c =
      ((u.setCtx sd { u.ctx sd with tx := some { x with journalHeld := false } }).captureHold x.card x.instant c).finishTx sd
        { outcome := o, reason := reason, capture := some c } := by
    rw [← State.mapTx_some (fun t => { t with journalHeld := false }) hux]
    simp only [State.finishMark, hx, hv]
    rfl
  clear_value u
  generalize hw : (u.setCtx sd { u.ctx sd with tx := some { x with journalHeld := false } }).captureHold x.card x.instant c = w at hmark
  have hwx : (w.ctx sd).tx = some { x with journalHeld := false } := by
    rw [← hw]
    exact congrArg Context.tx (State.ctx_setCtx u sd _)
  have hwl : (w.reader sd).link = .down := by
    rw [← hw, hu]
    exact hl
  obtain ⟨fares, pin, hfinish⟩ := State.finishTx_down { outcome := o, reason := reason, capture := some c } hwx hwl
  refine ⟨fares, pin, ?_⟩
  have hrefusal : o ∉ [TapOutcome.accepted, .repeated, .resolved, .retap] ∧ ¬(o = .cardLost ∨ o = .retap) := by
    rcases ho with rfl | rfl <;> simp
  rw [hmark, hfinish, State.releaseTx_unattached w sd (x := { x with journalHeld := false }) ha]
  simp only [if_neg hrefusal.1, if_neg hrefusal.2]
  rw [← hw, hu]
  simp only [State.captureHold, State.notify, State.setCtx, PerSide.set_set]
  rfl

end CardLost

/-! Loss of carrier, context by context. -/

section CarrierLoss

variable {s : State} {sd : Side} {x : Transaction}

theorem State.finishTx_down_ctx (f : Finish) (hx : (s.ctx sd).tx = some x) (hl : (s.reader sd).link = .down) :
    (s.finishTx sd f).ctx sd = { state := .outOfService, tx := none } := by
  obtain ⟨fares, pin, h⟩ := State.finishTx_down f hx hl
  rw [h]
  exact PerSide.get_set_self _ _ _

/-- A context that was waiting for a card is out of service (R22, R26). -/
theorem State.carrierLost_waiting (hc : (s.reader sd).carrier = true)
    (hs : (s.ctx sd).state = .polling ∨ (s.ctx sd).state = .holdoff) : ((s.carrierLost sd).ctx sd).state = .outOfService := by
  have hgone : ((s.carrierGone sd).ctx sd).state = .outOfService := by rw [State.carrierGone_ctx, if_pos hs]
  rw [State.carrierLost_eq hc, State.cardLost_waiting hgone, ite_self]
  exact hgone

/-- Without an exchange the context keeps its transaction. -/
theorem State.carrierLost_idle_tx (hc : (s.reader sd).carrier = true) (he : (s.reader sd).exchange = none) :
    ((s.carrierLost sd).ctx sd).tx = (s.ctx sd).tx := by
  rw [State.carrierLost_idle hc he, State.carrierGone_ctx]
  split <;> rfl

theorem State.carrierLost_reading (hc : (s.reader sd).carrier = true) (he : (s.reader sd).exchange.isSome)
    (hx : (s.ctx sd).tx = some x) (hs : (s.ctx sd).state = .claiming ∨ (s.ctx sd).state = .reading) :
    s.carrierLost sd = (s.carrierGone sd).finishTx sd { outcome := .cardLost } ∧ ((s.carrierGone sd).ctx sd).tx = some x := by
  have hctx : (s.carrierGone sd).ctx sd = s.ctx sd :=
    State.carrierGone_ctx_serving (by rcases hs with hs | hs <;> simp [hs]) (by rcases hs with hs | hs <;> simp [hs])
  rw [State.carrierLost_exchange hc he, State.cardLost_reading (hctx ▸ hx) (hctx ▸ hs), hctx]
  exact ⟨rfl, hx⟩

theorem State.carrierLost_writing (hc : (s.reader sd).carrier = true) (he : (s.reader sd).exchange.isSome)
    (hx : (s.ctx sd).tx = some x) (hs : (s.ctx sd).state = .writing) :
    s.carrierLost sd = ((s.carrierGone sd).detach x.card).finishTx sd { outcome := .retap } ∧
      (((s.carrierGone sd).detach x.card).ctx sd).tx = some x := by
  have hctx : (s.carrierGone sd).ctx sd = s.ctx sd := State.carrierGone_ctx_serving (by simp [hs]) (by simp [hs])
  obtain ⟨d, b, hdetach⟩ := (s.carrierGone sd).detach_frame x.card
  rw [State.carrierLost_exchange hc he, State.cardLost_writing (hctx ▸ hx) (hctx ▸ hs)]
  refine ⟨rfl, ?_⟩
  rw [hdetach]
  exact (congrArg Context.tx hctx).trans hx

theorem State.carrierLost_marking (hc : (s.reader sd).carrier = true) (he : (s.reader sd).exchange.isSome)
    (hx : (s.ctx sd).tx = some x) (hs : (s.ctx sd).state = .marking) :
    s.carrierLost sd = (s.carrierGone sd).finishMark sd .failed ∧ ((s.carrierGone sd).ctx sd).tx = some x := by
  have hctx : (s.carrierGone sd).ctx sd = s.ctx sd := State.carrierGone_ctx_serving (by simp [hs]) (by simp [hs])
  rw [State.carrierLost_exchange hc he, State.cardLost_marking (hctx ▸ hx) (hctx ▸ hs), hctx]
  exact ⟨rfl, hx⟩

/-- The entry of a write that fails goes with its record where its deadline has passed (R39, R43). -/
theorem State.carrierGone_detach_expired {e : InDoubt} (he : s.entryOf x.card = some e) (hp : e.passed = true) :
    (s.carrierGone sd).detach x.card =
      ((s.carrierGone sd).removeEntry x.card).withBooks
        ((s.faultTold sd).appendReserved s.now (some e.side)
          (.inDoubtExpired e.card e.oldCounter e.record e.fare.kind e.fare.charge e.tariff)) := by
  have hcard := (State.entryOf_mem he).2
  rw [State.detach_expired (s := s.carrierGone sd) he hp, State.expireEntry, hcard]
  exact State.appendReserved_withBooks (s := (s.carrierGone sd).removeEntry x.card) (s.faultTold_now sd).symm _ _ _

theorem State.carrierLost_reading_ctx (hc : (s.reader sd).carrier = true) (he : (s.reader sd).exchange.isSome)
    (hx : (s.ctx sd).tx = some x) (hs : (s.ctx sd).state = .claiming ∨ (s.ctx sd).state = .reading) :
    (s.carrierLost sd).ctx sd = { state := .outOfService, tx := none } := by
  obtain ⟨h, hgx⟩ := State.carrierLost_reading hc he hx hs
  rw [h, State.finishTx_down_ctx _ hgx State.carrierGone_link]

/-- In CLAIMING and READING the tap ends with CARD_LOST. -/
theorem State.carrierLost_lost (hc : (s.reader sd).carrier = true) (he : (s.reader sd).exchange.isSome)
    (hx : (s.ctx sd).tx = some x) (hs : (s.ctx sd).state = .claiming ∨ (s.ctx sd).state = .reading) (ha : x.attached = none) :
    let t := s.carrierLost sd
    t.port = (s.faultTold sd).port.notify (.tapResult
        { side := sd, outcome := .cardLost, card := some x.card, reason := none, capture := none, grant := .none, charge := none
          tariff := some x.tariff }) ∧
      t.gate = { s.gate with reservations := s.gate.reservations.set sd .absent } ∧ t.sup.refusal.get sd = some 2000 ∧
      t.journal = { (s.faultTold sd).journal with
        reserved := (s.faultTold sd).journal.reserved - (if x.journalHeld then 1 else 0) } ∧
      (t.reader sd).hold = (s.reader sd).hold ∧ t.doubt = s.doubt ∧ t.screen = s.screen := by
  intro t
  obtain ⟨h, hgx⟩ := State.carrierLost_reading hc he hx hs
  obtain ⟨fares, pin, hfinish⟩ := State.finishTx_down { outcome := .cardLost } hgx State.carrierGone_link
  simp only [t, h]
  rw [hfinish, State.releaseTx_unattached _ sd ha, State.carrierGone_reader]
  exact ⟨rfl, rfl, PerSide.get_set_self _ _ _, rfl, (congrArg Reader.hold (PerSide.get_set_self _ _ _) :), rfl, rfl⟩

/-- In WRITING the tap ends with RETAP, which is no refusal and sets no hold. -/
theorem State.carrierLost_retap (hc : (s.reader sd).carrier = true) (he : (s.reader sd).exchange.isSome)
    (hx : (s.ctx sd).tx = some x) (hs : (s.ctx sd).state = .writing) :
    let t := s.carrierLost sd
    t.ctx sd = { state := .outOfService, tx := none } ∧
      t.gate = { s.gate with reservations := s.gate.reservations.set sd .absent } ∧ t.sup.refusal = s.sup.refusal ∧
      (t.reader sd).hold = (s.reader sd).hold ∧ t.screen = s.screen := by
  intro t
  obtain ⟨h, hgx⟩ := State.carrierLost_writing hc he hx hs
  have hlink := ((s.carrierGone sd).detach_kept sd x.card).of_link_down State.carrierGone_link
  obtain ⟨d, b, hdetach⟩ := (s.carrierGone sd).detach_frame x.card
  rw [hdetach] at h hgx hlink
  obtain ⟨fares, pin, hfinish⟩ := State.finishTx_down { outcome := .retap } hgx hlink
  obtain ⟨d', b', hrelease⟩ := State.releaseTx_frame (({ s.carrierGone sd with doubt := d } : State).withBooks b) sd x
  simp only [t, h]
  rw [hfinish, hrelease]
  exact ⟨PerSide.get_set_self _ _ _, rfl, rfl, (congrArg Reader.hold (PerSide.get_set_self _ _ _)).trans State.carrierGone_hold, rfl⟩

/-- The table and the books after that RETAP are those of the entry's detachment, with the TAP_RESULT. -/
theorem State.carrierLost_retap_books (hc : (s.reader sd).carrier = true) (he : (s.reader sd).exchange.isSome)
    (hx : (s.ctx sd).tx = some x) (hs : (s.ctx sd).state = .writing) (ha : x.attached = none ∨ x.attached = some x.card)
    (hheld : x.journalHeld = false) (hdetached : ((s.carrierGone sd).detach x.card).Detached x.card) :
    let t := s.carrierLost sd
    let u := (s.carrierGone sd).detach x.card
    t.doubt = u.doubt ∧ t.journal = u.journal ∧
      t.port = u.port.notify (.tapResult
        { side := sd, outcome := .retap, card := some x.card, reason := none, capture := none, grant := .none, charge := none
          tariff := some x.tariff }) := by
  intro t u
  obtain ⟨h, hux⟩ := State.carrierLost_writing hc he hx hs
  have hlink := ((s.carrierGone sd).detach_kept sd x.card).of_link_down State.carrierGone_link
  obtain ⟨fares, pin, hfinish⟩ := State.finishTx_down { outcome := .retap } hux hlink
  simp only [t, h]
  rw [hfinish, State.releaseTx_detached ha hheld hdetached]
  exact ⟨rfl, rfl, rfl⟩

/-- An entry whose deadline has not passed stays, detached, without a record. -/
theorem State.carrierLost_retap_open (hc : (s.reader sd).carrier = true) (he : (s.reader sd).exchange.isSome)
    (hx : (s.ctx sd).tx = some x) (hs : (s.ctx sd).state = .writing) (ha : x.attached = none ∨ x.attached = some x.card)
    (hheld : x.journalHeld = false) (hopen : ∀ d ∈ s.doubt.entries, d.card = x.card → d.passed = false) :
    let t := s.carrierLost sd
    t.doubt = (s.mapEntry x.card fun d => { d with attached := false }).doubt ∧ t.journal = (s.faultTold sd).journal ∧
      t.port = (s.faultTold sd).port.notify (.tapResult
        { side := sd, outcome := .retap, card := some x.card, reason := none, capture := none, grant := .none, charge := none
          tariff := some x.tariff }) := by
  have hdetach := State.detach_open (s := s.carrierGone sd) hopen
  have hbooks := State.carrierLost_retap_books hc he hx hs ha hheld
    (hdetach ▸ State.mapEntry_detached (s := s.carrierGone sd) hopen)
  rw [hdetach] at hbooks
  exact hbooks

/-- An entry whose deadline passed while it was attached expires with its record (R39, R43). -/
theorem State.carrierLost_retap_expired (hc : (s.reader sd).carrier = true) (he : (s.reader sd).exchange.isSome)
    (hx : (s.ctx sd).tx = some x) (hs : (s.ctx sd).state = .writing) (ha : x.attached = none ∨ x.attached = some x.card)
    (hheld : x.journalHeld = false) {e : InDoubt} (hentry : s.entryOf x.card = some e) (hp : e.passed = true) :
    let t := s.carrierLost sd
    t.doubt = (s.removeEntry x.card).doubt ∧
      (s.faultTold sd).journal.records ++
          [{ seq := (s.faultTold sd).journal.next, second := s.now, side := some e.side
             body := .inDoubtExpired e.card e.oldCounter e.record e.fare.kind e.fare.charge e.tariff }] <+: t.journal.records ∧
      t.journal.reserved = s.journal.reserved - 1 := by
  intro t
  have hdetach := State.carrierGone_detach_expired (sd := sd) hentry hp
  obtain ⟨hrecords, hreserved⟩ := (s.faultTold sd).appendReserved_grows s.now (some e.side)
    (.inDoubtExpired e.card e.oldCounter e.record e.fare.kind e.fare.charge e.tariff)
  rw [s.faultTold_reserved] at hreserved
  generalize State.appendReserved _ _ _ _ = told at hdetach hrecords hreserved
  have hdetached : ((s.carrierGone sd).detach x.card).Detached x.card := by
    rw [hdetach]
    exact (s.carrierGone sd).removeEntry_detached x.card
  obtain ⟨hdoubt, hjournal, -⟩ := State.carrierLost_retap_books hc he hx hs ha hheld hdetached
  rw [hdetach] at hdoubt hjournal
  rw [hjournal]
  exact ⟨hdoubt, hrecords, hreserved⟩

/-- In MARKING the capture has FAILED, and the card is in the hold list (R31, R98). -/
theorem State.carrierLost_captured {o : TapOutcome} {reason : Option CloneReason} (hc : (s.reader sd).carrier = true)
    (he : (s.reader sd).exchange.isSome) (hx : (s.ctx sd).tx = some x) (hs : (s.ctx sd).state = .marking)
    (hv : x.verdict = some (o, reason)) (ha : x.attached = none) (ho : o = .denylisted ∨ o = .cloneSuspect) :
    let told := (s.faultTold sd).appendReserved (some x.instant) (some sd)
      (.cloneCapture x.card x.captureCounter o reason .failed x.tariff)
    let t := s.carrierLost sd
    t.ctx sd = { state := .outOfService, tx := none } ∧
      t.gate = { s.gate with reservations := s.gate.reservations.set sd .absent } ∧ t.sup.refusal.get sd = some 2000 ∧
      (t.reader sd).hold = some { card := x.card, absence := 1500 } ∧ t.doubt = s.doubt ∧ t.journal = told.journal ∧
      t.screen = s.screen.addHold x.card (s.screen.holdUntil x.instant) ∧
      t.port = (told.port.notify (.holdAdded x.card (s.screen.holdUntil x.instant) .failed)).notify (.tapResult
        { side := sd, outcome := o, card := some x.card, reason := reason, capture := some .failed, grant := .none, charge := none
          tariff := some x.tariff }) := by
  intro told t
  obtain ⟨h, hgx⟩ := State.carrierLost_marking hc he hx hs
  obtain ⟨fares, pin, hmark⟩ := State.finishMark_down .failed hgx hv ha ho State.carrierGone_link
  have happend : (s.carrierGone sd).appendReserved (some x.instant) (some sd)
      (.cloneCapture x.card x.captureCounter o reason .failed x.tariff) = (s.carrierGone sd).withBooks told :=
    State.appendReserved_withBooks (s := s.carrierGone sd) (s.faultTold_now sd).symm _ _ _
  rw [happend] at hmark
  clear_value told
  simp only [t, h, hmark]
  exact ⟨PerSide.get_set_self _ _ _, rfl, PerSide.get_set_self _ _ _, (congrArg Reader.hold (PerSide.get_set_self _ _ _) :), rfl, rfl,
    rfl, rfl⟩

end CarrierLoss

/-- The return of carrier clears the side's fault and, without a reader hold, begins its settle (R7, R8). -/
theorem State.carrierReturns_eq {s : State} {sd : Side} (h : (s.reader sd).carrier = false) :
    ∃ b, s.carrierReturns sd =
      ({ s with
        readers := s.readers.set sd
          (if s.sup.readerHold.get sd then { s.reader sd with carrier := true }
           else { s.reader sd with carrier := true, link := .settling, settle := some 50 })
        sup := { s.sup with conds := s.sup.conds.set sd.readerClass .clear } } : State).withBooks b := by
  obtain ⟨b, hb⟩ := (s.setReader sd { s.reader sd with carrier := true }).clearPlain_reader sd
  refine ⟨b, ?_⟩
  simp only [State.carrierReturns, h, hb]
  by_cases hhold : s.sup.readerHold.get sd
  · rw [if_pos hhold]
    exact if_pos hhold
  · rw [if_neg hhold]
    refine (if_neg hhold).trans ?_
    simp only [State.setReader, State.withBooks, State.reader, PerSide.get_set_self, PerSide.set_set]
    rfl

/-- Settles O10: the side is DOWN whatever CARD_LOST makes of its context, and each context by the end that CARD_LOST gives it. -/
theorem carrierLostAndBack : Obligations.CarrierLostAndBack := by
  intro s sd
  refine ⟨fun hc => ⟨_, exec_carrierLoss sd s, ?loss⟩, fun hc => ⟨_, exec_carrierReturn sd s, ?back⟩⟩
  case back =>
    obtain ⟨b, hback⟩ := State.carrierReturns_eq hc
    rw [hback]
    refine ⟨rfl, ?_, rfl, rfl, rfl, rfl, rfl, rfl⟩
    exact (State.withBooks_get _ _ (readerClass_ne_journal sd)).trans (FaultConds.get_set_self _ _ _)
  case loss =>
    generalize ht : s.carrierLost sd = t
    have hkept : (s.carrierGone sd).SideKept t sd := ht ▸ State.carrierLost_kept hc
    obtain ⟨hold, hreaders⟩ := hkept.readers
    have hreader : t.reader sd =
        { (s.reader sd).goDown with carrier := false, needsSettle := s.sup.readerHold.get sd, hold := hold } := by
      rw [State.reader, hreaders, PerSide.get_set_self, State.carrierGone_reader]
    have hfault : t.sup.conds.get sd.readerClass ≠ .clear := by
      rw [hkept.conds _ (readerClass_ne_journal sd)]
      exact State.carrierGone_conds
    have hother : t.reader sd.other = s.reader sd.other := by
      rw [State.reader, hreaders, PerSide.get_set_other]
      exact State.carrierGone_others.1
    refine ⟨congrArg Reader.link hreader, congrArg Reader.carrier hreader, congrArg Reader.settle hreader,
      congrArg Reader.summons hreader, congrArg Reader.idle hreader, congrArg Reader.holdoff hreader, congrArg Reader.claimed hreader,
      congrArg Reader.exchange hreader, hfault, ht ▸ State.carrierLost_waiting hc, ?reading, ?idle, (congrArg Reader.lastFrame hreader :),
      ⟨?told, fun x he hx => ⟨?lost, ?retap, ?captured⟩⟩, hother, hkept.ctx_other.trans State.carrierGone_others.2, hkept.queues,
      hkept.barrier, hkept.aisle⟩
    case reading =>
      intro he hs htx
      obtain ⟨x, hx⟩ := Option.isSome_iff_exists.mp htx
      exact ht ▸ State.carrierLost_reading_ctx hc he hx hs
    case idle =>
      intro he
      have hgone : t = s.carrierGone sd := ht ▸ State.carrierLost_idle hc he
      exact ⟨(congrArg (fun u => (u.reader sd).hold) hgone).trans State.carrierGone_hold, ht ▸ State.carrierLost_idle_tx hc he⟩
    case told =>
      intro he
      rw [← ht, State.carrierLost_idle hc he]
      exact ⟨rfl, rfl⟩
    case lost =>
      intro hs ha
      obtain ⟨hport, hrest⟩ := ht ▸ State.carrierLost_lost hc he hx hs ha
      exact ⟨congrArg Port.pump hport, hrest⟩
    case retap =>
      intro hs ha hheld
      obtain ⟨hctx, hgate, hrefusal, hhold, hscreen⟩ := ht ▸ State.carrierLost_retap hc he hx hs
      refine ⟨hctx, hgate, hrefusal, hhold, hscreen, fun hopen => ?_, fun e hentry hp => ?_⟩
      · obtain ⟨hdoubt, hjournal, hport⟩ := ht ▸ State.carrierLost_retap_open hc he hx hs ha hheld hopen
        exact ⟨hdoubt, hjournal, congrArg Port.pump hport⟩
      · exact ht ▸ State.carrierLost_retap_expired hc he hx hs ha hheld hentry hp
    case captured =>
      intro o reason hs hv ha ho body until_
      obtain ⟨hctx, hgate, hrefusal, hhold, hdoubt, hjournal, hscreen, hport⟩ :=
        ht ▸ State.carrierLost_captured hc he hx hs hv ha ho
      obtain ⟨hrecords, hreserved⟩ := (s.faultTold sd).appendReserved_grows (some x.instant) (some sd) body
      rw [← hjournal] at hrecords hreserved
      have hlists : t.screen = s.screen.addHold x.card until_ := hscreen
      have hadded := s.screen.addHold_mem x.card until_
      have hothers {e : HoldEntry} := Screen.mem_addHold_of_mem (c := s.screen) (card := x.card) (e := e) until_
      have hdenylist : (s.screen.addHold x.card until_).denylist = s.screen.denylist :=
        (Screen.addHold_same s.screen x.card until_).2.2.1
      have hsightings := s.screen.addHold_sightings x.card until_
      rw [← hlists] at hadded hothers hdenylist hsightings
      exact ⟨hctx, hgate, hrefusal, hhold, hdoubt, hrecords, hreserved.trans (congrArg (· - 1) (s.faultTold_reserved sd)), hadded,
        fun e => hothers, hdenylist, hsightings, congrArg Port.pump hport⟩

end Sys2Proof.Machine
end

section
/-! The hail: the pre-claim checks and the start of a transaction (R23 to R25). -/

namespace Sys2Proof.Machine

/-! The swap that is due before a start (R78, R79). -/

/-- A state with other reader sides. -/
def State.withReaders (s : State) (rs : PerSide Reader) : State :=
  { s with readers := rs }

section Swap

variable (s : State) (rs : PerSide Reader)

theorem State.withReaders_ite (u : State) (p : Prop) [Decidable p] :
    State.withReaders (if p then s else u) rs = if p then s.withReaders rs else u.withReaders rs :=
  apply_ite (State.withReaders · rs) p s u

theorem State.appendUnreserved_withReaders (side : Option Side) (body : RecordBody) :
    (s.withReaders rs).appendUnreserved side body = (s.appendUnreserved side body).withReaders rs := by
  rw [State.appendUnreserved_frame (s := s)]
  exact State.appendUnreserved_withBooks (s := s.withReaders rs) (b := s) rfl side body

theorem State.faultNews_withReaders (c : FaultClass) (raised : Bool) :
    (s.withReaders rs).faultNews c raised = (s.faultNews c raised).withReaders rs := by
  rw [State.faultNews, State.appendUnreserved_withReaders]
  rfl

theorem State.clearPlain_withReaders (c : FaultClass) :
    (s.withReaders rs).clearPlain c = (s.clearPlain c).withReaders rs := by
  rw [State.clearPlain, State.clearPlain, State.withReaders_ite, ← State.faultNews_withReaders]
  rfl

/-- The swap test does not look at the reader sides and leaves them as they are. -/
theorem State.swapTest_withReaders : (s.withReaders rs).swapTest = s.swapTest.withReaders rs := by
  have hswap (version day : Nat) :
      (s.withReaders rs).swap version day = (s.swap version day).withReaders rs := by
    have happend := State.appendUnreserved_withReaders s.exchangeBanks rs none (.tariffActivated version s.activeVersion day)
    simp only [State.swap]
    rw [State.withReaders_ite, ← State.clearPlain_withReaders, ← happend]
    rfl
  unfold State.swapTest
  split
  next h => rw [show s.tariff.activation = none from h]
  next version day h =>
    simp only [show s.tariff.activation = some (version, day) from h]
    rw [hswap, State.withReaders_ite]
    rfl

theorem State.swapTest_readers : s.swapTest.readers = s.readers :=
  (congrArg State.readers (s.swapTest_withReaders s.readers) :)

/-- The swap test changes the tariff unit, its fault class and the books. -/
theorem State.swapTest_frame :
    ∃ tariff cond b, s.swapTest =
      ({ s with tariff := tariff, sup := { s.sup with conds := { s.sup.conds with tariff := cond } } } : State).withBooks b := by
  have hclear (u : State) :
      ∃ cond b, u.clearPlain .tariff =
        ({ u with sup := { u.sup with conds := { u.sup.conds with tariff := cond } } } : State).withBooks b := by
    unfold State.clearPlain
    split
    · refine ⟨.clear, (u.setCond .tariff false).faultNews .tariff false, ?_⟩
      rw [State.faultNews, State.appendUnreserved_frame]
      rfl
    · exact ⟨u.sup.conds.tariff, u, rfl⟩
  unfold State.swapTest
  split
  next => exact ⟨s.tariff, s.sup.conds.tariff, s, rfl⟩
  next version day h =>
    split
    · simp only [State.swap]
      rw [State.appendUnreserved_frame]
      split
      · exact ⟨s.exchangeBanks.tariff, s.sup.conds.tariff, _, rfl⟩
      · obtain ⟨cond, b, hb⟩ := hclear (s.exchangeBanks.withBooks (s.exchangeBanks.appendUnreserved none
          (.tariffActivated version s.activeVersion day)))
        rw [hb]
        exact ⟨s.exchangeBanks.tariff, cond, b, rfl⟩
    · exact ⟨s.tariff, s.sup.conds.tariff, s, rfl⟩

end Swap

/-! The six checks (R23). -/

/-- A card alone in a window, which no hold keeps back, is a hail event (R4, R6). -/
theorem State.exec_hears {s : State} {sd : Side} {card : CardId} (h : s.hears sd card) :
    exec (.hailWindowClose sd) s = .next ((s.setReader sd (s.reader sd).hailed).hailEvent sd card).pump := by
  obtain ⟨⟨w, hw, hg, hi, hall⟩, hhold, hp⟩ := h
  have hother : (s.reader sd).hailed.hold.map (·.card) ≠ some card := by
    intro hc
    obtain ⟨x, hx, hxc⟩ := Option.map_eq_some_iff.mp hc
    exact hhold x hx hxc
  rw [exec_hailWindowClose hw, State.judgeWindow_oneCard hg hi hall, State.oneCard, State.reader_setReader,
    State.setReader_setReader]
  refine congrArg (fun u : State => Host.Outcome.next u.pump) ((if_neg hother).trans ?_)
  rw [State.setReader_setReader]
  exact if_pos hp

theorem State.pump_ite (s t : State) (p : Prop) [Decidable p] :
    State.pump (if p then s else t) = if p then s.pump else t.pump :=
  apply_ite State.pump p s t

/-- A refusal after the side has heard the card. -/
theorem State.refuseHail_hailed (s : State) (sd : Side) (card : CardId) (o : TapOutcome) (reason : Option CloneReason)
    (tariff : Option Nat) :
    ((s.setReader sd (s.reader sd).hailed).refuseHail sd card o reason tariff).pump = s.hailRefused sd card o reason tariff := by
  simp only [State.refuseHail, State.setReader, State.handRefusal, State.notify, State.reader, PerSide.get_set_self, PerSide.set_set]
  rfl

theorem Reservation.count_eq (r : Reservation) : r.count = if r = .absent then 0 else 1 := by
  cases r <;> rfl

theorem State.inService_iff (s : State) (sd : Side) :
    s.inService sd = true ↔
      ¬(s.sup.barrierHold ∨ s.gate.failClosedOrder ∨ s.sup.readerHold.get sd ∨ s.sup.conds.get sd.readerClass ≠ .clear) := by
  simp [State.inService, State.isRaised, and_assoc]

theorem State.inFreeOpen_iff (s : State) :
    s.inFreeOpen = true ↔ s.gate.reasons.emergency ∨ s.gate.reasons.command ∨ s.gate.reasons.fault := by
  simp [State.inFreeOpen, or_assoc]

theorem State.canReserve_iff (s : State) :
    s.canReserve = true ↔ ¬2048 - s.journal.records.length ≤ s.journal.reserved + 16 := by
  rw [State.canReserve, decide_eq_true_iff, State.free, Nat.not_le]

/-- The transaction of a card that a side claims, both reservations held (R21, R24, R27). -/
def State.claimedBy (u : State) (sd : Side) (card : CardId) (now : Nat) : State :=
  { u with
    readers := u.readers.set sd
      { (u.reader sd).hailed with
        link := .bound, claimed := some card, summons := none, lastFrame := some (.claim card)
        exchange := some { frame := .claim card, attempt := 1, answer := some 3 } }
    ctxs := u.ctxs.set sd
      { state := .claiming
        tx := some (.begin card now (u.tariff.active.version.getD 0) u.tariff.keys u.screen.markNow) }
    gate := { u.gate with reservations := u.gate.reservations.set sd .held }
    journal := { u.journal with reserved := u.journal.reserved + 1 } }

/-- The BOTH_SIDES check and the claim, at a side that has heard the card (R24, R25). -/
theorem State.startTx_hailed (u : State) (sd : Side) (card : CardId) (now : Nat) :
    (((u.setReader sd (u.reader sd).hailed).setReservation sd .held).reserve.startTx sd card now).pump =
      if (u.ctx sd.other).serves card then
        (u.setReservation sd .absent).hailRefused sd card .cloneSuspect (some .bothSides) (some (u.tariff.active.version.getD 0))
      else (u.claimedBy sd card now).pump := by
  have hreleased : (((u.setReader sd (u.reader sd).hailed).setReservation sd .held).reserve.setReservation sd .absent).unreserve =
      (u.setReservation sd .absent).setReader sd ((u.setReservation sd .absent).reader sd).hailed := by
    simp only [State.setReservation, State.reserve, State.unreserve, PerSide.set_set]
    rfl
  dsimp only [State.startTx]
  rw [hreleased, State.pump_ite]
  refine if_congr Iff.rfl (State.refuseHail_hailed _ _ _ _ _ _) ?_
  simp only [State.setReader, State.reader, State.setCtx, State.setReservation, State.reserve, PerSide.get_set_self, PerSide.set_set]
  rfl

/-- Checks 5 and 6 with their reservations, at a side that has heard the card (R23, R24). -/
theorem State.reserveAndStart_hailed (u : State) (sd : Side) (card : CardId) (now : Nat) :
    ((u.setReader sd (u.reader sd).hailed).reserveAndStart sd card now).pump =
      if 4 ≤ (u.gate.queues.get sd).length + (if u.gate.reservations.get sd = .absent then 0 else 1) then
        u.hailRefused sd card .sideFull none none
      else if 2048 - u.journal.records.length ≤ u.journal.reserved + 16 then
        (u.setReservation sd .absent).hailRefused sd card .journalFull none none
      else if (u.ctx sd.other).serves card then
        (u.setReservation sd .absent).hailRefused sd card .cloneSuspect (some .bothSides) (some (u.tariff.active.version.getD 0))
      else (u.claimedBy sd card now).pump := by
  have hreleased : ((u.setReader sd (u.reader sd).hailed).setReservation sd .held).setReservation sd .absent =
      (u.setReservation sd .absent).setReader sd ((u.setReservation sd .absent).reader sd).hailed := by
    simp only [State.setReservation, PerSide.set_set]
    rfl
  rw [← Reservation.count_eq]
  dsimp only [State.reserveAndStart]
  rw [hreleased, State.pump_ite]
  refine if_congr Iff.rfl (State.refuseHail_hailed _ _ _ _ _ _) ?_
  rw [State.pump_ite, ← State.startTx_hailed, ← ite_not]
  exact if_congr ((State.canReserve_iff _).not.trans not_not) (State.refuseHail_hailed _ _ _ _ _ _) rfl

/-- Settles O8: each check of the hail event is the condition that the rule states, and the swap test leaves the side as it has heard
the card. -/
theorem preClaimChecks : Obligations.PreClaimChecks := by
  intro s sd card h u released
  have hswap : (s.setReader sd (s.reader sd).hailed).swapTest = u.setReader sd (u.reader sd).hailed := by
    refine (s.swapTest_withReaders _).trans ?_
    rw [State.setReader, State.reader, State.reader, show u.readers = s.readers from s.swapTest_readers]
    rfl
  rw [State.exec_hears h]
  refine congrArg Host.Outcome.next ?_
  rw [State.hailEvent, State.pump_ite, ← ite_not]
  refine if_congr (not_congr (State.inService_iff _ sd) |>.trans not_not) (State.refuseHail_hailed _ _ _ _ _ _) ?_
  rw [State.pump_ite]
  refine if_congr (State.inFreeOpen_iff _) (State.refuseHail_hailed _ _ _ _ _ _) ?_
  dsimp only [State.openTap]
  rw [hswap, State.pump_ite, ← ite_not]
  refine if_congr (Bool.not_eq_true _).to_iff (State.refuseHail_hailed _ _ _ _ _ _) ?_
  cases hnow : u.tariff.clock with
  | none =>
    simp only [show (u.setReader sd (u.reader sd).hailed).now = none from hnow]
    exact State.refuseHail_hailed _ _ _ _ _ _
  | some now =>
    simp only [show (u.setReader sd (u.reader sd).hailed).now = some now from hnow]
    exact u.reserveAndStart_hailed sd card now

end Sys2Proof.Machine
end

section
/-! The reserve of the journal: the claims on it, and its appends (R23, R164, R165, R168, R169). -/

namespace Sys2Proof.Machine

/-! A start keeps the reserve (R23, R24). -/

/-- Only a hail event leads to a claim. -/
theorem State.hears_of_claiming {s t : State} {sd : Side} (hp : (s.ctx sd).state = .polling)
    (he : exec (.hailWindowClose sd) s = .next t) (ht : (t.ctx sd).state = .claiming) : ∃ card, s.hears sd card := by
  cases hw : (s.reader sd).window with
  | none =>
    obtain rfl : s.pump = t := by
      simpa [show exec (.hailWindowClose sd) s = execHailWindowClose sd s from rfl, execHailWindowClose, hw, finishEvent] using he
    exact absurd (hp.symm.trans ht) (by simp)
  | some w =>
    rw [exec_hailWindowClose hw] at he
    generalize hu : s.setReader sd { s.reader sd with window := none } = u at he
    have hup : (u.ctx sd).state = .polling := by rw [← hu]; exact hp
    have hcollide : (u.collide sd).pump ≠ t := by
      rintro rfl
      rw [State.collide_polling hup] at ht
      simp [State.pump, State.ctx] at ht
    have hquiet : u.pump ≠ t := by
      rintro rfl
      exact absurd (hup.symm.trans ht) (by simp)
    injection he with he
    by_cases hg : w.garbled = true ∨ ∃ x ∈ w.ids, ∃ y ∈ w.ids, x ≠ y
    · rw [State.judgeWindow_collision hg] at he
      exact absurd he hcollide
    · obtain ⟨hclean, hsame⟩ := not_or.mp hg
      have hgf : w.garbled = false := by simpa using hclean
      cases hids : w.ids with
      | nil =>
        rw [State.judgeWindow_empty hgf hids] at he
        exact absurd he hquiet
      | cons card rest =>
        have hall : ∀ x ∈ w.ids, x = card := by
          intro x hx
          by_contra hne
          exact hsame ⟨x, hx, card, by simp [hids], hne⟩
        refine ⟨card, ⟨w, hw, hgf, by simp [hids], hall⟩, ?_, hp⟩
        intro h hhold hcard
        subst hcard
        rw [State.judgeWindow_oneCard hgf (by simp [hids]) hall, State.oneCard_held (by rw [← hu]; simpa using hhold)] at he
        rw [← he] at ht
        exact absurd (hup.symm.trans ht) (by simp)

theorem State.hailRefused_not_claiming {s : State} {sd : Side} (hp : (s.ctx sd).state = .polling) (card : CardId) (o : TapOutcome)
    (reason : Option CloneReason) (tariff : Option Nat) : ((s.hailRefused sd card o reason tariff).ctx sd).state ≠ .claiming := by
  intro h
  exact absurd (hp.symm.trans h) (by simp)

/-- A hail event that leads to a claim has passed the six checks (R23). -/
theorem State.claimed_of_claiming {s t : State} {sd : Side} {card : CardId} (h : s.hears sd card)
    (he : exec (.hailWindowClose sd) s = .next t) (ht : (t.ctx sd).state = .claiming) :
    let u := s.swapTest
    s.inService sd = true ∧ s.inFreeOpen = false ∧ u.tariff.active.valid = true ∧
      u.gate.load sd < 4 ∧ u.canReserve = true ∧ ∃ now, u.tariff.clock = some now ∧ t = (u.claimedBy sd card now).pump := by
  intro u
  have hs : (s.ctx sd).state = .polling := h.2.2
  have hu : (u.ctx sd).state = .polling := by
    obtain ⟨tariff, cond, b, hframe⟩ := s.swapTest_frame
    rw [show u = _ from hframe]
    exact hs
  have hexec := preClaimChecks s sd card h
  rw [he] at hexec
  simp only [← Reservation.count_eq] at hexec
  injection hexec with heq
  have hreleased : ((u.setReservation sd .absent).ctx sd).state = .polling := hu
  split at heq
  · exact absurd ht (heq ▸ State.hailRefused_not_claiming hs _ _ _ _)
  rename_i hservice
  split at heq
  · exact absurd ht (heq ▸ State.hailRefused_not_claiming hs _ _ _ _)
  rename_i hfree
  split at heq
  · exact absurd ht (heq ▸ State.hailRefused_not_claiming hu _ _ _ _)
  rename_i hvalid
  split at heq
  · exact absurd ht (heq ▸ State.hailRefused_not_claiming hu _ _ _ _)
  rename_i now hclock
  split at heq
  · exact absurd ht (heq ▸ State.hailRefused_not_claiming hu _ _ _ _)
  rename_i hload
  split at heq
  · exact absurd ht (heq ▸ State.hailRefused_not_claiming hreleased _ _ _ _)
  rename_i hroom
  split at heq
  · exact absurd ht (heq ▸ State.hailRefused_not_claiming hreleased _ _ _ _)
  exact ⟨(s.inService_iff sd).mpr hservice, by simpa using (not_congr s.inFreeOpen_iff).mpr hfree, by simpa using hvalid,
    Nat.lt_of_not_le hload, u.canReserve_iff.mpr hroom, now, hclock, heq⟩

/-! The appends (R165, R169). -/

/-- The record that the next append makes (R165). -/
def Journal.record (j : Journal) (second : Option Nat) (side : Option Side) (body : RecordBody) : JournalRecord :=
  { seq := j.next, second := second, side := side, body := body }

/-- The books after an append and its JOURNAL_LOW, with `reserved` reservations left. -/
def State.noted (s : State) (second : Option Nat) (side : Option Side) (body : RecordBody) (reserved : Nat) : State :=
  let records := s.journal.records ++ [s.journal.record second side body]
  let low := decide (2048 - records.length ≤ 256) && s.journal.armed
  { s with
    journal := { records := records, next := seqSucc s.journal.next, reserved := reserved, armed := s.journal.armed && !low }
    port :=
      if low then
        s.port.notify (.journalLow
          { free := 2048 - records.length, reserved := reserved, oldest := records.head?.map (·.seq)
            newest := some s.journal.next })
      else s.port }

/-- JOURNAL_LOW and its flag after an append (R169). -/
theorem State.lowCheck_eq (s : State) :
    s.lowCheck =
      let low := decide (s.free ≤ 256) && s.journal.armed
      { s with
        journal := { s.journal with armed := s.journal.armed && !low }
        port := if low then s.port.notify (.journalLow s.figures) else s.port } := by
  unfold State.lowCheck
  split
  next h => simp [h.1, h.2, State.notify]
  next h =>
    have hlow : (decide (s.free ≤ 256) && s.journal.armed) = false := by simpa using h
    simp [hlow]

section Append

variable (s : State) (second : Option Nat) (side : Option Side) (body : RecordBody) (reserved : Nat)

theorem State.lowCheck_appendRaw :
    (State.appendRaw { s with journal := { s.journal with reserved := reserved } } second side body).lowCheck =
      s.noted second side body reserved := by
  have hlast : (s.journal.records ++ [s.journal.record second side body]).getLast?.map (·.seq) = some s.journal.next := by
    simp [Journal.record]
  rw [State.lowCheck_eq, State.noted, ← hlast]
  rfl

/-- While few entries are free, an append leaves the flag disarmed. -/
theorem State.noted_disarmed (h : 2048 - (s.journal.records.length + 1) = 16) :
    (s.noted second side body reserved).journal.armed = false := by
  simp [State.noted, h]

theorem State.noted_free : (s.noted second side body reserved).free = 2048 - (s.journal.records.length + 1) := by
  simp [State.noted, State.free]

theorem State.lowCheck_disarmed (h : s.journal.armed = false) : s.lowCheck = s :=
  if_neg (by simp [h])

/-- The raise of JOURNAL at 16 free entries, where it is CLEAR and the low notice is disarmed (R155, R165). -/
theorem State.raiseJournal_clear (h : s.sup.conds.journal = .clear) (hfree : s.free = 16) (harmed : s.journal.armed = false) :
    s.raiseJournal =
      { s with
        sup := { s.sup with conds := { s.sup.conds with journal := .raised s.now } }
        journal :=
          if s.journal.reserved < 16 then
            { s.journal with
              records := s.journal.records ++ [{ seq := s.journal.next, second := s.now, side := none, body := .fault .journal true .fixed }]
              next := seqSucc s.journal.next }
          else s.journal
        port := s.port.notify (.fault (.cls .journal true .fixed)) } := by
  have hclear : s.isRaised .journal ≠ true := fun hraised => of_decide_eq_true hraised h
  have hlow : ((s.setCond .journal true).appendRaw s.now none (.fault .journal true .fixed)).lowCheck =
      (s.setCond .journal true).appendRaw s.now none (.fault .journal true .fixed) := State.lowCheck_disarmed _ harmed
  rw [State.raiseJournal, if_neg hclear, State.journalFaultNews, ← hfree]
  by_cases hroom : s.journal.reserved < s.free
  · rw [if_pos hroom, if_pos (show (s.setCond .journal true).free > (s.setCond .journal true).journal.reserved from hroom)]
    exact congrArg (State.notify · _) hlow
  · rw [if_neg hroom, if_neg (show ¬(s.setCond .journal true).free > (s.setCond .journal true).journal.reserved from hroom)]
    rfl

/-- The consequences of an append: none but JOURNAL_LOW, or the raise of JOURNAL at 16 free entries (R165). -/
theorem State.afterAppend_appendRaw :
    (State.appendRaw { s with journal := { s.journal with reserved := reserved } } second side body).afterAppend =
      if 2048 - (s.journal.records.length + 1) = 16 then (s.noted second side body reserved).raiseJournal
      else s.noted second side body reserved := by
  dsimp only [State.afterAppend]
  rw [State.lowCheck_appendRaw, State.noted_free]

theorem State.raiseJournal_raised (h : s.sup.conds.journal ≠ .clear) : s.raiseJournal = s :=
  if_pos (decide_eq_true h)

end Append

/-- Settles O9: a claim has passed the checks of the hail event, and each append is its record, JOURNAL_LOW and the raise. -/
theorem journalKeepsReserve : Obligations.JournalKeepsReserve := by
  refine ⟨?start, ?appends⟩
  case start =>
    intro s t sd hp he ht
    obtain ⟨card, hears⟩ := State.hears_of_claiming hp he ht
    obtain ⟨hservice, hfree, hvalid, hload, hroom, now, hclock, rfl⟩ := State.claimed_of_claiming hears he ht
    obtain ⟨tariff, cond, b, hframe⟩ := s.swapTest_frame
    have hgate : s.swapTest.gate = s.gate := (congrArg State.gate hframe :)
    have hfreeOpen : s.swapTest.inFreeOpen = s.inFreeOpen :=
      congrArg (fun g : Gate => g.reasons.emergency || g.reasons.command || g.reasons.fault) hgate
    have hinService : s.swapTest.inService sd = s.inService sd := by
      rw [hframe]
      cases sd <;> rfl
    have hfit : 16 + s.swapTest.journal.reserved < s.swapTest.free := by
      simpa [State.canReserve, Nat.add_comm] using hroom
    refine ⟨?_, Nat.succ_pos _, PerSide.get_set_self _ _ _, ?_, hvalid, Option.isSome_of_eq_some hclock, hfreeOpen.trans hfree,
      hinService.trans hservice⟩
    · show s.swapTest.journal.reserved + 1 + 16 ≤ s.swapTest.free
      omega
    · exact Nat.lt_of_le_of_lt (Nat.le_add_right _ _) hload
  case appends =>
    intro s second side body r next records free after
    have hafter (reserved : Nat) :
        after reserved (State.appendRaw { s with journal := { s.journal with reserved := reserved } } second side body).afterAppend := by
      rw [State.afterAppend_appendRaw]
      have hlength : free = 2048 - (s.journal.records.length + 1) := by simp [free, records]
      refine ⟨fun h => ?_, fun h16 hclear => ?_⟩
      · split
        next h16 => exact State.raiseJournal_raised _ (h.resolve_left (not_not.mpr (hlength.trans h16)))
        next => rfl
      · have h16' := hlength.symm.trans h16
        rw [if_pos h16', State.raiseJournal_clear (s.noted second side body reserved) hclear ((State.noted_free _ _ _ _ _).trans h16')
          (State.noted_disarmed _ _ _ _ _ h16')]
        rfl
    refine ⟨fun hfull => if_neg (Nat.not_lt.mpr hfull), fun hsecond hroom => ?_, hafter _⟩
    rw [State.appendUnreserved, if_pos (show s.free > s.journal.reserved from hroom), show s.now = second from hsecond.symm]
    exact hafter s.journal.reserved

end Sys2Proof.Machine
end

section
/-! The screening of a card (R30, R31, R93, R94, R106, R109, R116, R117). -/

namespace Sys2Proof.Machine

theorem exec_screening (sd : Side) (s : State) : exec (.screening sd) s = .next (s.screenEvent sd).pump := rfl

/-! The card's entry in the sightings table (R109). -/

theorem find?_insertSighting_of_true {p : Sighting → Bool} {x : Sighting} {l : List Sighting} (hx : p x = true)
    (hl : ∀ y ∈ l, p y = false) : (insertSighting x l).find? p = some x := by
  induction l with
  | nil => simp [insertSighting, hx]
  | cons y l ih =>
    have hy := hl y (by simp)
    unfold insertSighting
    split
    · simp [hx]
    · simp [hy, ih fun z hz => hl z (by simp [hz])]

theorem find?_insertSighting_of_false {p : Sighting → Bool} {x : Sighting} (hx : p x = false) (l : List Sighting) :
    (insertSighting x l).find? p = l.find? p := by
  induction l with
  | nil => simp [insertSighting, hx]
  | cons y l ih =>
    unfold insertSighting
    split
    · simp [hx]
    · simp [List.find?_cons, ih]

theorem Screen.sightingOf_card {c : Screen} {card : CardId} {y : Sighting} (h : c.sightingOf card = some y) : y.card = card := by
  simpa using List.find?_some h

theorem Screen.sightingOf_putSighting (c : Screen) (x : Sighting) : (c.putSighting x).sightingOf x.card = some x :=
  find?_insertSighting_of_true (by simp) (by simp)

/-- The other cards' entries stay. -/
theorem Screen.sightingOf_putSighting_ne (c : Screen) (x : Sighting) {card : CardId} (h : card ≠ x.card) :
    (c.putSighting x).sightingOf card = c.sightingOf card := by
  have hfilter : (fun y : Sighting => decide (y.card ≠ x.card) && decide (y.card = card)) = fun y => decide (y.card = card) := by
    funext y
    by_cases hy : y.card = card <;> simp [hy, h]
  rw [Screen.sightingOf, Screen.putSighting, find?_insertSighting_of_false (by simp [h.symm]), List.find?_filter]
  simpa [Screen.sightingOf] using congrArg (List.find? · c.sightings) hfilter

/-- A card without an entry has the one that joins. -/
theorem Screen.sightingOf_joinSighting {c : Screen} {x : Sighting} (h : c.sightingOf x.card = none) :
    (c.joinSighting x).sightingOf x.card = some { x with joined := c.nextJoin } := by
  have hother : ∀ y ∈ c.sightings, y.card ≠ x.card := by simpa [Screen.sightingOf] using h
  refine find?_insertSighting_of_true (by simp) fun y hy => ?_
  have hmem : y ∈ c.sightings := by
    split at hy
    · exact hy
    · exact List.mem_of_mem_tail hy
  simpa using hother y hmem

/-! The verdict (R93, R116, R117). -/

section Verdict

variable {c : Screen} {station : Nat} {card : CardId} {r : CardRecord} {blocked : Bool} {kind : TapKind} {instant mark grace : Nat}

theorem screenCard_held (h : c.isHeld card instant = true) :
    screenCard c station card r blocked kind instant mark grace = .refuse .held :=
  if_pos h

theorem screenCard_listed (h : c.isHeld card instant = false) (hl : c.lookup mark card = true) :
    screenCard c station card r blocked kind instant mark grace = .capture .denylisted none := by
  simp [screenCard, h, hl]

theorem screenCard_blocked (h : c.isHeld card instant = false) (hl : c.lookup mark card = false) :
    screenCard c station card r true kind instant mark grace = .refuse .cardBlocked := by
  simp [screenCard, h, hl]

theorem screenCard_suspect {reason : CloneReason} (h : c.isHeld card instant = false) (hl : c.lookup mark card = false)
    (hc : counterRules (c.sightingOf card) r.counter r.purse = some reason) :
    screenCard c station card r false kind instant mark grace = .capture .cloneSuspect (some reason) := by
  simp [screenCard, h, hl, hc]

theorem screenCard_passed (h : c.isHeld card instant = false) (hl : c.lookup mark card = false)
    (hc : counterRules (c.sightingOf card) r.counter r.purse = none) :
    screenCard c station card r false kind instant mark grace =
      if isReentry kind r station instant grace then passbackVerdict (c.sightingOf card) r.counter else .serve := by
  simp [screenCard, h, hl, hc]

end Verdict

/-- A re-entry is a REPEAT with two sightings alone (R117). -/
theorem passbackVerdict_refused {y : Sighting} {k : Nat}
    (h : (y.counter = k ∧ y.passage ∈ [PassageState.none, .pending, .taken]) ∨
      (y.counter ≠ k ∧ (y.counter + 1 ≠ k ∨ y.alternate ≠ some k))) : passbackVerdict (some y) k = .refuse .passback := by
  have hnow : ¬(y.counter = k ∧ y.passage = .notTaken) := by
    rcases h with ⟨-, hp⟩ | ⟨hk, -⟩
    · rintro ⟨-, hn⟩
      simp [hn] at hp
    · exact fun hc => hk hc.1
  have hexpired : ¬(y.counter + 1 = k ∧ y.alternate = some k) := by
    rcases h with ⟨hk, -⟩ | ⟨-, hk | ha⟩
    · omega
    · exact fun hc => hk hc.1
    · exact fun hc => ha hc.2
  exact (if_neg hnow).trans (if_neg hexpired)

/-- Only COUNTER leaves a mark in the sightings table (R116). -/
theorem Screen.noteVerdict_other (c : Screen) (card : CardId) {v : Verdict} (h : v ≠ .capture .cloneSuspect (some .counter)) :
    c.noteVerdict card v = c := by
  unfold Screen.noteVerdict
  split
  · exact absurd rfl h
  · rfl

/-- The clone reason COUNTER sets the conflict flag (R116). -/
theorem Screen.noteVerdict_counter {c : Screen} {card : CardId} {y : Sighting} (h : c.sightingOf card = some y) :
    let d := c.noteVerdict card (.capture .cloneSuspect (some .counter))
    d = { c with sightings := d.sightings } ∧ d.sightingOf card = some { y with conflict := true } := by
  obtain rfl := Screen.sightingOf_card h
  simp only [Screen.noteVerdict, h]
  exact ⟨rfl, Screen.sightingOf_putSighting _ _⟩

/-! The screening event (R94, R106). -/

/-- The verdict of steps 2 to 6 on a side's card (R93). -/
def State.verdictOn (s : State) (sd : Side) (x : Transaction) (r : CardRecord) (m : DenyMark) : Verdict :=
  screenCard s.screen s.port.station x.card r x.blocked sd.tapKind x.instant m.arrival (s.bankOf x.tariff).ruleSet.reentryGrace

/-- The engine after that verdict (R30, R116). -/
def State.screened (s : State) (sd : Side) (x : Transaction) (r : CardRecord) (m : DenyMark) : State :=
  ({ s with screen := s.screen.noteVerdict x.card (s.verdictOn sd x r m) } : State).actOnVerdict sd r (s.verdictOn sd x r m)

section Screening

variable {s : State} {sd : Side} {x : Transaction} {product : ProductKind × Nat} {r : CardRecord} {m : DenyMark}

theorem State.screenEvent_first (hs : (s.ctx sd).state = .screening) (hx : (s.ctx sd).tx = some x) (hw : x.waitsForSwap = false) :
    s.screenEvent sd = s.screen1 sd :=
  if_pos (by simp [hs, hx, hw])

theorem State.screenEvent_waiting (hx : (s.ctx sd).tx = some x) (hw : x.waitsForSwap = true) : s.screenEvent sd = s :=
  if_neg (by simp [hx, hw])

theorem State.screen1_staff (hx : (s.ctx sd).tx = some x) (hp : x.product = some product) (hk : product.1 = .staff)
    (hr : x.currentRecord = some r) (hm : x.mark = some m) : s.screen1 sd = s.enterPricing sd := by
  simp [State.screen1, hx, hp, hk, hr, hm]

theorem State.screen1_waits (hx : (s.ctx sd).tx = some x) (hp : x.product = some product) (hk : product.1 ≠ .staff)
    (hr : x.currentRecord = some r) (hm : x.mark = some m) (hswap : m.afterSwap = true)
    (hheld : s.screen.isHeld x.card x.instant = false) :
    s.screen1 sd = s.setCtx sd { s.ctx sd with tx := some { x with waitsForSwap := true } } := by
  simp [State.screen1, hx, hp, hk, hr, hm, hswap, hheld, State.mapTx]

theorem State.screen1_judged (hx : (s.ctx sd).tx = some x) (hp : x.product = some product) (hk : product.1 ≠ .staff)
    (hr : x.currentRecord = some r) (hm : x.mark = some m)
    (hswap : m.afterSwap = false ∨ s.screen.isHeld x.card x.instant = true) :
    s.screen1 sd = s.screened sd x r m := by
  have hnow : ¬(m.afterSwap = true ∧ s.screen.isHeld x.card x.instant = false) := by
    rcases hswap with h | h <;> simp [h]
  simp only [State.screen1, hx, hp, hr, hm]
  exact (if_neg hk).trans (if_neg hnow)

/-- A card that is served goes on to PRICING (R30, R49, R103). -/
theorem State.enterPricing_eq (hx : (s.ctx sd).tx = some x) :
    s.enterPricing sd =
      { s with
        ctxs := s.ctxs.set sd { state := .pricing, tx := some { x with mark := none, waitsForSwap := false } }
        fares :=
          if s.fares.current = none then { current := some { side := sd, period := s.tariff.period }, waiting := none }
          else { s.fares with waiting := some sd } } := by
  simp only [State.enterPricing, State.mapTx_some _ hx, State.setCtxState, State.ctx_setCtx, State.setCtx_setCtx]
  unfold State.askPricing State.takeWaiting
  split
  next w hcur hwait =>
    obtain rfl : sd = w := by simpa using hwait
    rw [if_pos (show s.fares.current = none from hcur)]
    rfl
  next hcases =>
    have hcur : s.fares.current ≠ none := fun h => hcases sd h rfl
    rw [if_neg hcur]
    rfl

/-- The screening of a card that is not STAFF ends its tap with the refusal of its verdict (R30). -/
theorem State.screening_refused {o : TapOutcome} (hx : (s.ctx sd).tx = some x) (ha : x.attached = none)
    (hexec : exec (.screening sd) s = .next (s.screened sd x r m).pump)
    (hv : s.verdictOn sd x r m = .refuse o) :
    ∃ t, exec (.screening sd) s = .next t ∧ s.endedTo t sd x { outcome := o } := by
  refine ⟨_, hexec, ?_⟩
  rw [State.screened, hv, Screen.noteVerdict_other _ _ (by simp)]
  exact State.finishTx_endedTo_self _ hx ha

/-- Without capture a capture verdict ends the tap (R31). -/
theorem State.screening_uncaptured {o : TapOutcome} {reason : Option CloneReason} (hx : (s.ctx sd).tx = some x)
    (ha : x.attached = none)
    (hexec : exec (.screening sd) s = .next (s.screened sd x r m).pump)
    (hv : s.verdictOn sd x r m = .capture o reason) (hc : s.screen.capture = false) :
    ∃ t, exec (.screening sd) s = .next t ∧
      t.screen = s.screen.noteVerdict x.card (.capture o reason) ∧
      ({ s with screen := t.screen } : State).endedTo t sd x { outcome := o, reason := reason } := by
  have hcapture : (s.screen.noteVerdict x.card (.capture o reason)).capture = false :=
    (Screen.noteVerdict_same s.screen x.card (.capture o reason)).2.1.trans hc
  rw [State.screened, hv] at hexec
  generalize hu : ({ s with screen := s.screen.noteVerdict x.card (.capture o reason) } : State) = u at hexec
  have hux : (u.ctx sd).tx = some x := by rw [← hu]; exact hx
  have huc : u.screen.capture = false := by rw [← hu]; exact hcapture
  have hend : u.actOnVerdict sd r (.capture o reason) = u.finishTx sd { outcome := o, reason := reason } :=
    if_neg (by simp [huc])
  have hended := State.finishTx_endedTo_self { outcome := o, reason := reason } hux ha
  obtain ⟨-, -, -, -, -, -, -, -, hscreen, -⟩ := id hended
  refine ⟨_, hexec, ?_⟩
  rw [hend, hscreen]
  subst hu
  exact ⟨rfl, hended⟩

/-- With capture a capture verdict leads to MARKING (R31). -/
theorem State.screening_captured {o : TapOutcome} {reason : Option CloneReason} (hx : (s.ctx sd).tx = some x)
    (hexec : exec (.screening sd) s = .next (s.screened sd x r m).pump)
    (hv : s.verdictOn sd x r m = .capture o reason) (hc : s.screen.capture = true) (hl : (s.reader sd).link = .bound) :
    ∃ t, exec (.screening sd) s = .next t ∧
      ((t.ctx sd).state = .marking ∧
        (t.ctx sd).tx = some { x with verdict := some (o, reason), mark := none, guard := none, waitsForSwap := false } ∧
        (t.reader sd).exchange = some { frame := .mark (s.reader sd).turn, attempt := 1, answer := some 3 } ∧
        t.gate = s.gate ∧ t.journal = s.journal ∧ t.doubt = s.doubt) ∧
      t.screen = s.screen.noteVerdict x.card (.capture o reason) := by
  have hcapture : (s.screen.noteVerdict x.card (.capture o reason)).capture = true :=
    (Screen.noteVerdict_same s.screen x.card (.capture o reason)).2.1.trans hc
  rw [State.screened, hv] at hexec
  have hmark : ({ s with screen := s.screen.noteVerdict x.card (.capture o reason) } : State).actOnVerdict sd r (.capture o reason) =
      ({ s with screen := s.screen.noteVerdict x.card (.capture o reason) } : State).enterMarking sd o reason := if_pos hcapture
  obtain ⟨pin, hpin⟩ := State.enterMarking_bound (s := { s with screen := s.screen.noteVerdict x.card (.capture o reason) })
    (sd := sd) o reason hx hl
  refine ⟨_, hexec, ?_⟩
  rw [hmark, hpin]
  exact ⟨⟨(congrArg Context.state (PerSide.get_set_self _ _ _) :), (congrArg Context.tx (PerSide.get_set_self _ _ _) :),
    (congrArg Reader.exchange (PerSide.get_set_self _ _ _) :), rfl, rfl, rfl⟩, rfl⟩

end Screening

/-- Settles O15: the verdict of the first test that applies, and what the engine makes of a refusal, of a capture and of a card that is
served. -/
theorem screeningOrder : Obligations.ScreeningOrder := by
  refine ⟨?waits, ?judged⟩
  case waits =>
    intro s sd x product r m hs hx hp hk hr hm
    refine ⟨fun hw => ?_, fun hw hswap hheld => ?_, fun hw hswap hheld ha => ?_⟩
    · rw [exec_screening, State.screenEvent_waiting hx hw]
      rfl
    · rw [exec_screening, State.screenEvent_first hs hx hw, State.screen1_waits hx hp hk hr hm hswap hheld, ← hs]
      rfl
    · have hexec : exec (.screening sd) s = .next (s.screen1 sd).pump := by
        rw [exec_screening, State.screenEvent_first hs hx hw]
      rw [State.screen1_judged hx hp hk hr hm (.inr hheld)] at hexec
      exact State.screening_refused hx ha hexec (screenCard_held hheld)
  case judged =>
    intro s sd x product r m hs hx ha hw hp hk hr hm hswap held listed reason reentry marking
    have hexec : exec (.screening sd) s = .next (s.screen1 sd).pump := by
      rw [exec_screening, State.screenEvent_first hs hx hw]
    rw [State.screen1_judged hx hp hk hr hm (.inl hswap)] at hexec
    have hsuspect {why : CloneReason} (hh : held = false) (hl : listed = false) (hb : x.blocked = false) (hc : reason = some why) :
        s.verdictOn sd x r m = .capture .cloneSuspect (some why) := by
      rw [State.verdictOn, hb]
      exact screenCard_suspect hh hl hc
    have hpassed (hh : held = false) (hl : listed = false) (hb : x.blocked = false) (hc : reason = none) :
        s.verdictOn sd x r m =
          if reentry then passbackVerdict (s.screen.sightingOf x.card) r.counter else .serve := by
      rw [State.verdictOn, hb]
      exact screenCard_passed hh hl hc
    have hflagged : s.screen.noteVerdict x.card (.capture .cloneSuspect (some .conflictFlag)) = s.screen :=
      Screen.noteVerdict_other _ _ (by simp)
    refine ⟨?held, ?denied, ?deniedCapture, ?blocked, ?flag, ?counter, ?capture, ?firstEntry, ?passback, ?serve⟩
    case held => exact fun hh => State.screening_refused hx ha hexec (screenCard_held hh)
    case denied =>
      intro hh hl hc
      obtain ⟨t, ht, hscreen, hended⟩ := State.screening_uncaptured hx ha hexec (screenCard_listed hh hl) hc
      rw [hscreen, Screen.noteVerdict_other _ _ (by simp)] at hended
      exact ⟨t, ht, hended⟩
    case deniedCapture =>
      intro hh hl hc hlink
      obtain ⟨t, ht, hmarking, hscreen⟩ := State.screening_captured hx hexec (screenCard_listed hh hl) hc hlink
      exact ⟨t, ht, hmarking, hscreen.trans (Screen.noteVerdict_other _ _ (by simp))⟩
    case blocked =>
      intro hh hl hb
      refine State.screening_refused hx ha hexec ?_
      rw [State.verdictOn, hb]
      exact screenCard_blocked hh hl
    case flag =>
      intro hh hl hb hreason hc
      obtain ⟨t, ht, hscreen, hended⟩ := State.screening_uncaptured hx ha hexec (hsuspect hh hl hb hreason) hc
      rw [hscreen, hflagged] at hended
      exact ⟨t, ht, hended⟩
    case counter =>
      intro hh hl hb hreason hc
      obtain ⟨t, ht, hscreen, hended⟩ := State.screening_uncaptured hx ha hexec (hsuspect hh hl hb hreason) hc
      refine ⟨t, ht, hended, ?_⟩
      cases hy : s.screen.sightingOf x.card with
      | none => simp [reason, hy, counterRules] at hreason
      | some y => rw [hscreen, (Screen.noteVerdict_counter hy).2]; rfl
    case capture =>
      intro hh hl hb hc hlink
      refine ⟨fun hreason => ?_, fun hreason y hy => ?_⟩
      · obtain ⟨t, ht, hmarking, hscreen⟩ := State.screening_captured hx hexec (hsuspect hh hl hb hreason) hc hlink
        exact ⟨t, ht, hmarking, hscreen.trans hflagged⟩
      · obtain ⟨t, ht, hmarking, hscreen⟩ := State.screening_captured hx hexec (hsuspect hh hl hb hreason) hc hlink
        obtain ⟨hframe, hflag⟩ := Screen.noteVerdict_counter hy
        rw [← hscreen] at hframe hflag
        exact ⟨t, ht, hmarking, hframe, hflag⟩
    case firstEntry =>
      intro hh hl hb hreason hre hy
      refine State.screening_refused hx ha hexec ?_
      rw [hpassed hh hl hb hreason, hre, hy]
      rfl
    case passback =>
      intro y hh hl hb hreason hre hy hrefused
      refine State.screening_refused hx ha hexec ?_
      rw [hpassed hh hl hb hreason, hre, hy]
      exact passbackVerdict_refused hrefused
    case serve =>
      intro hh hl hb hreason hre
      have hv : s.verdictOn sd x r m = .serve := by
        rw [hpassed hh hl hb hreason, hre]
        rfl
      rw [hexec, State.screened, hv, Screen.noteVerdict_other _ _ (by simp)]
      exact congrArg (fun u : State => Host.Outcome.next u.pump) (State.enterPricing_eq hx)

end Sys2Proof.Machine
end

section
/-! The end of a pricing and the commit point (R29, R33, R34, R38, R72, R111). -/

namespace Sys2Proof.Machine

theorem exec_pricingComplete (s : State) : exec .pricingComplete s = .next s.pricingEnds.pump := rfl

/-- The calculator's requests are all that a waiting one changes (R49). -/
theorem State.takeWaiting_frame (s : State) : ∃ f, s.takeWaiting = { s with fares := f } := by
  unfold State.takeWaiting
  split
  · exact ⟨_, rfl⟩
  · exact ⟨s.fares, rfl⟩

/-- A tap that has ended is not taken up again by a request that waits (R49). -/
theorem State.endedTo_takeWaiting {s t : State} {sd : Side} {x : Transaction} {f : Finish} (h : s.endedTo t.pump sd x f) :
    s.endedTo t.takeWaiting.pump sd x f := by
  obtain ⟨hreaders, hctxs, hgate, hjournal, hsup, hport, hfree, hrest⟩ := h
  obtain ⟨fares, htake, hfares⟩ := State.takeWaiting_eq (s := t) (sd := sd) hfree
  rw [htake]
  exact ⟨hreaders, hctxs, hgate, hjournal, hsup, hport, hfares, hrest⟩

section Pricing

variable {s : State} {p : Pricing} {x : Transaction} {q : PricingRequest}

/-- The calculator has let go of the request whose pricing ends (R49). -/
def State.priced (s : State) : State :=
  { s with fares := { s.fares with current := none } }

theorem State.pricingEnds_eq (hp : s.fares.current = some p) (hx : (s.ctx p.side).tx = some x)
    (hq : s.pricingRequest p.side x = some q) :
    s.pricingEnds = (s.priced.actOnPrice p.side x (price q (s.bankOf x.tariff) p.period)).takeWaiting := by
  have hx' : (s.priced.ctx p.side).tx = some x := hx
  have hq' : s.priced.pricingRequest p.side x = some q := hq
  simp only [State.pricingEnds, hp]
  rw [show ({ s with fares := { current := none, waiting := s.fares.waiting } } : State) = s.priced from rfl]
  simp only [hx', hq']
  rfl

end Pricing

section Commit

variable {s : State} {sd : Side} {x : Transaction} {record : CardRecord} {f : FareRecord} {target : SlotNo}

/-- The first two checks of the commit point (R34). -/
theorem State.storeForbidden_eq (s : State) (sd : Side) :
    s.storeForbidden sd =
      if s.inFreeOpen = true then some .freeOpen
      else if s.gate.barrier = .held ∨ s.inService sd = false then some .outOfService
      else none := rfl

theorem State.storeForbidden_freeOpen (h : s.inFreeOpen = true) : s.storeForbidden sd = some .freeOpen :=
  if_pos h

theorem State.storeForbidden_outOfService (h : s.inFreeOpen = false) (ho : s.gate.barrier = .held ∨ s.inService sd = false) :
    s.storeForbidden sd = some .outOfService :=
  (if_neg (by simp [h])).trans (if_pos ho)

theorem State.storeForbidden_none (h : s.inFreeOpen = false) (hb : s.gate.barrier ≠ .held) (hi : s.inService sd = true) :
    s.storeForbidden sd = none :=
  (if_neg (by simp [h])).trans (if_neg (by simp [hb, hi]))

/-- WRITING entered on a BOUND link (R29, R34, R41). -/
theorem State.enterWriting_bound (hx : (s.ctx sd).tx = some x) (hl : (s.reader sd).link = .bound) (target : SlotNo)
    (record : CardRecord) :
    ∃ pin,
      s.enterWriting sd target record =
        { s with
          readers := s.readers.set sd ((s.reader sd).send (.store (s.reader sd).turn target record))
          ctxs := s.ctxs.set sd { state := .writing, tx := some { x with guard := none, mark := none } }
          tariff := { s.tariff with pinned := pin } } := by
  simp only [State.enterWriting, State.mapTx_some _ hx]
  generalize hu : State.setCtxState _ sd .writing = u
  obtain ⟨pin, hpin⟩ := u.releasePin_eq
  refine ⟨pin, ?_⟩
  have hlink : (u.releasePin.reader sd).link = .bound := by
    rw [hpin, ← hu]
    exact hl
  rw [State.ask_bound _ hlink, hpin, ← hu]
  simp only [State.setCtxState, State.ctx_setCtx, State.setCtx_setCtx]
  rfl

/-- The alternate counter is set in the sightings table alone (R111). -/
theorem State.setAlternate_frame {u : State} (h : u.screen = s.screen) (card : CardId) (k : Nat) :
    u.setAlternate card k = { u with screen := (s.setAlternate card k).screen } := by
  unfold State.setAlternate
  rw [h]
  split
  · rw [← h]
  · rfl

theorem State.setAlternate_none {card : CardId} (h : s.screen.sightingOf card = none) (k : Nat) : s.setAlternate card k = s := by
  simp [State.setAlternate, h]

theorem State.setAlternate_some {card : CardId} {y : Sighting} (h : s.screen.sightingOf card = some y) (k : Nat) :
    let c := (s.setAlternate card k).screen
    c = { s.screen with sightings := c.sightings } ∧ c.sightingOf card = some { y with alternate := some k } ∧
      ∀ other ≠ card, c.sightingOf other = s.screen.sightingOf other := by
  obtain rfl := Screen.sightingOf_card h
  simp only [State.setAlternate, h]
  exact ⟨rfl, Screen.sightingOf_putSighting _ _, fun other hother => Screen.sightingOf_putSighting_ne _ _ hother⟩

/-- The in-doubt entry of a commit (R38). -/
def State.doubtOf (s : State) (sd : Side) (x : Transaction) (record : CardRecord) (f : FareRecord) (target : SlotNo) : InDoubt :=
  { card := x.card, side := sd, oldCounter := f.counterBefore, target := target, record := record, fare := f, tariff := x.tariff,
    deadline := some (s.doubt.periodS * 1000), passed := false, attached := false }

/-- The commit point passed on a BOUND link: the entry stands before the STORE is sent (R34, R38, R111). -/
theorem State.commitPoint_stores {y : Transaction} (hy : (s.ctx sd).tx = some y) (hl : (s.reader sd).link = .bound)
    (hs : s.storeForbidden sd = none) (hroom : s.doubt.entries.length < 4) :
    ∃ pin,
      s.commitPoint sd x record f target =
        { s with
          readers := s.readers.set sd ((s.reader sd).send (.store (s.reader sd).turn target record))
          ctxs := s.ctxs.set sd { state := .writing, tx := some { y with journalHeld := false, guard := none, mark := none } }
          doubt := { s.doubt with entries := s.doubt.entries ++ [s.doubtOf sd x record f target] }
          screen := (s.setAlternate x.card (f.counterBefore + 1)).screen
          tariff := { s.tariff with pinned := pin } } := by
  generalize hu : ({ s with doubt := { s.doubt with entries := s.doubt.entries ++ [s.doubtOf sd x record f target] } } : State) = u
  have huy : (u.ctx sd).tx = some y := by rw [← hu]; exact hy
  have hscreen : (u.setCtx sd { u.ctx sd with tx := some { y with journalHeld := false } }).screen = s.screen := by rw [← hu]; rfl
  have hcommit : s.commitPoint sd x record f target =
      ((u.mapTx sd fun t => { t with journalHeld := false }).setAlternate x.card (f.counterBefore + 1)).enterWriting sd target record := by
    subst hu
    simp only [State.commitPoint, hs]
    exact if_neg (Nat.not_le.mpr hroom)
  rw [State.mapTx_some _ huy, State.setAlternate_frame hscreen] at hcommit
  obtain ⟨pin, hpin⟩ := State.enterWriting_bound
    (s := { u.setCtx sd { u.ctx sd with tx := some { y with journalHeld := false } } with
      screen := (s.setAlternate x.card (f.counterBefore + 1)).screen })
    (sd := sd) (x := { y with journalHeld := false }) (congrArg Context.tx (u.ctx_setCtx sd _)) (by rw [← hu]; exact hl) target record
  refine ⟨pin, ?_⟩
  rw [hcommit, hpin, ← hu]
  simp only [State.setCtx, PerSide.set_set]
  rfl

theorem State.commitPoint_forbidden {o : TapOutcome} (hs : s.storeForbidden sd = some o) :
    s.commitPoint sd x record f target = s.finishTx sd { outcome := o } := by
  simp [State.commitPoint, hs]

theorem State.commitPoint_full (hs : s.storeForbidden sd = none) (hfull : 4 ≤ s.doubt.entries.length) :
    s.commitPoint sd x record f target = s.finishTx sd { outcome := .inDoubtFull } := by
  simp [State.commitPoint, hs, hfull]

/-- A record to write leads to the commit point with its check code (R33, R72). -/
theorem State.actOnPrice_write {key : Key} {current : SlotNo} (hx : (s.ctx sd).tx = some x) (hk : x.key = some key)
    (hc : x.current = some current) :
    let complete := { record with code := Config.checkFn key x.card record.protectedBytes }
    s.actOnPrice sd x (.write record f) =
      (s.setCtx sd
        { s.ctx sd with tx := some { x with intended := some complete, fare := some f, keys := none } }).commitPoint sd x
          complete f current.other := by
  simp only [State.actOnPrice, hk, hc, State.mapTx_some _ hx]

end Commit

/-- Settles O16: the result of the pricing, and the checks of the commit point in their order. -/
theorem commitPoint : Obligations.CommitPoint := by
  intro s p x q hp hx ha hq ends
  have hexec : exec .pricingComplete s =
      .next (s.priced.actOnPrice p.side x (price q (s.bankOf x.tariff) p.period)).takeWaiting.pump := by
    rw [exec_pricingComplete, State.pricingEnds_eq hp hx hq]
  have hended {f : Finish} {t : State} (h : s.priced.endedTo t.pump p.side x f) : s.endedTo t.takeWaiting.pump p.side x f :=
    State.endedTo_takeWaiting h
  refine ⟨fun o ho => ⟨_, hexec, hended ?refuse⟩, fun record fare key current hw hk hc => ?write⟩
  case refuse =>
    rw [ho]
    exact State.finishTx_endedTo_self (s := s.priced) _ hx ha
  case write =>
    rw [hw, State.actOnPrice_write (s := s.priced) hx hk hc] at hexec
    generalize hu : s.priced.setCtx p.side { s.priced.ctx p.side with tx := some { x with intended := _, fare := _, keys := _ } } = u
      at hexec
    have hforbidden : u.storeForbidden p.side = s.storeForbidden p.side := by rw [← hu]; rfl
    have hentries : u.doubt.entries = s.doubt.entries := by rw [← hu]; rfl
    have hfinish (o : TapOutcome) : s.endedTo (u.finishTx p.side { outcome := o }).takeWaiting.pump p.side x { outcome := o } := by
      rw [← hu]
      exact hended (State.finishTx_endedTo _ rfl ha rfl rfl rfl)
    refine ⟨fun hfree => ⟨_, hexec, ?_⟩, fun hfree hout => ⟨_, hexec, ?_⟩, fun hfree hbarrier hservice =>
      ⟨fun hfull => ⟨_, hexec, ?_⟩, fun hroom hl => ?stores⟩⟩
    · rw [State.commitPoint_forbidden (hforbidden.trans (State.storeForbidden_freeOpen hfree))]
      exact hfinish _
    · rw [State.commitPoint_forbidden (hforbidden.trans (State.storeForbidden_outOfService hfree hout))]
      exact hfinish _
    · rw [State.commitPoint_full (hforbidden.trans (State.storeForbidden_none hfree hbarrier hservice)) (hentries ▸ hfull)]
      exact hfinish _
    case stores =>
      intro complete
      have hux : (u.ctx p.side).tx = some { x with intended := some complete, fare := some fare, keys := none } := by
        rw [← hu]
        exact congrArg Context.tx (State.ctx_setCtx _ _ _)
      have hnone := hforbidden.trans (State.storeForbidden_none hfree hbarrier hservice)
      have hul : (u.reader p.side).link = .bound := by rw [← hu]; exact hl
      have huroom : u.doubt.entries.length < 4 := hentries ▸ hroom
      have hscreen : (u.setAlternate x.card (fare.counterBefore + 1)).screen =
          (s.setAlternate x.card (fare.counterBefore + 1)).screen := by
        rw [State.setAlternate_frame (s := s) (by rw [← hu]; rfl)]
      obtain ⟨pin, hpin⟩ := State.commitPoint_stores (x := x) (record := complete) (f := fare) (target := current.other)
        hux hul hnone huroom
      rw [hpin, hscreen] at hexec
      obtain ⟨fares, htake⟩ := State.takeWaiting_frame _
      rw [htake, ← hu] at hexec
      refine ⟨_, hexec, rfl, congrArg Context.state (PerSide.get_set_self _ _ _), congrArg Context.tx (PerSide.get_set_self _ _ _), rfl,
        fun hy => (congrArg State.screen (State.setAlternate_none hy _) :), fun y hy => State.setAlternate_some hy _, rfl, rfl, rfl, rfl, ?_⟩
      simp [State.ctx, State.pump, State.setCtx, State.priced]

end Sys2Proof.Machine
end

section
/-! The ends of a write and of a capture: CARD_LOST in WRITING, the deadline of an entry, and the end of MARKING (R31, R36, R39, R43, R98). -/

namespace Sys2Proof.Machine

theorem exec_inDoubtDeadlineExpiry (card : CardId) (s : State) :
    exec (.inDoubtDeadlineExpiry card) s = .next (s.deadlinePasses card).pump := rfl

/-! The end of a transaction whose entry is detached (R37). -/

section Finish

variable {s : State} {sd : Side} {x : Transaction}

/-- The end of a transaction whose release leaves the tables, the reservations and the other side as `s` has them (R37). -/
theorem State.finishTx_endedTo_of_release {u : State} {y : Transaction} (c : Context) (f : Finish) (hy : (u.ctx sd).tx = some y)
    (hcard : y.card = x.card) (htariff : y.tariff = x.tariff)
    (hr : u.releaseTx sd y =
      State.setCtx
        { s with
          gate := { s.gate with reservations := s.gate.reservations.set sd .absent }
          journal := { s.journal with reserved := s.journal.reserved - (if x.journalHeld then 1 else 0) } } sd c) :
    s.endedTo (u.finishTx sd f).pump sd x f := by
  rw [State.finishTx_eq f hy]
  obtain ⟨fares, pin, hclose, hfree⟩ := (u.closing sd y f).closeContext_eq sd
  rw [hclose, State.closing, hr, Finish.tapResult, hcard, htariff]
  refine ⟨rfl, ?_, rfl, rfl, rfl, rfl, hfree, rfl, rfl, rfl, rfl, rfl, rfl⟩
  simp only [State.setCtx, PerSide.set_set]
  rfl

/-- Without a journal reservation, and with the card's entries detached, the authorisation's reservation is all that is released. -/
theorem State.finishTx_endedTo_detached (f : Finish) (hx : (s.ctx sd).tx = some x)
    (ha : x.attached = none ∨ x.attached = some x.card) (hheld : x.journalHeld = false) (hd : s.Detached x.card) :
    s.endedTo (s.finishTx sd f).pump sd x f := by
  refine State.finishTx_endedTo_of_release (s.ctx sd) f hx rfl rfl ?_
  rw [State.releaseTx_detached ha hheld hd, hheld]
  exact (State.setCtx_ctx (s.setReservation sd .absent) sd).symm

/-- What a transaction without a journal reservation leaves of the journal. -/
theorem State.endedTo.journal_eq {t : State} {f : Finish} (h : s.endedTo t sd x f) (hheld : x.journalHeld = false) :
    t.journal = s.journal := by
  obtain ⟨-, -, -, hjournal, -⟩ := h
  rw [hjournal, hheld]
  rfl

theorem State.endedTo.tx_none {t : State} {f : Finish} (h : s.endedTo t sd x f) : (t.ctx sd).tx = none := by
  obtain ⟨-, hctxs, -⟩ := h
  rw [State.ctx, hctxs, PerSide.get_set_self]

theorem State.endedTo.ctx_other {t : State} {f : Finish} (h : s.endedTo t sd x f) : t.ctx sd.other = s.ctx sd.other := by
  obtain ⟨-, hctxs, -⟩ := h
  rw [State.ctx, hctxs, PerSide.get_set_other]
  rfl

theorem State.endedTo.reader {t : State} {f : Finish} (h : s.endedTo t sd x f) :
    t.reader sd = (s.reader sd).afterTap (s.sup.readerHold.get sd) x.card f.outcome := by
  rw [State.reader, h.1, PerSide.get_set_self]

theorem State.endedTo.reader_other {t : State} {f : Finish} (h : s.endedTo t sd x f) : t.reader sd.other = s.reader sd.other := by
  rw [State.reader, h.1, PerSide.get_set_other]
  rfl

end Finish

/-! A side that has parted (R16). -/

theorem Reader.parted_hold (r : Reader) (held : Bool) : (r.parted held).hold = r.hold := by
  unfold Reader.parted
  repeat' split
  all_goals rfl

theorem Reader.parted_turn (r : Reader) (held : Bool) : (r.parted held).turn = r.turn := by
  unfold Reader.parted
  repeat' split
  all_goals rfl

theorem Reader.parted_link {r : Reader} (h : r.link = .bound) (held : Bool) :
    (r.parted held).link = if held then .down else .searching := by
  rw [Reader.parted, if_neg (by simp [h])]
  cases held <;> rfl

theorem Reader.parted_parted (r : Reader) (held : Bool) : (r.parted held).parted held = r.parted held :=
  Reader.parted_of_ne_bound (Reader.parted_link_ne r held) held

/-! CARD_LOST in WRITING (R36, R39). -/

/-- Settles O18: the entry stays, detached, and the tap ends with its authorisation reservation released. -/
theorem writeInDoubt : Obligations.WriteInDoubt := by
  intro s sd e x he hattempt hl hs hx ha hheld hopen
  let parted := s.setReader sd ((s.reader sd).parted (s.sup.readerHold.get sd))
  have hopen' : ∀ d ∈ parted.doubt.entries, d.card = x.card → d.passed = false := hopen
  have hended := State.finishTx_endedTo_detached (s := parted.mapEntry x.card fun d => { d with attached := false }) (sd := sd)
    { outcome := .retap } hx ha hheld (State.mapEntry_detached hopen')
  have hlost : s.answerExpires sd =
      (parted.mapEntry x.card fun d => { d with attached := false }).finishTx sd { outcome := .retap } := by
    rw [State.answerExpires_lost he hattempt hl, State.cardLost_writing (s := parted) hx hs, State.detach_open hopen']
  rw [← hlost] at hended
  refine ⟨_, exec_answerTimerExpiry sd s, ?_⟩
  have hreader := hended.reader
  obtain ⟨-, -, hgate, -, -, hport, -, -, hscreen, hdoubt, -⟩ := id hended
  refine ⟨hdoubt, hended.journal_eq hheld, hgate, ?_, hended.tx_none, hscreen, hport⟩
  rw [hreader]
  simp [Reader.afterTap, State.mapEntry, parted, State.reader, State.setReader, Reader.parted_hold]

/-! The deadline of an entry (R39, R43). -/

section Deadline

variable {s : State} {e : InDoubt}

theorem State.deadlinePasses_expires (he : s.entryOf e.card = some e) (hd : e.deadline.isSome) (ha : e.attached = false)
    (hw : s.writingCard e.card = false) : s.deadlinePasses e.card = s.expireEntry e := by
  obtain ⟨n, hn⟩ := Option.isSome_iff_exists.mp hd
  simp [State.deadlinePasses, he, hn, ha, hw]

theorem State.deadlinePasses_marks (he : s.entryOf e.card = some e) (hd : e.deadline.isSome) (ha : e.attached = true) :
    s.deadlinePasses e.card = s.mapEntry e.card fun d => { d with passed := true, deadline := none } := by
  obtain ⟨n, hn⟩ := Option.isSome_iff_exists.mp hd
  simp [State.deadlinePasses, he, hn, ha]

/-- The record of an expiry, from the entry's reservation (R43). -/
theorem State.expireEntry_grows (s : State) (e : InDoubt) :
    s.journal.records ++
        [{ seq := s.journal.next, second := s.now, side := some e.side
           body := .inDoubtExpired e.card e.oldCounter e.record e.fare.kind e.fare.charge e.tariff }] <+:
        (s.expireEntry e).journal.records ∧
      (s.expireEntry e).journal.reserved = s.journal.reserved - 1 :=
  (s.removeEntry e.card).appendReserved_grows s.now (some e.side) _

end Deadline

/-- Settles O19: an entry expires at its deadline, or is marked and expires as its STORE is lost. -/
theorem deadlinePasses : Obligations.DeadlinePasses := by
  intro s e he expired
  refine ⟨fun hd ha hw => ⟨_, exec_inDoubtDeadlineExpiry e.card s, ?_⟩, fun hd ha => ?_, fun sd x c hp hs hx hcard ha hheld hc h3 =>
    ⟨_, exec_answerTimerExpiry sd s, ?_⟩⟩
  · rw [State.deadlinePasses_expires he hd ha hw]
    obtain ⟨hrecords, hreserved⟩ := s.expireEntry_grows e
    have hframe := s.expireEntry_frame e
    generalize s.expireEntry e = t at hrecords hreserved hframe
    rw [hframe]
    exact ⟨⟨rfl, hrecords, hreserved, rfl, rfl, rfl⟩, rfl, rfl, rfl, rfl⟩
  · rw [exec_inDoubtDeadlineExpiry, State.deadlinePasses_marks he hd ha]
    rfl
  · let parted := s.setReader sd ((s.reader sd).part (s.sup.readerHold.get sd))
    have hlost : s.answerExpires sd = (parted.expireEntry e).finishTx sd { outcome := .retap } := by
      have hdetach : parted.detach x.card = parted.expireEntry e := State.detach_expired (hcard ▸ he) hp
      rw [← hdetach, ← State.cardLost_writing (s := parted) hx hs]
      simp [State.answerExpires, hc, h3, parted]
    obtain ⟨hrecords, hreserved⟩ := parted.expireEntry_grows e
    have hframe := parted.expireEntry_frame e
    rw [hlost]
    generalize parted.expireEntry e = u at hrecords hreserved hframe
    have hux : (u.ctx sd).tx = some x := by rw [hframe]; exact hx
    have hdetached : u.Detached x.card := by
      rw [hframe, hcard]
      exact parted.removeEntry_detached e.card
    have hended := State.finishTx_endedTo_detached { outcome := .retap } hux (.inr (hcard ▸ ha)) hheld hdetached
    generalize (u.finishTx sd _).pump = t at hended
    have hjournal := hended.journal_eq hheld
    have htx := hended.tx_none
    obtain ⟨-, -, hgate, -, -, -, -, htariff, hscreen, hdoubt, haisle, -⟩ := hended
    rw [hframe] at hgate htariff hscreen hdoubt haisle
    exact ⟨⟨hdoubt, hjournal ▸ hrecords, hjournal ▸ hreserved, hscreen, htariff, haisle⟩, htx, hgate⟩

/-! The end of a capture (R31, R98). -/

theorem State.appendReserved_withReaders (s : State) (rs : PerSide Reader) (second : Option Nat) (side : Option Side)
    (body : RecordBody) :
    (s.withReaders rs).appendReserved second side body = (s.appendReserved second side body).withReaders rs := by
  rw [State.appendReserved_frame (s := s)]
  exact State.appendReserved_withBooks (s := s.withReaders rs) (b := s) rfl second side body

section Capture

variable {s : State} {sd : Side} {x : Transaction} {o : TapOutcome} {reason : Option CloneReason}

/-- The record of the capture is made, and the card is in the hold list (R31, R98). -/
def State.captured (s : State) (sd : Side) (x : Transaction) (o : TapOutcome) (reason : Option CloneReason) (c : CaptureResult) :
    State :=
  (s.appendReserved (some x.instant) (some sd) (.cloneCapture x.card x.captureCounter o reason c x.tariff)).captureHold
    x.card x.instant c

/-- After that the tap ends with the outcome fixed before (R31). -/
theorem State.finishMark_endedTo (c : CaptureResult) (hx : (s.ctx sd).tx = some x) (hv : x.verdict = some (o, reason))
    (ha : x.attached = none) :
    (s.captured sd x o reason c).endedTo (s.finishMark sd c).pump sd { x with journalHeld := false }
      { outcome := o, reason := reason, capture := some c } := by
  have hmark : s.finishMark sd c =
      (((s.appendReserved (some x.instant) (some sd) (.cloneCapture x.card x.captureCounter o reason c x.tariff)).mapTx sd
        fun t => { t with journalHeld := false }).captureHold x.card x.instant c).finishTx sd
          { outcome := o, reason := reason, capture := some c } := by
    simp only [State.finishMark, hx, hv]
  have hux : ((s.appendReserved (some x.instant) (some sd)
      (.cloneCapture x.card x.captureCounter o reason c x.tariff)).ctx sd).tx = some x := by
    rw [State.appendReserved_frame]
    exact hx
  rw [State.mapTx_some _ hux] at hmark
  rw [hmark]
  exact State.finishTx_endedTo (s := s.captured sd x o reason c) _ rfl ha rfl rfl rfl

theorem State.doneArrives_mark {e : Exchange} {turn : Bool} (he : (s.reader sd).exchange = some e) (hf : e.frame = .mark turn)
    (hs : (s.ctx sd).state = .marking) (hx : (s.ctx sd).tx = some x) :
    s.doneArrives sd true turn = (s.setReader sd (s.reader sd).endExchange).finishMark sd .done := by
  simp [State.doneArrives, Reader.awaited_some he, hf, State.doneAnswered, hs, hx]

end Capture

/-- Settles O20: both ends of MARKING are the same end, on a side that is still BOUND or has parted. -/
theorem captureFinished : Obligations.CaptureFinished := by
  intro s sd e turn x o reason he hf hl hs hx hv ha ho ended
  have hends (c : CaptureResult) {r : Reader}
      (hr : (r.parted (s.sup.readerHold.get sd)).link = if s.sup.readerHold.get sd then .down else .searching) :
      ended c ((s.setReader sd r).finishMark sd c).pump ∧
        ((((s.setReader sd r).finishMark sd c).pump).reader sd).turn = r.turn := by
    have hended := State.finishMark_endedTo (s := s.setReader sd r) c hx hv ha
    have hbooks := s.appendReserved_withReaders (s.readers.set sd r) (some x.instant) (some sd)
      (.cloneCapture x.card x.captureCounter o reason c x.tariff)
    obtain ⟨hrecords, hreserved⟩ := s.appendReserved_grows (some x.instant) (some sd)
      (.cloneCapture x.card x.captureCounter o reason c x.tariff)
    have hframe := State.appendReserved_frame (s := s) (some x.instant) (some sd)
      (.cloneCapture x.card x.captureCounter o reason c x.tariff)
    have hcaptured : (s.setReader sd r).captured sd x o reason c =
        ((s.appendReserved (some x.instant) (some sd) (.cloneCapture x.card x.captureCounter o reason c x.tariff)).withReaders
          (s.readers.set sd r)).captureHold x.card x.instant c := by rw [← hbooks]; rfl
    rw [hcaptured] at hended
    show ended c _ ∧ _
    simp only [ended]
    generalize s.appendReserved _ _ _ = told at hended hrecords hreserved hframe
    generalize ((s.setReader sd r).finishMark sd c).pump = t at hended
    rw [hframe] at hended
    have hreader := hended.reader
    have hjournal : t.journal = told.journal := hended.journal_eq rfl
    have htx := hended.tx_none
    have hctxOther := hended.ctx_other
    have hreaderOther : t.reader sd.other = s.reader sd.other := hended.reader_other.trans (PerSide.get_set_other _ _ _)
    obtain ⟨-, -, hgate, -, hsup, hport, -, -, hscreen, hdoubt, -⟩ := hended
    have hlists : t.screen = s.screen.addHold x.card (s.screen.holdUntil x.instant) := hscreen
    have hafter : t.reader sd = r.afterTap (s.sup.readerHold.get sd) x.card o :=
      hreader.trans (congrArg (fun q : Reader => q.afterTap (s.sup.readerHold.get sd) x.card o) (PerSide.get_set_self _ _ _))
    have hrefusal : o ∉ [TapOutcome.accepted, .repeated, .resolved, .retap] ∧ ¬(o = .cardLost ∨ o = .retap) := by
      rcases ho with rfl | rfl <;> simp
    refine ⟨⟨hport, hjournal ▸ hrecords, hjournal ▸ hreserved, ?added, ?others, ?denylist, ?sightings, htx, ?link, ?hold,
      (congrArg Gate.queues hgate :), ?reservation, ?refusal, hdoubt, hctxOther, hreaderOther⟩, ?turn⟩
    case added => exact hlists ▸ s.screen.addHold_mem x.card _
    case others => exact fun h hh hc hroom => hlists ▸ Screen.mem_addHold_of_mem _ hh hc hroom
    case denylist => exact hlists ▸ (Screen.addHold_same s.screen x.card _).2.2.1
    case sightings => exact hlists ▸ s.screen.addHold_sightings x.card _
    case link => exact hafter ▸ hr
    case hold => rw [hafter, Reader.afterTap, if_neg hrefusal.2]
    case reservation => rw [hgate, PerSide.get_set_self]
    case refusal =>
      rw [hsup]
      dsimp only
      rw [if_neg hrefusal.1, PerSide.get_set_self]
    case turn =>
      rw [hafter, Reader.afterTap]
      exact r.parted_turn _
  refine ⟨⟨_, exec_done sd true turn s, ?_⟩, fun h3 => ⟨_, exec_answerTimerExpiry sd s, ?_⟩⟩
  · rw [State.doneArrives_mark he hf hs hx]
    exact hends .done (r := (s.reader sd).endExchange) (Reader.parted_link (r := (s.reader sd).endExchange) hl _)
  · rw [State.answerExpires_lost he h3 hl,
      State.cardLost_marking (s := s.setReader sd ((s.reader sd).parted (s.sup.readerHold.get sd))) hx hs]
    exact (hends .failed (by rw [Reader.parted_parted]; exact Reader.parted_link hl _)).1

end Sys2Proof.Machine
end

section
/-! The passage that a tap grants: what the fill of a reservation changes (R46, R131, R132, R137 to R141). -/

namespace Sys2Proof.Machine

/-! A moving barrier. -/

/-- An authorisation without its passage deadline. -/
def Auth.bare (a : Auth) : Auth :=
  { a with deadline := none }

/-- What a move of the barrier keeps of the gate: the reservations, the orders and reasons, and the authorisations but for the deadline
that the head of the owner's queue takes (R137). -/
structure Gate.Moved (g h : Gate) : Prop where
  reservations : h.reservations = g.reservations
  queues : ∀ sd, (h.queues.get sd).map Auth.bare = (g.queues.get sd).map Auth.bare

theorem Gate.Moved.refl (g : Gate) : g.Moved g :=
  ⟨rfl, fun _ => rfl⟩

theorem Gate.Moved.trans {g h k : Gate} (x : g.Moved h) (y : h.Moved k) : g.Moved k :=
  ⟨y.reservations.trans x.reservations, fun sd => (y.queues sd).trans (x.queues sd)⟩

/-- The barrier alone has moved. -/
def State.Drives (s t : State) : Prop :=
  t = { s with gate := t.gate } ∧ s.gate.Moved t.gate

theorem State.Drives.refl (s : State) : s.Drives s :=
  ⟨rfl, .refl _⟩

theorem State.Drives.trans {s t u : State} (x : s.Drives t) (y : t.Drives u) : s.Drives u := by
  obtain ⟨hs, hmoved⟩ := x
  obtain ⟨ht, hmoved'⟩ := y
  refine ⟨?_, hmoved.trans hmoved'⟩
  rw [ht, hs]

theorem Gate.headDeadline_moved (g : Gate) : g.Moved g.headDeadline := by
  unfold Gate.headDeadline
  split
  next sd hb ho =>
    split
    · exact .refl g
    next x xs hq =>
      split
      · exact .refl g
      · refine ⟨rfl, fun sd' => ?_⟩
        rw [PerSide.get_set]
        split
        next h => simp [h, hq, Auth.bare]
        next => rfl
  · exact .refl g

section Barrier

variable (s : State)

theorem State.enterBarrier_drives (b : BarrierState) (phase : Option ClosingPhase) (owner : Option Side) :
    s.Drives (s.enterBarrier b phase owner) :=
  ⟨rfl, rfl, fun _ => rfl⟩

theorem State.travel_drives (travel : Timer) : s.Drives { s with gate := { s.gate with travel := travel } } :=
  ⟨rfl, rfl, fun _ => rfl⟩

theorem State.headDeadline_drives : s.Drives { s with gate := s.gate.headDeadline } :=
  ⟨rfl, s.gate.headDeadline_moved⟩

theorem State.reachOpen_drives (sd : Side) : s.Drives (s.reachOpen sd) :=
  (s.enterBarrier_drives .opened none (some sd)).trans (s.enterBarrier .opened none (some sd)).headDeadline_drives

theorem State.beginOpening_drives (sd : Side) : s.Drives (s.beginOpening sd) := by
  have henter := s.enterBarrier_drives .opening none (some sd)
  dsimp only [State.beginOpening]
  split
  · exact henter.trans (State.reachOpen_drives _ sd)
  · exact henter.trans (State.travel_drives _ _)

theorem State.selectOwner_drives : s.Drives s.selectOwner := by
  unfold State.selectOwner
  split
  · exact .refl s
  · exact s.beginOpening_drives .a
  · exact s.beginOpening_drives .b
  · exact State.Drives.trans (t := { s with gate := { s.gate with pointer := (s.gate.pointer + 1) % 16 } })
      ⟨rfl, rfl, fun _ => rfl⟩ (State.beginOpening_drives _ _)

theorem State.reachClosed_drives : s.Drives s.reachClosed :=
  (s.enterBarrier_drives .closed none none).trans (State.selectOwner_drives _)

theorem State.beginDriving_drives : s.Drives s.beginDriving := by
  have henter := s.enterBarrier_drives .closing (some .driving) none
  dsimp only [State.beginDriving]
  split
  · exact henter.trans (State.reachClosed_drives _)
  · exact henter.trans (State.travel_drives _ _)

theorem State.delayExpires_drives : s.Drives s.delayExpires := by
  unfold State.delayExpires
  split
  next sd _ _ =>
    split
    · exact s.beginDriving_drives
    · exact State.Drives.trans (t := { s with gate := { s.gate with owner := some sd.other, closeDelay := none } })
        ⟨rfl, rfl, fun _ => rfl⟩ (State.headDeadline_drives _)
  · exact s.beginDriving_drives

theorem State.delayEval_drives : s.Drives s.delayEval := by
  unfold State.delayEval
  repeat' split
  · exact .refl s
  · exact s.delayExpires_drives
  · exact ⟨rfl, rfl, fun _ => rfl⟩
  · exact ⟨rfl, rfl, fun _ => rfl⟩

theorem State.authJoined_drives (sd : Side) : s.Drives (s.authJoined sd) := by
  unfold State.authJoined
  split
  · exact s.selectOwner_drives
  · exact s.headDeadline_drives.trans (State.delayEval_drives _)
  · split
    · exact .refl s
    · exact s.beginOpening_drives sd
  · exact .refl s

end Barrier

/-! The fill (R46, R132). -/

/-- The grant that a fill of a reservation answers (R46, R132). -/
def Reservation.grant : Reservation → Grant
  | .held => .queued
  | .withdrawn .freeOpen => .discarded
  | .withdrawn .holdOrFailClosed => .cancelled
  | .absent => .none

theorem Reservation.grant_eq (r : Reservation) :
    r.grant = match r with
      | .held => .queued
      | .withdrawn .freeOpen => .discarded
      | .withdrawn .holdOrFailClosed => .cancelled
      | .absent => .none := by
  rcases r with _ | _ | ⟨_ | _⟩ <;> rfl

theorem Reservation.grant_queued_iff (r : Reservation) : r.grant = .queued ↔ r = .held := by
  rcases r with _ | _ | ⟨_ | _⟩ <;> simp [Reservation.grant]

/-- A fill gives up the side's reservation, and a HELD one joins its queue as `x` (R131, R132). -/
structure Gate.Filled (g h : Gate) (sd : Side) (x : Auth) : Prop where
  reservations : h.reservations = g.reservations.set sd .absent
  joins : g.reservations.get sd = .held → (h.queues.get sd).map Auth.bare = (g.queues.get sd).map Auth.bare ++ [x.bare]
  stays : g.reservations.get sd ≠ .held → h.queues = g.queues
  other : (h.queues.get sd.other).map Auth.bare = (g.queues.get sd.other).map Auth.bare

theorem State.fill_eq (s : State) (sd : Side) (origin : AuthOrigin) (card : CardId) (seq : Option Nat) :
    ∃ g, s.fill sd origin card seq = ({ s with gate := g }, (s.gate.reservations.get sd).grant) ∧
      s.gate.Filled g sd { origin := origin, card := some card, seq := seq, granted := s.now, deadline := none } := by
  by_cases hheld : s.gate.reservations.get sd = .held
  · generalize hx : ({ origin := origin, card := some card, seq := seq, granted := s.now, deadline := none } : Auth) = x
    obtain ⟨hframe, hmoved⟩ := State.authJoined_drives ((s.setReservation sd .absent).setQueue sd (s.gate.queues.get sd ++ [x])) sd
    have hfill : s.fill sd origin card seq =
        (((s.setReservation sd .absent).setQueue sd (s.gate.queues.get sd ++ [x])).authJoined sd, .queued) := by
      rw [← hx]
      simp only [State.fill, hheld]
      rfl
    rw [hfill, hheld]
    refine ⟨_, Prod.ext hframe rfl, hmoved.reservations, fun _ => ?_, fun h => absurd hheld h, ?_⟩
    · rw [hmoved.queues]
      simp [State.setQueue]
    · rw [hmoved.queues]
      simp [State.setQueue, State.setReservation]
  · refine ⟨{ s.gate with reservations := s.gate.reservations.set sd .absent }, ?_, rfl, fun h => absurd h hheld, fun _ => rfl, rfl⟩
    unfold State.fill
    split
    next h =>
      have hset : s.gate.reservations.set sd .absent = s.gate.reservations := by rw [← h, PerSide.set_get]
      rw [hset, h]
      rfl
    next h => rw [h]; rfl
    next h => rw [h]; rfl
    next h => exact absurd h hheld

end Sys2Proof.Machine
end

section
/-! The finishing work of a completed write (R35, R38, R110, R132). -/

namespace Sys2Proof.Machine

/-! The commit in the sightings table (R110). -/

section Commit

variable {c : Screen} {k : Commit}

theorem Screen.sightingOf_commit_first (h : c.sightingOf k.card = none) :
    (c.commit k).sightingOf k.card = some (k.sighting false c.nextJoin) := by
  simp only [Screen.commit, h]
  exact Screen.sightingOf_joinSighting (x := k.sighting false 0) h

theorem Screen.sightingOf_commit_taken {y : Sighting} (h : c.sightingOf k.card = some y)
    (hk : y.counter < k.counter ∨ (y.counter = k.counter ∧ y.purse = k.purse)) :
    (c.commit k).sightingOf k.card = some (k.sighting y.conflict y.joined) := by
  simp only [Screen.commit, h, if_pos hk]
  exact Screen.sightingOf_putSighting _ _

theorem Screen.sightingOf_commit_conflict {y : Sighting} (h : c.sightingOf k.card = some y)
    (hk : k.counter < y.counter ∨ (y.counter = k.counter ∧ y.purse ≠ k.purse)) :
    (c.commit k).sightingOf k.card = some { y with conflict := true } := by
  have hnot : ¬(y.counter < k.counter ∨ (y.counter = k.counter ∧ y.purse = k.purse)) := by
    rintro (hlt | ⟨heq, hp⟩)
    · omega
    · rcases hk with hlt | ⟨-, hne⟩
      · omega
      · exact hne hp
  simp only [Screen.commit, h, if_neg hnot]
  rw [← Screen.sightingOf_card h]
  exact Screen.sightingOf_putSighting _ { y with conflict := true }

end Commit

theorem Side.tapKind_eq (sd : Side) : sd.tapKind = match sd with | .a => .entry | .b => .exit := by
  cases sd <;> rfl

/-- The SIGHTING_OUT of a commit, with this gate's identity (R110, R114). -/
theorem State.commitOf_notice (s : State) (x : Transaction) (f : FareRecord) (r : Reservation) :
    (s.commitOf x f r.grant).notice =
      .sightingOut x.card f.counterAfter f.purseAfter (match f.side with | .a => .entry | .b => .exit) x.instant s.port.station
        s.port.gateNo (if r = .held then .pending else .notTaken) := by
  have hpassage : (if r.grant = .queued then PassageState.pending else .notTaken) = if r = .held then .pending else .notTaken :=
    if_congr r.grant_queued_iff rfl rfl
  rw [← hpassage, ← Side.tapKind_eq]
  rfl

/-- The commit of a completed write, recorded in the table (R110). -/
theorem State.commitTaken_of_commit {s t : State} {sd : Side} {x : Transaction} {f : FareRecord}
    (h : t.screen = s.screen.commit (s.commitOf x f (s.gate.reservations.get sd).grant)) : s.commitTaken t sd x f := by
  have hpassage : (s.commitOf x f (s.gate.reservations.get sd).grant).passage =
      if s.gate.reservations.get sd = .held then .pending else .notTaken :=
    if_congr (Reservation.grant_queued_iff _) rfl rfl
  have hsighting (conflict : Bool) (joined : Nat) :
      (s.commitOf x f (s.gate.reservations.get sd).grant).sighting conflict joined =
        { card := x.card, counter := f.counterAfter, purse := f.purseAfter, alternate := none
          kind := match f.side with | .a => .entry | .b => .exit
          second := x.instant, station := s.port.station, gate := s.port.gateNo, source := .local
          passage := if s.gate.reservations.get sd = .held then .pending else .notTaken, conflict := conflict, joined := joined } := by
    rw [← hpassage, ← Side.tapKind_eq]
    rfl
  refine ⟨fun hy => ?_, fun y hy => ⟨fun hk => ?_, fun hk => ?_⟩⟩
  · rw [h]
    exact (Screen.sightingOf_commit_first hy).trans (congrArg some (hsighting _ _))
  · rw [h]
    exact (Screen.sightingOf_commit_taken hy hk).trans (congrArg some (hsighting _ _))
  · rw [h]
    exact Screen.sightingOf_commit_conflict (k := s.commitOf x f _) hy hk

/-! The work of R35. -/

section Settle

variable {s : State} {sd : Side} {x : Transaction}

/-- The state in which the TAP_RESULT of a completed write is made: the entry is gone, the fare record appended, the reservation filled
into the gate `g`, and the commit recorded (R35, steps 1 to 4). -/
def State.settled (s : State) (sd : Side) (x : Transaction) (f : FareRecord) (g : Gate) : State :=
  let told := s.appendReserved (some f.instant) (some f.side) (.fare f)
  let k := s.commitOf x f (s.gate.reservations.get sd).grant
  { (s.removeEntry x.card).withBooks told with gate := g, screen := s.screen.commit k, port := told.port.notify k.notice }

theorem State.settleWrite_eq (f : FareRecord) (o : TapOutcome) (hx : (s.ctx sd).tx = some x) :
    ∃ g, s.settleWrite sd f o = (s.settled sd x f g).finishTx sd
        { outcome := o, grant := (s.gate.reservations.get sd).grant
          charge := some { charge := f.charge, purse := f.purseAfter, seq := s.journal.next } } ∧
      s.gate.Filled g sd
        { origin := .card, card := some x.card, seq := some s.journal.next, granted := s.now, deadline := none } := by
  have happend : (s.removeEntry x.card).appendReserved (some f.instant) (some f.side) (.fare f) =
      (s.removeEntry x.card).withBooks (s.appendReserved (some f.instant) (some f.side) (.fare f)) :=
    State.appendReserved_withBooks (s := s.removeEntry x.card) (b := s) rfl _ _ _
  obtain ⟨g, hfill, hfilled⟩ := ((s.removeEntry x.card).withBooks (s.appendReserved (some f.instant) (some f.side) (.fare f))).fill_eq
    sd .card x.card (some s.journal.next)
  obtain ⟨hstation, hgateNo⟩ : (s.appendReserved (some f.instant) (some f.side) (.fare f)).port.station = s.port.station ∧
      (s.appendReserved (some f.instant) (some f.side) (.fare f)).port.gateNo = s.port.gateNo := by simp
  refine ⟨g, ?_, hfilled⟩
  simp only [State.settleWrite, hx]
  rw [show (s.removeEntry x.card).journal.next = s.journal.next from rfl, happend, hfill]
  dsimp only [State.recordCommit]
  unfold State.settled
  generalize s.appendReserved _ _ _ = told at *
  have hcommit : (({ (s.removeEntry x.card).withBooks told with gate := g } : State).commitOf x f
      (((s.removeEntry x.card).withBooks told).gate.reservations.get sd).grant) =
      s.commitOf x f (s.gate.reservations.get sd).grant := by
    unfold State.commitOf
    rw [← hstation, ← hgateNo]
    rfl
  rw [hcommit]
  rfl

/-- After it the tap ends with its TAP_RESULT (R35, R37). -/
theorem State.settled_endedTo (f : FareRecord) (g : Gate) (fin : Finish) (hx : (s.ctx sd).tx = some x)
    (ha : x.attached = none ∨ x.attached = some x.card) (hheld : x.journalHeld = false) :
    (s.settled sd x f g).endedTo ((s.settled sd x f g).finishTx sd fin).pump sd x fin :=
  State.finishTx_endedTo_detached (s := s.settled sd x f g) fin hx ha hheld (s.removeEntry_detached x.card)

theorem State.settled_journal (s : State) (sd : Side) (x : Transaction) (f : FareRecord) (g : Gate) :
    s.journal.records ++ [{ seq := s.journal.next, second := some f.instant, side := some f.side, body := .fare f }] <+:
        (s.settled sd x f g).journal.records ∧
      (s.settled sd x f g).journal.reserved = s.journal.reserved - 1 :=
  s.appendReserved_grows (some f.instant) (some f.side) (.fare f)

end Settle

/-! Room in the notice queue (R176, R177). -/

theorem Port.notify_length_le (p : Port) (n : Notice) : (p.notify n).notices.length ≤ p.notices.length + 1 := by
  have hpush : (p.push n).notices.length ≤ p.notices.length + 1 := by
    unfold Port.push
    split <;> simp
  unfold Port.notify
  split
  · exact hpush
  · split
    · split <;> exact Nat.le_succ _
    · exact hpush

/-- A notice of a class that is not masked joins a queue that has room. -/
theorem Port.mem_notify {p : Port} {n : Notice} {c : NoticeClass} (hc : n.cls = some c) (hm : p.masked.get c = false)
    (hroom : p.notices.length < 32) : n ∈ (p.notify n).notices := by
  simp [Port.notify, hc, hm, Port.push, hroom]

/-- What waits still waits or is on the line when the transmitter has had its turn. -/
theorem Port.mem_pump {p : Port} {n : Notice} (h : n ∈ p.notices) : n ∈ p.pump.notices ∨ p.pump.line = some (.notice n) := by
  unfold Port.pump
  split
  · exact .inl h
  split
  · exact .inl h
  split
  · split
    next hn => simp [hn] at h
    next m rest hn =>
      rw [hn, List.mem_cons] at h
      split
      · exact h.symm.imp_right fun hm => by rw [hm]
      · exact h.symm.imp (List.mem_append_left _) fun hm => by rw [hm]
  · exact .inl h

/-- An append queues two notices at most, JOURNAL_LOW and the FAULT of JOURNAL (R165, R169). -/
theorem State.appendReserved_notices_le (s : State) (second : Option Nat) (side : Option Side) (body : RecordBody) :
    (s.appendReserved second side body).port.notices.length ≤ s.port.notices.length + 2 := by
  have hnoted : (s.noted second side body (s.journal.reserved - 1)).port.notices.length ≤ s.port.notices.length + 1 := by
    dsimp only [State.noted]
    split
    · exact Port.notify_length_le _ _
    · exact Nat.le_succ _
  rw [State.appendReserved, State.afterAppend_appendRaw]
  split
  next hfree =>
    by_cases hj : s.sup.conds.journal = .clear
    · rw [State.raiseJournal_clear (s.noted second side body (s.journal.reserved - 1)) hj ((State.noted_free _ _ _ _ _).trans hfree)
        (State.noted_disarmed _ _ _ _ _ hfree)]
      exact (Port.notify_length_le _ _).trans (Nat.succ_le_succ hnoted)
    · rw [State.raiseJournal_raised (s.noted second side body (s.journal.reserved - 1)) hj]
      omega
  next => omega

theorem State.doneArrives_store {s : State} {sd : Side} {x : Transaction} {e : Exchange} {turn : Bool} {no : SlotNo}
    {record : CardRecord} {f : FareRecord} (he : (s.reader sd).exchange = some e) (hf : e.frame = .store turn no record)
    (hs : (s.ctx sd).state = .writing) (hx : (s.ctx sd).tx = some x) (hfare : x.fare = some f) :
    s.doneArrives sd true turn =
      (s.setReader sd (s.reader sd).endExchange).settleWrite sd f (if x.attached.isSome then .resolved else .accepted) := by
  simp [State.doneArrives, Reader.awaited_some he, hf, State.doneAnswered, hs, hx, hfare]

/-- The TAP_RESULT of a completed write has room where three notices can come before it (R35, R165). -/
theorem State.settled_tells {s : State} {sd : Side} {x : Transaction} {f : FareRecord} {g : Gate} (r : TapResult)
    (hm : s.port.masked.get .tapResult = false) (hroom : s.port.notices.length ≤ 28) :
    .tapResult r ∈ ((s.settled sd x f g).port.notify (.tapResult r)).notices := by
  let told := s.appendReserved (some f.instant) (some f.side) (.fare f)
  let k := s.commitOf x f (s.gate.reservations.get sd).grant
  have htold : told.port.notices.length ≤ s.port.notices.length + 2 := s.appendReserved_notices_le _ _ _
  have hcommit : (told.port.notify k.notice).notices.length ≤ told.port.notices.length + 1 := Port.notify_length_le _ _
  refine Port.mem_notify rfl ?_ (show (told.port.notify k.notice).notices.length < 32 by omega)
  show (told.port.notify k.notice).masked.get .tapResult = false
  simpa [told] using hm

/-- Settles O17: the work of R35 on the side that has heard DONE, and the end of its transaction. -/
theorem writeCompleted : Obligations.WriteCompleted := by
  intro s sd e turn no record x f he hf hl hs hx hfare ha hheld
  generalize hu : s.setReader sd (s.reader sd).endExchange = u
  have hux : (u.ctx sd).tx = some x := by rw [← hu]; exact hx
  obtain ⟨g, hsettle, hfilled⟩ := State.settleWrite_eq f (if x.attached.isSome then .resolved else .accepted) hux
  have hended := State.settled_endedTo f g
    { outcome := if x.attached.isSome then .resolved else .accepted, grant := (u.gate.reservations.get sd).grant
      charge := some { charge := f.charge, purse := f.purseAfter, seq := u.journal.next } } hux ha hheld
  rw [← hsettle] at hended
  have hexec : exec (.done sd true turn) s =
      .next (u.settleWrite sd f (if x.attached.isSome then .resolved else .accepted)).pump := by
    rw [exec_done, State.doneArrives_store he hf hs hx hfare, hu]
  generalize (u.settleWrite sd f _).pump = t at hended hexec
  refine ⟨t, hexec, ?_⟩
  have hreader := hended.reader
  have hjournal := hended.journal_eq hheld
  have htx := hended.tx_none
  have hctxOther := hended.ctx_other
  have hreaderOther := hended.reader_other
  obtain ⟨hrecords, hreserved⟩ := u.settled_journal sd x f g
  obtain ⟨hreservations, hjoins, hstays, hother⟩ := hfilled
  obtain ⟨-, -, hgate, -, hsup, hport, -, -, hscreen, hdoubt, -⟩ := hended
  have hqueues : t.gate.queues = g.queues := by rw [hgate]; rfl
  have hafter : t.reader sd = (s.reader sd).endExchange.afterTap (s.sup.readerHold.get sd) x.card
      (if x.attached.isSome then .resolved else .accepted) := by
    rw [hreader, ← hu]
    exact congrArg (fun r : Reader => r.afterTap (s.sup.readerHold.get sd) x.card _) (PerSide.get_set_self _ _ _)
  have houtcome : (if x.attached = none then TapOutcome.accepted else .resolved) =
      if x.attached.isSome then .resolved else .accepted := by
    cases x.attached <;> rfl
  have hhold : ¬((if x.attached.isSome then TapOutcome.resolved else .accepted) = .cardLost ∨
      (if x.attached.isSome then TapOutcome.resolved else .accepted) = .retap) := by
    cases x.attached <;> simp
  subst hu
  refine ⟨fun hm hroom => ?notices, congrArg DoubtTable.entries hdoubt, hjournal ▸ hrecords, hjournal ▸ hreserved,
    fun hheld' => hqueues ▸ hjoins hheld', fun hheld' => hqueues ▸ hstays hheld', hqueues ▸ hother, ?reservation,
    State.commitTaken_of_commit hscreen, ?link, ?inverted, ?hold, htx, hctxOther, ?readerOther⟩
  case notices =>
    rw [Reservation.grant_eq] at hport
    rw [houtcome, hport]
    exact Port.mem_pump (State.settled_tells _ hm hroom)
  case reservation => rw [hgate, PerSide.get_set_self]
  case link => rw [hafter]; exact Reader.parted_link (r := (s.reader sd).endExchange) hl _
  case inverted => rw [hafter]; exact Reader.parted_turn _ _
  case hold => rw [hafter, Reader.afterTap, if_neg hhold]
  case readerOther => exact hreaderOther.trans (PerSide.get_set_other _ _ _)

end Sys2Proof.Machine
end

section
/-! The grants without a write: STAFF and REPEAT (R32, R46, R71, R112, R117). -/

namespace Sys2Proof.Machine

section Grant

variable {s t u : State} {sd : Side} {x : Transaction} {g : Gate} {origin : AuthOrigin}

/-- A passage granted without a write: no entry and no record, both reservations given up, and a HELD one in the queue (R32). -/
def State.Granted (s t : State) (sd : Side) (x : Transaction) (origin : AuthOrigin) : Prop :=
  t.doubt = s.doubt ∧ t.journal = { s.journal with reserved := s.journal.reserved - 1 } ∧ (t.ctx sd).tx = none ∧
    t.gate.reservations.get sd = .absent ∧
    (s.gate.reservations.get sd = .held →
      (t.gate.queues.get sd).map Auth.bare = (s.gate.queues.get sd).map Auth.bare ++
        [{ origin := origin, card := some x.card, seq := none, granted := s.tariff.clock, deadline := none }]) ∧
    (s.gate.reservations.get sd ≠ .held → t.gate.queues = s.gate.queues)

/-- A tap that ends after its reservation has been filled, and nothing written, has been granted. -/
theorem State.granted_of_endedTo {f : Finish} (h : u.endedTo t sd x f) (hdoubt : u.doubt = s.doubt) (hjournal : u.journal = s.journal)
    (hheld : x.journalHeld = true)
    (hfilled : s.gate.Filled u.gate sd { origin := origin, card := some x.card, seq := none, granted := s.now, deadline := none }) :
    s.Granted t sd x origin := by
  have htx := h.tx_none
  obtain ⟨-, -, hgate, hj, -, -, -, -, -, hd, -⟩ := h
  have hqueues : t.gate.queues = u.gate.queues := by rw [hgate]
  refine ⟨hd.trans hdoubt, ?_, htx, ?_, fun hr => hqueues ▸ hfilled.joins hr, fun hr => hqueues ▸ hfilled.stays hr⟩
  · rw [hj, hjournal, hheld]
    rfl
  · rw [hgate, PerSide.get_set_self]

end Grant

section Staff

variable {s : State} {sd : Side} {x : Transaction}

/-- The staff grant (R32, R71). -/
theorem State.grantStaff_eq (hx : (s.ctx sd).tx = some x) :
    ∃ g, s.grantStaff sd = ({ s with gate := g } : State).finishTx sd
        { outcome := .accepted, grant := (s.gate.reservations.get sd).grant } ∧
      s.gate.Filled g sd { origin := .staff, card := some x.card, seq := none, granted := s.now, deadline := none } := by
  obtain ⟨g, hfill, hfilled⟩ := s.fill_eq sd .staff x.card none
  refine ⟨g, ?_, hfilled⟩
  simp only [State.grantStaff, hx, hfill]

theorem price_staff {q : PricingRequest} (b : Bank) (p : Option FreePeriod) (h : q.kind = .staff) : price q b p = .staff :=
  if_pos h

end Staff

section Repeat

variable {s : State} {sd : Side} {x : Transaction} {y : Sighting} {r : CardRecord}

/-- The sighting after a REPEAT grant (R112). -/
def Sighting.repeated (y : Sighting) (expired : Bool) (r : CardRecord) : Sighting :=
  if expired then { y with passage := .pending, counter := r.counter, purse := r.purse, alternate := none }
  else { y with passage := .pending }

theorem Sighting.repeated_card (y : Sighting) (expired : Bool) (r : CardRecord) : (y.repeated expired r).card = y.card := by
  cases expired <;> rfl

/-- A REPEAT grant changes the card's sighting and the notices (R112, R114). -/
theorem State.repeatGranted_eq {card : CardId} (hy : s.screen.sightingOf card = some y) (expired : Bool) :
    ∃ p, s.repeatGranted card expired r.counter r.purse =
      { s with screen := s.screen.putSighting (y.repeated expired r), port := p } := by
  simp only [State.repeatGranted, hy]
  split
  · exact ⟨_, rfl⟩
  · exact ⟨s.port, rfl⟩

/-- The REPEAT grant: a HELD reservation is taken up by the sighting, a withdrawn one is not (R32, R46, R112). -/
theorem State.grantRepeat_eq (hx : (s.ctx sd).tx = some x) (hy : s.screen.sightingOf x.card = some y) (expired : Bool) :
    ∃ g p, s.grantRepeat sd expired r =
        ({ s with
          gate := g
          screen := if s.gate.reservations.get sd = .held then s.screen.putSighting (y.repeated expired r) else s.screen
          port := p } : State).finishTx sd { outcome := .repeated, grant := (s.gate.reservations.get sd).grant } ∧
      s.gate.Filled g sd { origin := .repeat, card := some x.card, seq := none, granted := s.now, deadline := none } := by
  obtain ⟨g, hfill, hfilled⟩ := s.fill_eq sd .repeat x.card none
  obtain ⟨p, hgranted⟩ := State.repeatGranted_eq (s := { s with gate := g }) (r := r) hy expired
  simp only [State.grantRepeat, hx, hfill, hgranted, Reservation.grant_queued_iff]
  split
  · exact ⟨g, p, rfl, hfilled⟩
  · exact ⟨g, s.port, rfl, hfilled⟩

/-- A re-entry whose sighting makes it a REPEAT is granted one (R93, R94, R117). -/
theorem State.screening_repeated {product : ProductKind × Nat} {m : DenyMark} {expired : Bool} (hs : (s.ctx sd).state = .screening)
    (hx : (s.ctx sd).tx = some x) (hw : x.waitsForSwap = false) (hp : x.product = some product) (hk : product.1 ≠ .staff)
    (hr : x.currentRecord = some r) (hm : x.mark = some m) (hswap : m.afterSwap = false) (ha : x.attached = none)
    (hheld : x.journalHeld = true) (hy : s.screen.sightingOf x.card = some y)
    (hv : s.verdictOn sd x r m = .repeated expired) :
    ∃ t, exec (.screening sd) s = .next t ∧ s.Granted t sd x .repeat ∧
      (s.gate.reservations.get sd = .held → t.screen.sightingOf x.card = some (y.repeated expired r)) ∧
      (s.gate.reservations.get sd ≠ .held → t.screen = s.screen) := by
  obtain ⟨g, p, hgrant, hfilled⟩ := State.grantRepeat_eq (r := r) hx hy expired
  refine ⟨_, exec_screening sd s, ?_⟩
  rw [State.screenEvent_first hs hx hw, State.screen1_judged hx hp hk hr hm (.inl hswap), State.screened, hv,
    Screen.noteVerdict_other _ _ (by simp)]
  rw [show (({ s with screen := s.screen } : State).actOnVerdict sd r (.repeated expired)) = s.grantRepeat sd expired r from rfl, hgrant]
  generalize hu : ({ s with gate := g, screen := _, port := p } : State) = u
  have hended := State.finishTx_endedTo_self (s := u) (sd := sd)
    { outcome := .repeated, grant := (s.gate.reservations.get sd).grant } (by rw [← hu]; exact hx) ha
  have hgranted : s.Granted _ sd x .repeat := State.granted_of_endedTo hended (by rw [← hu]) (by rw [← hu]) hheld (hu ▸ hfilled)
  obtain ⟨-, -, -, -, -, -, -, -, hscreen, -⟩ := hended
  refine ⟨hgranted, fun hres => ?_, fun hres => ?_⟩
  · rw [hscreen, ← hu]
    dsimp only
    rw [if_pos hres, ← Screen.sightingOf_card hy, ← y.repeated_card expired r]
    exact Screen.sightingOf_putSighting _ _
  · rw [hscreen, ← hu]
    exact if_neg hres

end Repeat

/-- The two sightings of a REPEAT pass the counter rules (R116, R117). -/
theorem counterRules_repeat {y : Sighting} {k : Nat} {p : Int} (hc : y.conflict = false)
    (h : (y.counter = k ∧ y.purse = p) ∨ y.counter + 1 = k) : counterRules (some y) k p = none := by
  have hlow : ¬(k < y.counter ∧ y.accepts k = false) := by omega
  have hpurse : ¬(k = y.counter ∧ p ≠ y.purse) := by
    rintro ⟨hk, hp⟩
    rcases h with ⟨-, hsame⟩ | hnext
    · exact hp hsame.symm
    · omega
  rw [counterRules_some, if_neg hlow, if_neg hpurse, hc]
  rfl

/-- Settles O22: the staff grant at the end of its pricing, and the REPEAT of either sighting. -/
theorem grantsWithoutWrite : Obligations.GrantsWithoutWrite := by
  intro s sd x r product hx hr hp ha hheld bare granted
  refine ⟨?screening, ?pricing, ?reentry⟩
  case screening =>
    intro hk hs hw hmark
    obtain ⟨m, hm⟩ := Option.isSome_iff_exists.mp hmark
    refine ⟨_, exec_screening sd s, ?_⟩
    rw [State.screenEvent_first hs hx hw, State.screen1_staff hx hp hk hr hm, State.enterPricing_eq hx]
    exact ⟨(congrArg Context.state (PerSide.get_set_self _ _ _) :), rfl, rfl, rfl⟩
  case pricing =>
    intro p hk hcur hside harea
    subst hside
    obtain ⟨area, harea⟩ := Option.isSome_iff_exists.mp harea
    have hq : s.pricingRequest p.side x = some
        { card := x.card, record := r, area := area, kind := product.1, profile := product.2, side := p.side
          station := s.port.station, instant := x.instant, tariff := x.tariff } := by
      simp [State.pricingRequest, hr, harea, hp]
    obtain ⟨g, hgrant, hfilled⟩ := State.grantStaff_eq (s := s.priced) hx
    have hended := State.endedTo_takeWaiting (State.finishTx_endedTo_self (s := { s.priced with gate := g }) (sd := p.side)
      { outcome := .accepted, grant := (s.priced.gate.reservations.get p.side).grant } hx ha)
    have hgranted : s.Granted _ p.side x .staff := State.granted_of_endedTo hended rfl rfl hheld hfilled
    refine ⟨_, exec_pricingComplete s, ?_⟩
    rw [State.pricingEnds_eq hcur hx hq, price_staff _ _ hk]
    rw [show s.priced.actOnPrice p.side x .staff = s.priced.grantStaff p.side from rfl, hgrant]
    obtain ⟨-, -, -, -, -, -, -, -, hscreen, -⟩ := hended
    exact ⟨hgranted, hscreen⟩
  case reentry =>
    intro m y hk hs hw hm hswap hnotHeld hnotListed hblocked hre hy hconflict
    have hverdict (hsighting : (y.counter = r.counter ∧ y.purse = r.purse) ∨ y.counter + 1 = r.counter) :
        s.verdictOn sd x r m = passbackVerdict (some y) r.counter := by
      rw [State.verdictOn, hblocked, screenCard_passed hnotHeld hnotListed (hy ▸ counterRules_repeat hconflict hsighting), hre, hy]
      rfl
    refine ⟨fun hc hpurse hpassage => ?_, fun hc halt => ?_⟩
    · exact State.screening_repeated (expired := false) hs hx hw hp hk hr hm hswap ha hheld hy
        ((hverdict (.inl ⟨hc, hpurse⟩)).trans (if_pos ⟨hc, hpassage⟩))
    · have hne : ¬(y.counter = r.counter ∧ y.passage = .notTaken) := by omega
      exact State.screening_repeated (expired := true) hs hx hw hp hk hr hm hswap ha hheld hy
        ((hverdict (.inr hc)).trans ((if_neg hne).trans (if_pos ⟨hc, halt⟩)))

end Sys2Proof.Machine
end

section
/-! The resolution of an in-doubt entry (R38 to R42). -/

namespace Sys2Proof.Machine

/-! The entries of a card in the table (R38, R39). -/

section Entries

variable {s : State} {card : CardId} {f : InDoubt → InDoubt}

/-- A card's entries removed are those removed after a change of them. -/
theorem filter_card_map (l : List InDoubt) (hf : ∀ d, (f d).card = d.card) :
    (l.map fun d => if d.card = card then f d else d).filter (·.card ≠ card) = l.filter (·.card ≠ card) := by
  induction l with
  | nil => rfl
  | cons d l ih =>
    rw [List.map_cons, List.filter_cons, List.filter_cons, ih]
    by_cases hd : d.card = card
    · simp [hd, hf]
    · simp [hd]

theorem State.entryOf_mapEntry {e : InDoubt} (he : s.entryOf card = some e) (hf : ∀ d, (f d).card = d.card) :
    (s.mapEntry card f).entryOf card = some (f e) := by
  have hcard := (State.entryOf_mem he).2
  have hp : ((fun d : InDoubt => decide (d.card = card)) ∘ fun d => if d.card = card then f d else d) =
      fun d => decide (d.card = card) := by
    funext d
    by_cases hd : d.card = card <;> simp [hd, hf]
  rw [State.entryOf] at he
  rw [State.entryOf, State.mapEntry, List.find?_map, hp, he]
  simp [hcard]

theorem State.mapEntry_mapEntry (f' : InDoubt → InDoubt) (hf : ∀ d, (f d).card = d.card) :
    (s.mapEntry card f).mapEntry card f' = s.mapEntry card fun d => f' (f d) := by
  have hmap : ((fun d : InDoubt => if d.card = card then f' d else d) ∘ fun d => if d.card = card then f d else d) =
      fun d => if d.card = card then f' (f d) else d := by
    funext d
    by_cases hd : d.card = card <;> simp [hd, hf]
  simp only [State.mapEntry, List.map_map, hmap]

end Entries

/-! The judgment (R40 to R42). -/

section Judgment

variable {e : InDoubt} {n : SlotNo} {r : CardRecord} {target : Option CardRecord}

theorem judgeEntry_written (hn : n = e.target) (hr : r = e.record) (hc : r.counter = e.oldCounter + 1) :
    judgeEntry e n r target = .written := by
  rw [judgeEntry, if_pos hn, if_pos ⟨hc, hr⟩]

theorem judgeEntry_rewrite (hn : n ≠ e.target) (hc : r.counter = e.oldCounter) (ht : target ≠ some e.record) :
    judgeEntry e n r target = .rewrite := by
  rw [judgeEntry, if_neg hn, if_pos ⟨hc, ht⟩]

theorem judgeEntry_superseded
    (h : (n = e.target ∧ ¬(r = e.record ∧ r.counter = e.oldCounter + 1)) ∨
      (n ≠ e.target ∧ (r.counter ≠ e.oldCounter ∨ target = some e.record))) : judgeEntry e n r target = .superseded := by
  rcases h with ⟨hn, hne⟩ | ⟨hn, hne⟩
  · rw [judgeEntry, if_pos hn, if_neg fun h => hne h.symm]
  · have hnot : ¬(r.counter = e.oldCounter ∧ target ≠ some e.record) := by
      rintro ⟨hc, ht⟩
      exact hne.elim (· hc) ht
    rw [judgeEntry, if_neg hn, if_neg hnot]

end Judgment

section Resolution

variable {s : State} {sd : Side} {x : Transaction} {e : InDoubt} {n : SlotNo} {r : CardRecord}

/-- The own journal reservation of a tap given up (R39). -/
def State.given (s : State) : State :=
  { s with journal := { s.journal with reserved := s.journal.reserved - 1 } }

/-- The transaction whose card is judged, with its entry attached (R39). -/
def Transaction.judged (x : Transaction) : Transaction :=
  { x with attached := some x.card, journalHeld := false }

/-- The state in which a card is judged against its entry: the entry is attached, and the context has given up its journal reservation
(R39). -/
def State.resolving (s : State) (sd : Side) (x : Transaction) : State :=
  { (s.given.mapEntry x.card fun d => { d with attached := true }) with
    ctxs := s.ctxs.set sd { state := .screening, tx := some x.judged } }

theorem State.enterScreening_other (hx : (s.ctx sd).tx = some x) (he : s.entryOf x.card = some e) (hn : x.current = some n)
    (hr : x.slotRecord n = some r) (hside : e.side ≠ sd) :
    s.enterScreening sd = (s.setCtxState sd .screening).finishTx sd { outcome := .inDoubtOtherSide } := by
  have hrecord : x.currentRecord = some r := by simp [Transaction.currentRecord, hn, hr]
  have hentry : (s.setCtxState sd .screening).entryOf x.card = some e := he
  simp only [State.enterScreening, State.ctx_setCtxState, hx, hentry, hn, hrecord]
  exact if_neg hside

theorem State.enterScreening_own (hx : (s.ctx sd).tx = some x) (he : s.entryOf x.card = some e) (hn : x.current = some n)
    (hr : x.slotRecord n = some r) (hheld : x.journalHeld = true) (hside : e.side = sd) {j : Judgment}
    (hj : judgeEntry e n r (x.slotRecord e.target) = j) :
    s.enterScreening sd =
      match j with
      | .written => (s.resolving sd x).settleWrite sd e.fare .resolved
      | .rewrite => (s.resolving sd x).rewrite sd e
      | .superseded => (s.resolving sd x).supersede sd e x.instant r.counter := by
  have hrecord : x.currentRecord = some r := by simp [Transaction.currentRecord, hn, hr]
  have hentry : (s.setCtxState sd .screening).entryOf x.card = some e := he
  have hcard := (State.entryOf_mem he).2
  have hresolve : s.enterScreening sd = (s.setCtxState sd .screening).resolve sd e x n r := by
    simp only [State.enterScreening, State.ctx_setCtxState, hx, hentry, hn, hrecord]
    exact if_pos hside
  have hresolving : (((s.setCtxState sd .screening).mapEntry e.card fun d => { d with attached := true }).unreserve).mapTx sd
      (fun t => { t with attached := some e.card, journalHeld := false }) = s.resolving sd x := by
    have hctx : ((((s.setCtxState sd .screening).mapEntry e.card fun d => { d with attached := true }).unreserve).ctx sd).tx = some x :=
      (congrArg Context.tx (s.ctx_setCtxState sd .screening)).trans hx
    rw [State.mapTx_some _ hctx, hcard]
    simp only [State.setCtx, State.setCtxState, State.mapEntry, State.unreserve, State.ctx, PerSide.get_set_self, PerSide.set_set]
    rfl
  rw [hresolve]
  simp only [State.resolve, hheld, if_true, hj]
  rw [hresolving]
  cases j <;> rfl

theorem State.resolving_tx (s : State) (sd : Side) (x : Transaction) :
    ((s.resolving sd x).ctx sd).tx = some x.judged :=
  congrArg Context.tx (PerSide.get_set_self _ _ _)

theorem State.finishTx_port (f : Finish) (hx : (s.ctx sd).tx = some x) :
    (s.finishTx sd f).port = (s.releaseTx sd x).port.notify (.tapResult (f.tapResult sd x)) := by
  obtain ⟨fares, pin, hclose, -⟩ := (s.closing sd x f).closeContext_eq sd
  rw [State.finishTx_eq f hx, hclose]
  rfl

end Resolution

/-! The intended record in its target slot (R40). -/

section Written

variable {s : State} {sd : Side} {x : Transaction} {f : FareRecord}

/-- The tap that finds its write made ends as RESOLVED, as a completed write does (R35, R40). -/
theorem State.resolving_settled (s : State) (sd : Side) (x : Transaction) (f : FareRecord) :
    let u := s.resolving sd x
    let fin : Finish :=
      { outcome := .resolved, grant := (s.gate.reservations.get sd).grant
        charge := some { charge := f.charge, purse := f.purseAfter, seq := s.journal.next } }
    ∃ g, s.gate.Filled g sd
        { origin := .card, card := some x.card, seq := some s.journal.next, granted := s.now, deadline := none } ∧
      (u.settled sd x.judged f g).endedTo (u.settleWrite sd f .resolved).pump sd x.judged fin ∧
      (u.settleWrite sd f .resolved).port =
        ((s.given.appendReserved (some f.instant) (some f.side) (.fare f)).port.notify
          (s.commitOf x f (s.gate.reservations.get sd).grant).notice).notify (.tapResult (fin.tapResult sd x)) := by
  intro u fin
  have hy : (u.ctx sd).tx = some x.judged := s.resolving_tx sd x
  obtain ⟨g, hsettle, hfilled⟩ := State.settleWrite_eq (s := u) f .resolved hy
  have hended := State.settled_endedTo f g fin hy (.inr rfl) rfl
  have htold : u.appendReserved (some f.instant) (some f.side) (.fare f) =
      u.withBooks (s.given.appendReserved (some f.instant) (some f.side) (.fare f)) :=
    State.appendReserved_withBooks (s := u) (b := s.given) rfl _ _ _
  have hport : (u.settled sd x.judged f g).port = (s.given.appendReserved (some f.instant) (some f.side) (.fare f)).port.notify
      (s.commitOf x f (s.gate.reservations.get sd).grant).notice := by
    rw [State.settled, htold]
    rfl
  have hrelease : (u.settled sd x.judged f g).releaseTx sd x.judged = (u.settled sd x.judged f g).setReservation sd .absent :=
    State.releaseTx_detached (s := u.settled sd x.judged f g) (x := x.judged) (.inr rfl) rfl (u.removeEntry_detached x.card)
  refine ⟨g, hfilled, hsettle ▸ hended, ?_⟩
  rw [hsettle, State.finishTx_port (s := u.settled sd x.judged f g) _ hy, hrelease]
  exact congrArg (Port.notify · _) hport

end Written

/-! The old counter and another target record (R41). -/

section Rewrite

variable {s : State} {sd : Side} {x : Transaction} {e : InDoubt}

theorem State.rewrite_stores (hl : (s.reader sd).link = .bound) (hs : s.storeForbidden sd = none) :
    ∃ pin,
      (s.resolving sd x).rewrite sd e =
        { s.resolving sd x with
          readers := s.readers.set sd ((s.reader sd).send (.store (s.reader sd).turn e.target e.record))
          ctxs := s.ctxs.set sd
            { state := .writing
              tx := some { x.judged with intended := some e.record, fare := some e.fare, guard := none, mark := none } }
          tariff := { s.tariff with pinned := pin } } := by
  have hforbidden : (s.resolving sd x).storeForbidden sd = none := hs
  obtain ⟨pin, hpin⟩ := State.enterWriting_bound
    (s := (s.resolving sd x).setCtx sd
      { (s.resolving sd x).ctx sd with tx := some { x.judged with intended := some e.record, fare := some e.fare } })
    (sd := sd) (congrArg Context.tx (State.ctx_setCtx _ _ _)) hl e.target e.record
  refine ⟨pin, ?_⟩
  simp only [State.rewrite, hforbidden]
  rw [State.mapTx_some _ (s.resolving_tx sd x), hpin]
  simp only [State.resolving, State.setCtx, PerSide.set_set]
  rfl

/-- Where no STORE may be sent, the tap ends with the entry detached (R39, R41). -/
theorem State.rewrite_forbidden {o : TapOutcome} (he : s.entryOf x.card = some e) (hp : e.passed = false)
    (hheld : x.journalHeld = true) (hs : s.storeForbidden sd = some o) :
    (s.mapEntry x.card fun d => { d with attached := false }).endedTo ((s.resolving sd x).rewrite sd e).pump sd x
      { outcome := o } := by
  have hforbidden : (s.resolving sd x).storeForbidden sd = some o := hs
  have hrewrite : (s.resolving sd x).rewrite sd e = (s.resolving sd x).finishTx sd { outcome := o } := by
    simp [State.rewrite, hforbidden]
  rw [hrewrite]
  refine State.finishTx_endedTo_of_release { state := .screening, tx := some x.judged } _ (s.resolving_tx sd x) rfl rfl ?_
  have hentry : ((s.resolving sd x).setReservation sd .absent).entryOf x.card = some { e with attached := true } :=
    State.entryOf_mapEntry (s := s) he fun _ => rfl
  have hdetach : ((s.resolving sd x).setReservation sd .absent).detach x.card =
      ((s.resolving sd x).setReservation sd .absent).mapEntry x.card fun d => { d with attached := false } := by
    simp [State.detach, hentry, hp]
  have hmap := State.mapEntry_mapEntry (s := s) (card := x.card) (f := fun d => { d with attached := true })
    (fun d => { d with attached := false }) fun _ => rfl
  have hrelease : (s.resolving sd x).releaseTx sd x.judged = ((s.resolving sd x).setReservation sd .absent).detach x.card := rfl
  have hdoubt : ((s.resolving sd x).setReservation sd .absent).mapEntry x.card (fun d => { d with attached := false }) =
      { (s.resolving sd x).setReservation sd .absent with
        doubt := ((s.mapEntry x.card fun d => { d with attached := true }).mapEntry x.card
          fun d => { d with attached := false }).doubt } := rfl
  rw [hrelease, hdetach, hdoubt, hmap, hheld]
  rfl

end Rewrite

/-! A card that has moved on (R42). -/

section Superseded

variable {s : State} {sd : Side} {x : Transaction} {e : InDoubt}

/-- Room for a reservation after a reserved append (R165, R168). -/
theorem State.appendReserved_canReserve (s : State) (second : Option Nat) (side : Option Side) (body : RecordBody) :
    (s.appendReserved second side body).canReserve =
      decide (s.journal.reserved - 1 + 16 < 2048 - (s.journal.records.length + 1)) := by
  obtain ⟨hrecords, hreserved⟩ := s.appendReserved_grows second side body
  have hlength := hrecords.length_le
  simp only [List.length_append, List.length_cons, List.length_nil] at hlength
  by_cases hfree : 2048 - (s.journal.records.length + 1) = 16
  · have hnone : ¬(s.journal.reserved - 1 + 16 < 2048 - (s.journal.records.length + 1)) := by omega
    have hfull : ¬(s.appendReserved second side body).journal.reserved + 16 < (s.appendReserved second side body).free := by
      rw [State.free]
      omega
    rw [decide_eq_false hnone]
    exact decide_eq_false hfull
  · have hnoted : s.appendReserved second side body = s.noted second side body (s.journal.reserved - 1) :=
      (State.afterAppend_appendRaw s second side body _).trans (if_neg hfree)
    rw [State.canReserve, hnoted, State.noted_free]
    rfl

/-- The state in which the entry of a card that has moved on is gone, with its record (R42). -/
def State.superseded (s : State) (sd : Side) (x : Transaction) (noted : State) : State :=
  { (s.removeEntry x.card).withBooks noted with
    ctxs := s.ctxs.set sd { state := .screening, tx := some { x with attached := none, journalHeld := false } } }

theorem State.supersede_eq (he : e.card = x.card) (instant found : Nat) :
    let noted := s.given.appendReserved (some instant) (some e.side)
      (.inDoubtSuperseded x.card e.oldCounter e.record e.fare.kind e.fare.charge e.tariff found)
    (s.resolving sd x).supersede sd e instant found =
      if noted.canReserve then
        { (s.superseded sd x noted).reserve with
          ctxs := s.ctxs.set sd { state := .screening, tx := some { x with attached := none, journalHeld := true } } }
      else (s.superseded sd x noted).finishTx sd { outcome := .journalFull } := by
  intro noted
  have happend : ((s.resolving sd x).removeEntry x.card).appendReserved (some instant) (some e.side)
      (.inDoubtSuperseded x.card e.oldCounter e.record e.fare.kind e.fare.charge e.tariff found) =
      ((s.resolving sd x).removeEntry x.card).withBooks noted :=
    State.appendReserved_withBooks (s := (s.resolving sd x).removeEntry x.card) (b := s.given) rfl _ _ _
  have hremove : (s.resolving sd x).removeEntry x.card =
      { s.given.removeEntry x.card with ctxs := (s.resolving sd x).ctxs } := by
    have hfilter := filter_card_map (card := x.card) (f := fun d => { d with attached := true }) s.doubt.entries fun _ => rfl
    simp only [State.resolving, State.removeEntry, State.mapEntry, State.given, hfilter]
  have htx : ((((s.resolving sd x).removeEntry x.card).withBooks noted).ctx sd).tx = some x.judged := s.resolving_tx sd x
  have hsuperseded : (((s.resolving sd x).removeEntry x.card).withBooks noted).mapTx sd (fun t => { t with attached := none }) =
      s.superseded sd x noted := by
    rw [State.mapTx_some _ htx, hremove]
    simp only [State.resolving, State.superseded, State.setCtx, State.ctx, State.withBooks, PerSide.get_set_self, PerSide.set_set]
    rfl
  have hreserve : (s.superseded sd x noted).reserve.mapTx sd (fun t => { t with journalHeld := true }) =
      { (s.superseded sd x noted).reserve with
        ctxs := s.ctxs.set sd { state := .screening, tx := some { x with attached := none, journalHeld := true } } } := by
    have hx : ((s.superseded sd x noted).reserve.ctx sd).tx = some { x with attached := none, journalHeld := false } :=
      congrArg Context.tx (PerSide.get_set_self _ _ _)
    rw [State.mapTx_some _ hx]
    simp only [State.superseded, State.setCtx, State.reserve, State.ctx, PerSide.get_set_self, PerSide.set_set]
  dsimp only [State.supersede]
  rw [he, happend, hsuperseded, hreserve]
  rfl

end Superseded

/-! The card checks that lead to the judgment (R20, R28, R39). -/

theorem chooseSlot_current {a b : Option CardRecord} {n : SlotNo} {r : CardRecord} (h : chooseSlot a b = .current n r) :
    (n = .zero ∧ a = some r) ∨ (n = .one ∧ b = some r) := by
  unfold chooseSlot at h
  repeat' split at h
  all_goals simp_all

theorem Transaction.slotRecord_of_chosen {x : Transaction} {key : Key} {n : SlotNo} {r : CardRecord}
    (h : chooseSlot (verifiedSlot key x.card x.slot0) (verifiedSlot key x.card x.slot1) = .current n r) : x.slotRecord n = some r := by
  rcases chooseSlot_current h with ⟨rfl, hr⟩ | ⟨rfl, hr⟩
  all_goals
    obtain ⟨raw, hraw, hdecode, -⟩ := verifiedSlot_eq_some.mp hr
    simp [Transaction.slotRecord, Transaction.rawSlot, hraw, hdecode]

/-- A card that passes the checks is taken to SCREENING, in which its entry is judged at once (R19, R20, R28, R39). -/
theorem State.verify_enterScreening {u : State} {sd : Side} {x : Transaction} {area : StaticArea} {key : Key} {n : SlotNo} {r : CardRecord}
    (hx : (u.ctx sd).tx = some x) (ha : x.area = some area) (hk : x.key = some key)
    (hc : Config.checkFn key x.card area.protectedBytes = area.code)
    (hs : chooseSlot (verifiedSlot key x.card x.slot0) (verifiedSlot key x.card x.slot1) = .current n r)
    (hp : ((u.bankOf x.tariff).productFor area.productCode.toNat).1 ≠ .unmapped)
    (hd : directionRefusal u.gate.mode ((u.bankOf x.tariff).productFor area.productCode.toNat).1 sd = none) :
    u.verify sd =
      (u.setCtx sd
        { u.ctx sd with
          tx := some
            { x with current := some n, product := some ((u.bankOf x.tariff).productFor area.productCode.toNat) } }).enterScreening sd := by
  rw [State.verify_current hx ha hk hc hs, State.checkProduct_mapped rfl hp, hd]

/-- Settles O21: each judgment of an own entry, the other side's, and the SLOT answer that leads to it. -/
theorem inDoubtJudged : Obligations.InDoubtJudged := by
  refine ⟨?judged, ?reached⟩
  case judged =>
    intro s sd x e n r hx he hn hr hheld ha hl t given
    have hcard := (State.entryOf_mem he).2
    have hown (hside : e.side = sd) {j : Judgment} (hj : judgeEntry e n r (x.slotRecord e.target) = j) :=
      State.enterScreening_own hx he hn hr hheld hside hj
    refine ⟨?other, ?written, ?rewrite, ?superseded⟩
    case other =>
      intro hside
      have hscreening := State.enterScreening_other hx he hn hr hside
      show s.endedTo (s.enterScreening sd).pump sd x _
      rw [hscreening]
      exact State.finishTx_endedTo _ hx ha rfl rfl rfl
    case written =>
      intro hside htarget hrecord hcounter held bare
      have ht : t = (s.resolving sd x).settleWrite sd e.fare .resolved := hown hside (judgeEntry_written htarget hrecord hcounter)
      obtain ⟨g, ⟨hreservations, hjoins, hstays, -⟩, hended, hport⟩ := s.resolving_settled sd x e.fare
      rw [← ht] at hended hport
      rw [State.commitOf_notice, Reservation.grant_eq] at hport
      have htx := hended.tx_none
      have hjournal := hended.journal_eq rfl
      obtain ⟨-, -, hgate, -, -, -, -, -, hscreen, hdoubt, -⟩ := hended
      obtain ⟨hrecords, hreserved⟩ := (s.resolving sd x).settled_journal sd x.judged e.fare g
      have hqueues : t.gate.queues = g.queues := (congrArg Gate.queues hgate :)
      have hentries := filter_card_map (card := x.card) (f := fun d => { d with attached := true }) s.doubt.entries fun _ => rfl
      refine ⟨((congrArg DoubtTable.entries hdoubt).trans hentries :), ?records, ?reserved, htx, ?reservation,
        fun hheld' => hqueues ▸ hjoins hheld', fun hheld' => hqueues ▸ hstays hheld', State.commitTaken_of_commit hscreen, hport⟩
      case records => exact (congrArg Journal.records hjournal :) ▸ hrecords
      case reserved => exact ((congrArg Journal.reserved hjournal).trans hreserved :)
      case reservation =>
        rw [show t.gate.reservations = g.reservations.set sd .absent from congrArg Gate.reservations hgate, PerSide.get_set_self]
    case rewrite =>
      intro hside htarget hcounter hother
      have ht : t = (s.resolving sd x).rewrite sd e := hown hside (judgeEntry_rewrite htarget hcounter hother)
      refine ⟨fun hopen hbarrier hservice => ?stores, fun hpassed => ?forbidden⟩
      case stores =>
        obtain ⟨pin, hstores⟩ := State.rewrite_stores (x := x) (e := e) hl (State.storeForbidden_none hopen hbarrier hservice)
        rw [ht, hstores]
        exact ⟨PerSide.get_set_self _ _ _, (congrArg Reader.lastFrame (PerSide.get_set_self _ _ _) :),
          (congrArg Reader.exchange (PerSide.get_set_self _ _ _) :), rfl, rfl, rfl, rfl⟩
      case forbidden =>
        rw [ht]
        exact ⟨fun hopen => State.rewrite_forbidden he hpassed hheld (State.storeForbidden_freeOpen hopen),
          fun hopen hout => State.rewrite_forbidden he hpassed hheld (State.storeForbidden_outOfService hopen hout)⟩
    case superseded =>
      intro hside hmoved body noted free reserved
      have ht : t = (s.resolving sd x).supersede sd e x.instant r.counter := hown hside (judgeEntry_superseded hmoved)
      have hsupersede : t =
          if noted.canReserve then
            { (s.superseded sd x noted).reserve with
              ctxs := s.ctxs.set sd { state := .screening, tx := some { x with attached := none, journalHeld := true } } }
          else (s.superseded sd x noted).finishTx sd { outcome := .journalFull } := ht.trans (s.supersede_eq hcard _ _)
      rw [show noted.canReserve = decide (reserved + 16 < free) from State.appendReserved_canReserve _ _ _ _] at hsupersede
      obtain ⟨hrecords, hreserved⟩ := s.given.appendReserved_grows (some x.instant) (some e.side) body
      by_cases hroom : reserved + 16 < free
      · rw [if_pos (decide_eq_true hroom)] at hsupersede
        rw [hsupersede]
        exact ⟨rfl, hrecords, rfl, rfl, fun _ => ⟨PerSide.get_set_self _ _ _, congrArg (· + 1) hreserved, rfl⟩,
          fun hfull => by omega⟩
      · rw [if_neg (by rwa [decide_eq_true_eq])] at hsupersede
        have hended := State.finishTx_endedTo_self (s := s.superseded sd x noted) { outcome := .journalFull }
          (congrArg Context.tx (PerSide.get_set_self _ _ _)) rfl
        have hport := State.finishTx_port (s := s.superseded sd x noted) { outcome := .journalFull }
          (congrArg Context.tx (PerSide.get_set_self _ _ _))
        rw [← hsupersede] at hended hport
        have htx := hended.tx_none
        obtain ⟨-, -, hgate, hjournal, hsup, -, -, -, hscreen, hdoubt, -⟩ := hended
        refine ⟨(congrArg DoubtTable.entries hdoubt :), (congrArg Journal.records hjournal :) ▸ hrecords, (congrArg Gate.queues hgate :),
          hscreen, fun hroom' => absurd hroom' hroom, fun _ => ⟨htx, ((congrArg Journal.reserved hjournal).trans hreserved :), ?_, ?_,
          hport⟩⟩
        · rw [show t.gate.reservations = s.gate.reservations.set sd .absent from congrArg Gate.reservations hgate, PerSide.get_set_self]
        · rw [show t.sup = _ from hsup]
          exact PerSide.get_set_self _ _ _
  case reached =>
    intro s sd c x area turn w key n r hc hf hx harea hkey hcode hchoice product hmapped hallowed y
    have hy : y.slotRecord n = some r := Transaction.slotRecord_of_chosen (x := { x with slot1 := some w }) hchoice
    refine ⟨hy, ?_⟩
    generalize hu : ({ s with
        readers := s.readers.set sd { s.reader sd with turn := !(s.reader sd).turn, exchange := none }
        ctxs := s.ctxs.set sd { s.ctx sd with tx := some { x with slot1 := some w } } } : State) = u
    have hux : (u.ctx sd).tx = some { x with slot1 := some w } := by
      rw [← hu]
      exact congrArg Context.tx (PerSide.get_set_self _ _ _)
    have hbank : u.bankOf x.tariff = s.bankOf x.tariff := by rw [← hu]; rfl
    have hgate : u.gate = s.gate := by rw [← hu]
    have hverify := State.verify_enterScreening hux harea hkey hcode hchoice (hbank ▸ hmapped)
      (by rw [hbank, hgate]; exact directionRefusal_allowed hallowed)
    rw [exec_slot, State.slotArrives_one hc hf hx w, hu, hverify, hbank, ← hu]
    simp only [State.setCtx, State.ctx, PerSide.get_set_self, PerSide.set_set]
    rfl

end Sys2Proof.Machine
end

section
/-! What moves neither a reader side nor a context: one lemma for each operation that the events are made of. -/

namespace Sys2Proof.Machine

/-- Neither a reader side nor a context has changed. -/
@[simp] abbrev State.Still (s t : State) : Prop :=
  t.readers = s.readers ∧ t.ctxs = s.ctxs

theorem State.aisle_still (s : State) (x : Aisle) : s.Still { s with aisle := x } := ⟨rfl, rfl⟩

theorem State.Drives.still {s t : State} (h : s.Drives t) : s.Still t := by
  rw [h.1]
  exact ⟨rfl, rfl⟩

/-! Notices, the journal and the fault classes. -/

@[simp] theorem State.setCond_still (s : State) (c : FaultClass) (raised : Bool) : s.Still (s.setCond c raised) := ⟨rfl, rfl⟩

@[simp] theorem State.notify_still (s : State) (n : Notice) : s.Still (s.notify n) := ⟨rfl, rfl⟩

@[simp] theorem State.appendRaw_still (s : State) (second : Option Nat) (side : Option Side) (body : RecordBody) :
    s.Still (s.appendRaw second side body) := ⟨rfl, rfl⟩

@[simp] theorem State.lowCheck_still (s : State) : s.Still s.lowCheck := by
  dsimp only [State.lowCheck]; (repeat' split) <;> simp

@[simp] theorem State.journalFaultNews_still (s : State) (raised : Bool) : s.Still (s.journalFaultNews raised) := by
  unfold State.journalFaultNews; (repeat' split) <;> simp

@[simp] theorem State.raiseJournal_still (s : State) : s.Still s.raiseJournal := by
  unfold State.raiseJournal; (repeat' split) <;> simp

@[simp] theorem State.clearJournal_still (s : State) : s.Still s.clearJournal := by
  dsimp only [State.clearJournal]; (repeat' split) <;> simp

@[simp] theorem State.afterAppend_still (s : State) : s.Still s.afterAppend := by
  dsimp only [State.afterAppend]; (repeat' split) <;> simp

@[simp] theorem State.appendReserved_still (s : State) (second : Option Nat) (side : Option Side) (body : RecordBody) :
    s.Still (s.appendReserved second side body) := by
  simp [State.appendReserved]

@[simp] theorem State.appendUnreserved_still (s : State) (side : Option Side) (body : RecordBody) :
    s.Still (s.appendUnreserved side body) := by
  unfold State.appendUnreserved; (repeat' split) <;> simp

@[simp] theorem State.reserve_still (s : State) : s.Still s.reserve := ⟨rfl, rfl⟩

@[simp] theorem State.unreserve_still (s : State) : s.Still s.unreserve := ⟨rfl, rfl⟩

@[simp] theorem State.faultNews_still (s : State) (c : FaultClass) (raised : Bool) : s.Still (s.faultNews c raised) := by
  simp [State.faultNews]

@[simp] theorem State.raisePlain_still (s : State) (c : FaultClass) : s.Still (s.raisePlain c) := by
  unfold State.raisePlain; (repeat' split) <;> simp

@[simp] theorem State.clearPlain_still (s : State) (c : FaultClass) : s.Still (s.clearPlain c) := by
  unfold State.clearPlain; (repeat' split) <;> simp

@[simp] theorem State.freeRecords_still (s : State) (n : Nat) : s.Still (s.freeRecords n) := by
  dsimp only [State.freeRecords]; (repeat' split) <;> simp

@[simp] theorem State.unmask_still (s : State) (c : NoticeClass) : s.Still (s.unmask c) := by
  dsimp only [State.unmask]; (repeat' split) <;> simp

@[simp] theorem State.unmaskFrom_still (s : State) (old : PerClass Bool) (c : NoticeClass) : s.Still (s.unmaskFrom old c) := by
  unfold State.unmaskFrom; (repeat' split) <;> simp

/-! Screening, the calculator, the in-doubt table and the reservations. -/

@[simp] theorem State.captureHold_still (s : State) (card : CardId) (instant : Nat) (capture : CaptureResult) :
    s.Still (s.captureHold card instant capture) := ⟨rfl, rfl⟩

@[simp] theorem State.recordCommit_still (s : State) (k : Commit) : s.Still (s.recordCommit k) := ⟨rfl, rfl⟩

@[simp] theorem State.reportPassage_still (s : State) (card : CardId) (outcome : PassageState) :
    s.Still (s.reportPassage card outcome) := by
  dsimp only [State.reportPassage]; (repeat' split) <;> simp

@[simp] theorem State.repeatGranted_still (s : State) (card : CardId) (expired : Bool) (counter : Nat) (purse : Int) :
    s.Still (s.repeatGranted card expired counter purse) := by
  dsimp only [State.repeatGranted]; (repeat' split) <;> simp

@[simp] theorem State.releasePin_still (s : State) : s.Still s.releasePin := by
  dsimp only [State.releasePin]; (repeat' split) <;> simp

@[simp] theorem State.takeWaiting_still (s : State) : s.Still s.takeWaiting := by
  unfold State.takeWaiting; (repeat' split) <;> simp

@[simp] theorem State.askPricing_still (s : State) (sd : Side) : s.Still (s.askPricing sd) := by
  simp [State.askPricing]

@[simp] theorem State.removeEntry_still (s : State) (card : CardId) : s.Still (s.removeEntry card) := ⟨rfl, rfl⟩

@[simp] theorem State.mapEntry_still (s : State) (card : CardId) (f : InDoubt → InDoubt) : s.Still (s.mapEntry card f) := ⟨rfl, rfl⟩

@[simp] theorem State.expireEntry_still (s : State) (e : InDoubt) : s.Still (s.expireEntry e) := by
  simp [State.expireEntry]

@[simp] theorem State.detach_still (s : State) (card : CardId) : s.Still (s.detach card) := by
  unfold State.detach; (repeat' split) <;> simp

@[simp] theorem State.deadlinePasses_still (s : State) (card : CardId) : s.Still (s.deadlinePasses card) := by
  unfold State.deadlinePasses; (repeat' split) <;> simp

@[simp] theorem State.handRefusal_still (s : State) (sd : Side) : s.Still (s.handRefusal sd) := ⟨rfl, rfl⟩

@[simp] theorem State.setReservation_still (s : State) (sd : Side) (r : Reservation) : s.Still (s.setReservation sd r) := ⟨rfl, rfl⟩

@[simp] theorem State.releaseTx_still (s : State) (sd : Side) (t : Transaction) : s.Still (s.releaseTx sd t) := by
  dsimp only [State.releaseTx]; (repeat' split) <;> simp

/-! The barrier and the queues. -/

@[simp] theorem State.setQueue_still (s : State) (sd : Side) (q : List Auth) : s.Still (s.setQueue sd q) := ⟨rfl, rfl⟩

@[simp] theorem State.endUnused_still (s : State) (sd : Side) (x : Auth) (reason : NotTakenReason) :
    s.Still (s.endUnused sd x reason) := by
  dsimp only [State.endUnused]; (repeat' split) <;> simp

@[simp] theorem State.cancelList_still (s : State) (sd : Side) (x : List Auth) : s.Still (s.cancelList sd x) := by
  induction x generalizing s with
  | nil => simp [State.cancelList]
  | cons y ys ih => unfold State.cancelList; simp [ih]

@[simp] theorem State.cancelAll_still (s : State) : s.Still s.cancelAll := by
  simp [State.cancelAll]

@[simp] theorem State.withdrawAll_still (s : State) (c : WithdrawCause) : s.Still (s.withdrawAll c) := ⟨rfl, rfl⟩

@[simp] theorem State.enterBarrier_still (s : State) (b : BarrierState) (phase : Option ClosingPhase) (owner : Option Side) :
    s.Still (s.enterBarrier b phase owner) :=
  (s.enterBarrier_drives b phase owner).still

@[simp] theorem State.reachOpen_still (s : State) (sd : Side) : s.Still (s.reachOpen sd) :=
  (s.reachOpen_drives sd).still

@[simp] theorem State.reachClosed_still (s : State) : s.Still s.reachClosed :=
  (s.reachClosed_drives).still

@[simp] theorem State.checkSucceeds_still (s : State) : s.Still s.checkSucceeds := by
  simp [State.checkSucceeds]

@[simp] theorem State.beginChecking_still (s : State) : s.Still s.beginChecking := by
  dsimp only [State.beginChecking]; (repeat' split) <;> simp

@[simp] theorem State.delayExpires_still (s : State) : s.Still s.delayExpires :=
  (s.delayExpires_drives).still

@[simp] theorem State.delayEval_still (s : State) : s.Still s.delayEval :=
  (s.delayEval_drives).still

@[simp] theorem State.authJoined_still (s : State) (sd : Side) : s.Still (s.authJoined sd) :=
  (s.authJoined_drives sd).still

@[simp] theorem State.join_still (s : State) (sd : Side) (x : Auth) : s.Still (s.join sd x) := by
  simp [State.join]

@[simp] theorem State.fill_still (s : State) (sd : Side) (origin : AuthOrigin) (card : CardId) (seq : Option Nat) :
    s.Still (s.fill sd origin card seq).1 := by
  unfold State.fill; (repeat' split) <;> simp

@[simp] theorem State.openLimitChanged_still (s : State) : s.Still s.openLimitChanged := by
  unfold State.openLimitChanged; (repeat' split) <;> simp

@[simp] theorem State.closedLimitChanged_still (s : State) : s.Still s.closedLimitChanged := by
  unfold State.closedLimitChanged; (repeat' split) <;> simp

@[simp] theorem State.handPattern_still (s : State) (p : PerZone Bool) : s.Still (s.handPattern p) := by
  dsimp only [State.handPattern]; (repeat' split) <;> simp

@[simp] theorem State.raiseAlarm_still (s : State) (kind : AlarmKind) (namesA namesB : Bool) (direction : Option Side) :
    s.Still (s.raiseAlarm kind namesA namesB direction) := by
  simp [State.raiseAlarm]

@[simp] theorem State.alarmAt_still (s : State) (kind : AlarmKind) (sd : Side) (direction : Option Side) :
    s.Still (s.alarmAt kind sd direction) := by
  simp [State.alarmAt]

@[simp] theorem State.consume_still (s : State) (sd : Side) (follower behind : Bool) : s.Still (s.consume sd follower behind) := by
  dsimp only [State.consume]; (repeat' split) <;> simp

@[simp] theorem State.tailgate_still (s : State) (sd : Side) : s.Still (s.tailgate sd) := by
  simp [State.tailgate]

@[simp] theorem State.openPassage_still (s : State) (o sd : Side) (follower behind : Bool) :
    s.Still (s.openPassage o sd follower behind) := by
  dsimp only [State.openPassage]; (repeat' split) <;> simp

@[simp] theorem State.takePassage_still (s : State) (sd : Side) (follower behind : Bool) :
    s.Still (s.takePassage sd follower behind) := by
  dsimp only [State.takePassage]; (repeat' split) <;> simp

@[simp] theorem State.takeCounterflow_still (s : State) (start : Option Side) : s.Still (s.takeCounterflow start) := by
  unfold State.takeCounterflow; (repeat' split) <;> simp

@[simp] theorem State.takeReport_still (s : State) (x : Report) : s.Still (s.takeReport x) := by
  unfold State.takeReport; (repeat' split) <;> simp

@[simp] theorem State.takeReports_still (s : State) (x : List Report) : s.Still (s.takeReports x) := by
  induction x generalizing s with
  | nil => simp [State.takeReports]
  | cons y ys ih => unfold State.takeReports; simp [ih]

@[simp] theorem State.distrustBarrier_still (s : State) : s.Still s.distrustBarrier := by
  dsimp only [State.distrustBarrier]; (repeat' split) <;> simp

@[simp] theorem State.passageExpires_still (s : State) : s.Still s.passageExpires := by
  dsimp only [State.passageExpires]; (repeat' split) <;> simp

@[simp] theorem State.closeDelayExpires_still (s : State) : s.Still s.closeDelayExpires := by
  unfold State.closeDelayExpires; (repeat' split) <;> simp

@[simp] theorem State.openPeriod_still (s : State) : s.Still s.openPeriod := by
  dsimp only [State.openPeriod]; (repeat' split) <;> simp

@[simp] theorem State.closePeriod_still (s : State) : s.Still s.closePeriod := ⟨rfl, rfl⟩

@[simp] theorem State.endFreeOpen_still (s : State) : s.Still s.endFreeOpen := by
  dsimp only [State.endFreeOpen]; (repeat' split) <;> simp

@[simp] theorem State.liftFailClosed_still (s : State) : s.Still s.liftFailClosed := by
  dsimp only [State.liftFailClosed]; (repeat' split) <;> simp

@[simp] theorem State.liftHold_still (s : State) : s.Still s.liftHold := by
  dsimp only [State.liftHold]; (repeat' split) <;> simp

@[simp] theorem State.setStuck_still (s : State) (z : Zone) (m : StuckMonitor) : s.Still (s.setStuck z m) := ⟨rfl, rfl⟩

@[simp] theorem State.patternChange_still (s : State) : s.Still s.patternChange := by
  simp [State.patternChange]

/-! The clock and the tariff. -/

@[simp] theorem State.exchangeBanks_still (s : State) : s.Still s.exchangeBanks := ⟨rfl, rfl⟩

@[simp] theorem State.swap_still (s : State) (version day : Nat) : s.Still (s.swap version day) := by
  dsimp only [State.swap]; (repeat' split) <;> simp

@[simp] theorem State.swapTest_still (s : State) : s.Still s.swapTest := by
  unfold State.swapTest; (repeat' split) <;> simp

@[simp] theorem State.minuteStep_still (s : State) (now : Nat) : s.Still (s.minuteStep now) := by
  simp [State.minuteStep]

@[simp] theorem State.setClock_still (s : State) (t : Option Nat) : s.Still (s.setClock t) := ⟨rfl, rfl⟩

@[simp] theorem State.advanceClock_still (s : State) : s.Still s.advanceClock := by
  unfold State.advanceClock; (repeat' split) <;> simp

@[simp] theorem State.takeSetting_still (s : State) (t : Nat) (forced : Bool) : s.Still (s.takeSetting t forced) := by
  dsimp only [State.takeSetting]; (repeat' split) <;> simp

end Sys2Proof.Machine
end

section
/-! What sends no STORE: a relation between the states before and after an operation, and the operations of the sides and of the end of a
transaction that keep to it. -/

namespace Sys2Proof.Machine

/-! The relation. -/

/-- Whether a frame writes to a card (R34, R41). -/
def LinkFrame.isStore : LinkFrame → Bool
  | .store _ _ _ => true
  | .summon | .claim _ | .fetch _ _ | .mark _ | .part _ => false

/-- A side has no STORE that it had not before: one that is the last frame sent was so, or was in the exchange, whose frame may be sent
again; one in the exchange was in it (R14). -/
def Reader.Quiet (r q : Reader) : Prop :=
  ∀ f, f.isStore = true →
    (q.lastFrame = some f → r.lastFrame = some f ∨ r.awaited = some f) ∧ (q.awaited = some f → r.awaited = some f)

theorem Reader.Quiet.refl (r : Reader) : r.Quiet r :=
  fun _ _ => ⟨.inl, id⟩

theorem Reader.Quiet.trans {r q p : Reader} (h : r.Quiet q) (k : q.Quiet p) : r.Quiet p :=
  fun f hf => ⟨fun hp => ((k f hf).1 hp).elim (h f hf).1 fun ha => .inr ((h f hf).2 ha), fun hp => (h f hf).2 ((k f hf).2 hp)⟩

/-- A side is quiet and its context has not entered WRITING. -/
def State.QuietAt (s t : State) (sd : Side) : Prop :=
  (s.reader sd).Quiet (t.reader sd) ∧ ((t.ctx sd).state = .writing → (s.ctx sd).state = .writing)

/-- Both sides are quiet. -/
def State.Quiet (s t : State) : Prop :=
  ∀ sd, s.QuietAt t sd

section Relation

variable {s t u : State}

theorem State.Quiet.refl (s : State) : s.Quiet s :=
  fun _ => ⟨.refl _, id⟩

theorem State.QuietAt.trans {sd : Side} (h : s.QuietAt t sd) (k : t.QuietAt u sd) : s.QuietAt u sd :=
  ⟨h.1.trans k.1, h.2 ∘ k.2⟩

theorem State.Quiet.trans (h : s.Quiet t) (k : t.Quiet u) : s.Quiet u :=
  fun sd => (h sd).trans (k sd)

theorem State.quietAt_of_eq {sd : Side} (hr : t.reader sd = s.reader sd) (hc : (t.ctx sd).state = (s.ctx sd).state) : s.QuietAt t sd :=
  ⟨hr ▸ .refl _, fun h => hc ▸ h⟩

theorem State.Still.quiet (h : s.Still t) : s.Quiet t :=
  fun sd => State.quietAt_of_eq (congrArg (PerSide.get · sd) h.1) (congrArg (fun c => (PerSide.get c sd).state) h.2)

theorem State.Quiet.then (h : s.Quiet t) (k : t.Still u) : s.Quiet u :=
  h.trans k.quiet

theorem State.Still.then (h : s.Still t) (k : t.Quiet u) : s.Quiet u :=
  State.Quiet.trans (State.Still.quiet h) k

theorem State.quiet_ite {c : Prop} [Decidable c] (h : s.Quiet t) (k : s.Quiet u) : s.Quiet (if c then t else u) := by
  split <;> assumption

end Relation

/-! The sides (R2 to R16). -/

section Sides

variable {r q : Reader}

theorem Reader.Quiet.of_frames (hl : q.lastFrame = r.lastFrame) (he : q.exchange = r.exchange) : r.Quiet q := by
  intro f _
  rw [hl, Reader.awaited, Reader.awaited, he]
  exact ⟨.inl, id⟩

/-- A side that sends a frame other than STORE, or ends its exchange, is quiet. -/
theorem Reader.Quiet.of_sent (hl : q.lastFrame = r.lastFrame ∨ ∃ f, q.lastFrame = some f ∧ f.isStore = false)
    (he : q.exchange = none ∨ q.exchange = r.exchange ∨ ∃ e, q.exchange = some e ∧ e.frame.isStore = false) : r.Quiet q := by
  intro f hf
  refine ⟨fun hq => ?_, fun hq => ?_⟩
  · rcases hl with hl | ⟨g, hl, hg⟩
    · exact .inl (hl ▸ hq)
    · obtain rfl : g = f := Option.some.inj (hl.symm.trans hq)
      simp [hf] at hg
  · rcases he with he | he | ⟨e, he, hg⟩
    · simp [Reader.awaited, he] at hq
    · rwa [Reader.awaited, he] at hq
    · obtain rfl : e.frame = f := by simpa [Reader.awaited, he] using hq
      simp [hf] at hg

theorem Reader.Quiet.of_ended (hl : q.lastFrame = r.lastFrame := by rfl) (he : q.exchange = none := by rfl) : r.Quiet q :=
  .of_sent (.inl hl) (.inl he)

theorem Reader.Quiet.of_summon (hl : q.lastFrame = some .summon := by rfl) (he : q.exchange = r.exchange := by rfl) : r.Quiet q :=
  .of_sent (.inr ⟨_, hl, rfl⟩) (.inr (.inl he))

theorem Reader.send_quiet (r : Reader) {f : LinkFrame} (hf : f.isStore = false) : r.Quiet (r.send f) :=
  .of_sent (.inr ⟨f, rfl, hf⟩) (.inr (.inr ⟨_, rfl, hf⟩))

theorem Reader.claim_quiet (r : Reader) (card : CardId) : r.Quiet (r.claim card) :=
  .of_sent (.inr ⟨_, rfl, rfl⟩) (.inr (.inr ⟨_, rfl, rfl⟩))

theorem Reader.sendSummon_quiet (r : Reader) : r.Quiet r.sendSummon :=
  .of_sent (.inr ⟨_, rfl, rfl⟩) (.inr (.inl rfl))

theorem Reader.beginSearching_quiet (r : Reader) (m : AisleMode) : r.Quiet (r.beginSearching m) :=
  .of_sent (.inr ⟨_, rfl, rfl⟩) (.inr (.inl rfl))

theorem Reader.goDown_quiet (r : Reader) : r.Quiet r.goDown :=
  .of_sent (.inl rfl) (.inl rfl)

theorem Reader.part_quiet (r : Reader) (held : Bool) : r.Quiet (r.part held) := by
  cases held <;> exact .of_sent (.inr ⟨_, rfl, rfl⟩) (.inl rfl)

theorem Reader.afterTap_quiet (r : Reader) (held : Bool) (card : CardId) (o : TapOutcome) : r.Quiet (r.afterTap held card o) := by
  have hparted : r.Quiet (r.parted held) := by
    by_cases h : r.link = .bound
    · rw [← Reader.part_eq_parted h]
      exact r.part_quiet held
    · rw [Reader.parted_of_ne_bound h]
      exact .refl r
  exact hparted.trans (Reader.Quiet.of_frames rfl rfl)

theorem Reader.modeChanged_quiet (r : Reader) (old new : AisleMode) : r.Quiet (r.modeChanged old new) := by
  unfold Reader.modeChanged
  repeat' split
  all_goals exact Reader.Quiet.of_frames rfl rfl

end Sides

/-! Reader sides and contexts of the state. -/

section Stations

variable (s : State) (sd : Side)

theorem State.setReader_quiet {s : State} {sd : Side} {r : Reader} (h : (s.reader sd).Quiet r) : s.Quiet (s.setReader sd r) := by
  intro sd'
  refine ⟨?_, id⟩
  show (s.readers.get sd').Quiet ((s.readers.set sd r).get sd')
  rw [PerSide.get_set]
  split
  next heq => exact heq ▸ h
  next => exact .refl _

/-- A side that sends nothing. -/
theorem State.setReader_unsent {s : State} {sd : Side} {r : Reader} (hl : r.lastFrame = (s.reader sd).lastFrame := by rfl)
    (he : r.exchange = (s.reader sd).exchange := by rfl) : s.Quiet (s.setReader sd r) :=
  State.setReader_quiet (.of_frames hl he)

theorem State.setCtx_quiet {s : State} {sd : Side} {c : Context} (h : c.state = .writing → (s.ctx sd).state = .writing) :
    s.Quiet (s.setCtx sd c) := by
  intro sd'
  refine ⟨.refl _, ?_⟩
  show ((s.ctxs.set sd c).get sd').state = .writing → (s.ctxs.get sd').state = .writing
  rw [PerSide.get_set]
  split
  next heq => exact heq ▸ h
  next => exact id

/-- One side and its context have changed. -/
theorem State.quiet_of_set {s t : State} {sd : Side} {r : Reader} {c : Context} (hr : t.readers = s.readers.set sd r)
    (hc : t.ctxs = s.ctxs.set sd c) (h : (s.reader sd).Quiet r) (k : c.state = .writing → (s.ctx sd).state = .writing) : s.Quiet t :=
  ((State.setReader_quiet h).trans (State.setCtx_quiet k)).then ⟨hr, hc⟩

theorem State.setCtxState_quiet {st : CtxState} (h : st ≠ .writing) : s.Quiet (s.setCtxState sd st) :=
  State.setCtx_quiet fun hw => absurd hw h

theorem State.mapTx_quiet (f : Transaction → Transaction) : s.Quiet (s.mapTx sd f) :=
  State.setCtx_quiet id

theorem State.contextBack_quiet : s.Quiet (s.contextBack sd) :=
  State.quiet_ite (s.setCtxState_quiet sd (by decide)) (.refl s)

theorem State.linkDown_quiet : s.Quiet (s.linkDown sd) :=
  (State.setReader_quiet (Reader.goDown_quiet _)).trans (State.quiet_ite (State.setCtxState_quiet _ sd (by decide)) (.refl _))

theorem State.linkSearching_quiet : s.Quiet (s.linkSearching sd) :=
  (State.setReader_quiet (Reader.beginSearching_quiet _ _)).trans (State.contextBack_quiet _ sd)

end Stations

/-! The end of a transaction (R37, R45). -/

section Finish

variable (s : State) (sd : Side)

/-- A transaction that ends leaves its side quiet, whatever state its context was in (R37). -/
theorem State.finishTx_quiet_of {s u : State} {sd : Side} {c : Context} {x : Transaction} (f : Finish) (hr : u.readers = s.readers)
    (hc : u.ctxs = s.ctxs.set sd c) (hx : (u.ctx sd).tx = some x) : s.Quiet (u.finishTx sd f) := by
  obtain ⟨fares, pin, hclose, -⟩ := (u.closing sd x f).closeContext_eq sd
  obtain ⟨hreaders, hctxs⟩ := u.releaseTx_still sd x
  rw [State.finishTx_eq f hx, hclose]
  have hrests : (if ((u.closing sd x f).reader sd).link = .down then CtxState.outOfService else .polling) ≠ .writing := by
    split <;> decide
  generalize (if ((u.closing sd x f).reader sd).link = .down then CtxState.outOfService else .polling) = st at hrests
  refine State.quiet_of_set (r := (s.reader sd).afterTap ((u.releaseTx sd x).sup.readerHold.get sd) x.card f.outcome) ?_
    (c := { state := st, tx := none }) ?_ (Reader.afterTap_quiet _ _ _ _) fun hw => absurd hw hrests
  · show (u.releaseTx sd x).readers.set sd (Reader.afterTap ((u.releaseTx sd x).readers.get sd) _ _ _) = _
    rw [hreaders, hr]
    rfl
  · show (u.releaseTx sd x).ctxs.set sd _ = _
    rw [hctxs, hc, PerSide.set_set]

theorem State.finishTx_quiet (f : Finish) : s.Quiet (s.finishTx sd f) := by
  cases hx : (s.ctx sd).tx with
  | none => simpa only [State.finishTx, hx] using State.Quiet.refl s
  | some x => exact State.finishTx_quiet_of f rfl (PerSide.set_get _ _).symm hx

theorem State.abortTx_quiet (o : TapOutcome) : s.Quiet (s.abortTx sd o) :=
  State.quiet_ite (s.finishTx_quiet sd _) (.refl s)

theorem State.abortBoth_quiet (o : TapOutcome) : s.Quiet (s.abortBoth o) :=
  (s.abortTx_quiet .a o).trans (State.abortTx_quiet _ .b o)

end Finish

end Sys2Proof.Machine
end

section
/-! What sends no STORE: the events of the gate and of supervision, of the sides, and of the transaction engine but for those that write. -/

namespace Sys2Proof.Machine

/-! Free-open, the orders from supervision and the fault classes (R148 to R156). -/

section Orders

variable (s : State)

theorem State.enterFreeOpen_quiet (reason : FreeReason) : s.Quiet (s.enterFreeOpen reason) :=
  State.Still.then (by simp) (State.abortBoth_quiet _ _)

theorem State.setReasons_quiet (r : FreeReasons) (reason : FreeReason) : s.Quiet (s.setReasons r reason) := by
  dsimp only [State.setReasons]
  exact State.quiet_ite (State.Still.then (by simp) (State.enterFreeOpen_quiet _ _))
    (State.quiet_ite (State.Still.quiet (by simp)) (State.Still.quiet (by simp)))

theorem State.joinReason_quiet (r : FreeReason) : s.Quiet (s.joinReason r) :=
  s.setReasons_quiet _ r

theorem State.leaveReason_quiet (r : FreeReason) : s.Quiet (s.leaveReason r) :=
  s.setReasons_quiet _ r

theorem State.emergencyChanged_quiet : s.Quiet s.emergencyChanged := by
  dsimp only [State.emergencyChanged]
  exact State.quiet_ite (s.joinReason_quiet _)
    (State.quiet_ite (State.quiet_ite (s.leaveReason_quiet _) (s.setReasons_quiet _ _)) (.refl s))

theorem State.giveFailClosed_quiet : s.Quiet s.giveFailClosed := by
  dsimp only [State.giveFailClosed]
  refine State.Still.then ?_ (State.abortBoth_quiet _ _)
  split <;> simp

theorem State.giveHold_quiet : s.Quiet s.giveHold := by
  dsimp only [State.giveHold]
  refine State.Still.then ?_ (State.abortBoth_quiet _ _)
  split <;> simp

theorem State.recompute_quiet : s.Quiet s.recompute := by
  dsimp only [State.recompute]
  exact (((State.quiet_ite (s.joinReason_quiet _) (.refl s)).trans
    (State.quiet_ite (State.giveFailClosed_quiet _) (.refl _))).trans
    (State.quiet_ite (State.Still.quiet (by simp)) (.refl _))).trans
    (State.quiet_ite (State.leaveReason_quiet _ _) (.refl _))

theorem State.raiseOrdered_quiet (c : FaultClass) : s.Quiet (s.raiseOrdered c) := by
  dsimp only [State.raiseOrdered]
  exact State.quiet_ite (.refl s) ((State.Still.then (by simp) (State.recompute_quiet _)).then (State.faultNews_still _ c _))

theorem State.clearOrdered_quiet (c : FaultClass) : s.Quiet (s.clearOrdered c) := by
  dsimp only [State.clearOrdered]
  exact State.quiet_ite ((State.Still.then (by simp) (State.recompute_quiet _)).then (State.faultNews_still _ c _)) (.refl s)

theorem State.driveFaultActive_quiet : s.Quiet s.driveFaultActive := by
  dsimp only [State.driveFaultActive]
  exact State.quiet_ite (.refl s) (State.Still.then (by simp) (State.raiseOrdered_quiet _ _))

theorem State.travelFails_quiet : s.Quiet s.travelFails := by
  unfold State.travelFails
  split
  · exact State.Still.then (by simp) (State.raiseOrdered_quiet _ _)
  · exact .refl s

end Orders

/-! Zones and inputs (R119 to R125). -/

section Inputs

variable (s : State)

theorem State.stuckChange_quiet (z : Zone) : s.Quiet (s.stuckChange z) := by
  dsimp only [State.stuckChange]
  exact State.quiet_ite (State.Still.quiet (by simp))
    (State.quiet_ite (State.Still.then (by simp) (State.clearOrdered_quiet _ _)) (State.Still.quiet (by simp)))

theorem State.stuckExpires_quiet (z : Zone) : s.Quiet (s.stuckExpires z) := by
  unfold State.stuckExpires
  split
  · exact .refl s
  · exact State.quiet_ite (State.Still.quiet (by simp)) (State.Still.then (by simp) (State.raiseOrdered_quiet _ _))

theorem State.settleZones_quiet (zs : List Zone) : s.Quiet (s.settleZones zs) := by
  induction zs generalizing s with
  | nil => exact .refl s
  | cons z zs ih =>
    unfold State.settleZones
    split
    · exact ih s
    · refine State.Quiet.trans ?_ (ih _)
      exact State.Still.then (by simp) (State.stuckChange_quiet _ z)

theorem State.zonesSettle_quiet (zs : List Zone) : s.Quiet (s.zonesSettle zs) := by
  dsimp only [State.zonesSettle]
  exact State.quiet_ite ((s.settleZones_quiet zs).then (State.patternChange_still _)) (.refl s)

theorem State.equipmentSettles_quiet (i : Input) : s.Quiet (s.equipmentSettles i) := by
  unfold State.equipmentSettles
  split
  · exact .refl s
  · refine State.Still.then (t := { s with aisle := s.aisle.settle i }) ⟨rfl, rfl⟩ ?_
    cases i with
    | openLimit => exact State.Still.quiet (by simp)
    | closedLimit => exact State.Still.quiet (by simp)
    | driveFault => exact State.quiet_ite (State.driveFaultActive_quiet _) (.refl _)
    | emergency => exact State.emergencyChanged_quiet _
    | za | zm | zb => exact .refl _

theorem State.debounced_quiet (g : DebounceGroup) : s.Quiet (s.debounced g) := by
  unfold State.debounced
  split
  · exact s.zonesSettle_quiet _
  · split
    · exact s.zonesSettle_quiet _
    · exact s.equipmentSettles_quiet _

end Inputs

/-! The holds (R8, R159 to R161). -/

section Holds

variable (s : State) (sd : Side)

theorem State.enterBarrierHold_quiet : s.Quiet s.enterBarrierHold := by
  dsimp only [State.enterBarrierHold]
  exact (State.Still.then (by simp) (State.giveHold_quiet _)).then (State.aisle_still _ _)

theorem State.leaveBarrierHold_quiet : s.Quiet s.leaveBarrierHold := by
  dsimp only [State.leaveBarrierHold]
  exact ((State.Still.then (by simp) (State.quiet_ite (State.driveFaultActive_quiet _) (.refl _))).then
    (State.aisle_still _ _)).then (State.liftHold_still _)

theorem State.enterReaderHold_quiet : s.Quiet (s.enterReaderHold sd) := by
  dsimp only [State.enterReaderHold]
  exact ((State.Still.then (by simp) State.setReader_unsent).trans
    (State.quiet_ite (State.linkDown_quiet _ sd) (.refl _))).trans (State.abortTx_quiet _ sd _)

theorem State.leaveReaderHold_quiet : s.Quiet (s.leaveReaderHold sd) := by
  dsimp only [State.leaveReaderHold]
  exact (State.Still.then (by simp) State.setReader_unsent).trans
    (State.quiet_ite (State.quiet_ite State.setReader_unsent (State.linkSearching_quiet _ sd))
      (.refl _))

end Holds

/-! The hail (R4, R5, R23 to R27). -/

section Hail

variable (s : State) (sd : Side)

theorem State.refuseHail_quiet (card : CardId) (o : TapOutcome) (reason : Option CloneReason) (tariff : Option Nat) :
    s.Quiet (s.refuseHail sd card o reason tariff) := by
  dsimp only [State.refuseHail]
  exact State.Still.then (by simp) State.setReader_unsent

theorem State.startTx_quiet (card : CardId) (instant : Nat) : s.Quiet (s.startTx sd card instant) := by
  dsimp only [State.startTx]
  exact State.quiet_ite (State.Still.then (by simp) (State.refuseHail_quiet _ sd _ _ _ _))
    ((State.setCtx_quiet fun h => by cases h).trans (State.setReader_quiet (Reader.claim_quiet _ card)))

theorem State.reserveAndStart_quiet (card : CardId) (instant : Nat) : s.Quiet (s.reserveAndStart sd card instant) := by
  dsimp only [State.reserveAndStart]
  exact State.quiet_ite (s.refuseHail_quiet sd _ _ _ _)
    (State.quiet_ite (State.Still.then (by simp) (State.startTx_quiet _ sd _ _))
      (State.Still.then (by simp) (State.refuseHail_quiet _ sd _ _ _ _)))

theorem State.openTap_quiet (card : CardId) : s.Quiet (s.openTap sd card) := by
  dsimp only [State.openTap]
  refine State.Still.then s.swapTest_still (State.quiet_ite ?_ (State.refuseHail_quiet _ sd _ _ _ _))
  split
  · exact State.refuseHail_quiet _ sd _ _ _ _
  · exact State.reserveAndStart_quiet _ sd _ _

theorem State.hailEvent_quiet (card : CardId) : s.Quiet (s.hailEvent sd card) := by
  dsimp only [State.hailEvent]
  exact State.quiet_ite (State.quiet_ite (s.refuseHail_quiet sd _ _ _ _) (s.openTap_quiet sd card)) (s.refuseHail_quiet sd _ _ _ _)

theorem State.collide_quiet : s.Quiet (s.collide sd) := by
  dsimp only [State.collide]
  exact State.Quiet.trans State.setReader_unsent
    (State.quiet_ite (State.Still.then (by simp) (State.setCtxState_quiet _ sd (by decide))) (.refl _))

theorem State.oneCard_quiet (card : CardId) : s.Quiet (s.oneCard sd card) := by
  dsimp only [State.oneCard]
  exact State.quiet_ite State.setReader_unsent
    (State.Quiet.trans State.setReader_unsent (State.quiet_ite (State.hailEvent_quiet _ sd card) (.refl _)))

theorem State.judgeWindow_quiet (w : HailWindow) : s.Quiet (s.judgeWindow sd w) := by
  dsimp only [State.judgeWindow]
  refine State.quiet_ite (s.collide_quiet sd) ?_
  split
  · exact .refl s
  · exact State.quiet_ite (s.oneCard_quiet sd _) (s.collide_quiet sd)

end Hail

/-! Finishing work (R30 to R36). -/

section Finishing

variable (s : State) (sd : Side)

theorem State.finishMark_quiet (capture : CaptureResult) : s.Quiet (s.finishMark sd capture) := by
  unfold State.finishMark
  split
  · exact .refl s
  · split
    · exact .refl s
    · exact ((State.Still.then (by simp) (State.mapTx_quiet _ sd _)).then
        (State.captureHold_still _ _ _ _)).trans (State.finishTx_quiet _ sd _)

theorem State.cardLost_quiet : s.Quiet (s.cardLost sd) := by
  unfold State.cardLost
  split
  · exact State.Still.then (by simp) (State.finishTx_quiet _ sd _)
  · exact s.finishMark_quiet sd _
  · exact s.finishTx_quiet sd _
  · exact s.finishTx_quiet sd _
  · exact s.finishTx_quiet sd _
  · exact s.finishTx_quiet sd _
  · exact .refl s

theorem State.ask_quiet {f : LinkFrame} (hf : f.isStore = false) : s.Quiet (s.ask sd f) := by
  dsimp only [State.ask]
  exact State.quiet_ite (State.setReader_quiet (Reader.send_quiet _ hf)) (s.cardLost_quiet sd)

theorem State.enterMarking_quiet (o : TapOutcome) (reason : Option CloneReason) : s.Quiet (s.enterMarking sd o reason) := by
  dsimp only [State.enterMarking]
  exact (((s.mapTx_quiet sd _).trans (State.setCtxState_quiet _ sd (by decide))).then (State.releasePin_still _)).trans
    (State.ask_quiet _ sd rfl)

theorem State.captureVerdict_quiet (o : TapOutcome) (reason : Option CloneReason) : s.Quiet (s.captureVerdict sd o reason) := by
  dsimp only [State.captureVerdict]
  exact State.quiet_ite (s.enterMarking_quiet sd o reason) (s.finishTx_quiet sd _)

theorem State.settleWrite_quiet (f : FareRecord) (o : TapOutcome) : s.Quiet (s.settleWrite sd f o) := by
  unfold State.settleWrite
  split
  · exact .refl s
  · exact State.Still.then (by simp) (State.finishTx_quiet _ sd _)

theorem State.grantStaff_quiet : s.Quiet (s.grantStaff sd) := by
  unfold State.grantStaff
  split
  · exact .refl s
  · exact State.Still.then (by simp) (State.finishTx_quiet _ sd _)

theorem State.grantRepeat_quiet (expired : Bool) (r : CardRecord) : s.Quiet (s.grantRepeat sd expired r) := by
  unfold State.grantRepeat
  split
  · exact .refl s
  · refine State.Still.then ?_ (State.finishTx_quiet _ sd _)
    split <;> simp

theorem State.supersede_quiet (e : InDoubt) (instant found : Nat) : s.Quiet (s.supersede sd e instant found) := by
  dsimp only [State.supersede]
  exact (State.Still.then (by simp) (State.mapTx_quiet _ sd _)).trans
    (State.quiet_ite (State.Still.then (by simp) (State.mapTx_quiet _ sd _)) (State.finishTx_quiet _ sd _))

end Finishing

/-! Screening (R30, R49, R93, R94, R106). -/

section Screening

variable (s : State) (sd : Side)

theorem State.enterPricing_quiet : s.Quiet (s.enterPricing sd) := by
  dsimp only [State.enterPricing]
  exact ((s.mapTx_quiet sd _).trans (State.setCtxState_quiet _ sd (by decide))).then (State.askPricing_still _ sd)

theorem State.actOnVerdict_quiet (r : CardRecord) (v : Verdict) : s.Quiet (s.actOnVerdict sd r v) := by
  cases v with
  | serve => exact s.enterPricing_quiet sd
  | refuse o => exact s.finishTx_quiet sd _
  | capture o reason => exact s.captureVerdict_quiet sd o reason
  | repeated expired => exact s.grantRepeat_quiet sd expired r

theorem State.judgeCard_quiet (t : Transaction) (r : CardRecord) (mark : DenyMark) : s.Quiet (s.judgeCard sd t r mark) := by
  dsimp only [State.judgeCard]
  exact State.Still.then (by simp) (State.actOnVerdict_quiet _ sd r _)

theorem State.screen1_quiet : s.Quiet (s.screen1 sd) := by
  unfold State.screen1
  split
  · exact .refl s
  · split
    · exact State.quiet_ite (s.enterPricing_quiet sd) (State.quiet_ite (s.mapTx_quiet sd _) (s.judgeCard_quiet sd _ _ _))
    · exact .refl s

theorem State.screenEvent_quiet : s.Quiet (s.screenEvent sd) := by
  dsimp only [State.screenEvent]
  exact State.quiet_ite (s.screen1_quiet sd) (.refl s)

theorem State.screenWaiting_quiet : s.Quiet (s.screenWaiting sd) := by
  dsimp only [State.screenWaiting]
  exact State.quiet_ite ((s.mapTx_quiet sd _).trans (State.screen1_quiet _ sd)) (.refl s)

end Screening

/-! Answers and timers of the sides (R2 to R15, R29). -/

section Answers

variable (s : State) (sd : Side)

theorem State.claimAnswered_quiet (area : StaticArea) (blocked : Bool) : s.Quiet (s.claimAnswered sd area blocked) := by
  dsimp only [State.claimAnswered]
  exact (((State.setReader_quiet .of_ended).trans (State.mapTx_quiet _ sd _)).trans
    (State.setCtxState_quiet _ sd (by decide))).trans (State.ask_quiet _ sd rfl)

theorem State.endExchange_quiet : s.Quiet (s.setReader sd (s.reader sd).endExchange) :=
  State.setReader_quiet .of_ended

theorem State.strayAnswer_quiet : s.Quiet (s.setReader sd (s.reader sd).strayAnswer) :=
  State.setReader_unsent

theorem State.doneAnswered_quiet : s.Quiet (s.doneAnswered sd) := by
  dsimp only [State.doneAnswered]
  refine (s.endExchange_quiet sd).trans ?_
  split
  · split
    · exact State.settleWrite_quiet _ sd _ _
    · exact .refl _
  · exact State.finishMark_quiet _ sd _
  · exact .refl _

theorem State.claimedArrives_quiet (frameOk : Bool) (area : StaticArea) (blocked : Bool) :
    s.Quiet (s.claimedArrives sd frameOk area blocked) := by
  unfold State.claimedArrives
  split
  · exact State.quiet_ite (s.claimAnswered_quiet sd area blocked) (.refl s)
  · exact s.strayAnswer_quiet sd

theorem State.doneArrives_quiet (frameOk turn : Bool) : s.Quiet (s.doneArrives sd frameOk turn) := by
  unfold State.doneArrives
  split
  · exact State.quiet_ite (s.doneAnswered_quiet sd) (.refl s)
  · exact State.quiet_ite (s.doneAnswered_quiet sd) (.refl s)
  · exact s.strayAnswer_quiet sd

theorem State.settleExpires_quiet : s.Quiet (s.settleExpires sd) := by
  unfold State.settleExpires
  split
  · exact .refl s
  · exact s.linkSearching_quiet sd

theorem State.summonsExpires_quiet : s.Quiet (s.summonsExpires sd) := by
  unfold State.summonsExpires
  dsimp only
  split
  · exact .refl s
  · exact State.quiet_ite (State.setReader_quiet (Reader.sendSummon_quiet _)) State.setReader_unsent

theorem State.idleExpires_quiet : s.Quiet (s.idleExpires sd) := by
  unfold State.idleExpires
  dsimp only
  split
  · exact .refl s
  · exact State.setReader_unsent

theorem State.holdoffExpires_quiet : s.Quiet (s.holdoffExpires sd) := by
  unfold State.holdoffExpires
  dsimp only
  split
  · exact .refl s
  · exact (State.setReader_quiet .of_summon).trans
      (State.quiet_ite (State.setCtxState_quiet _ sd (by decide)) (.refl _))

theorem State.holdExpires_quiet : s.Quiet (s.holdExpires sd) := by
  dsimp only [State.holdExpires]
  exact State.setReader_unsent

theorem State.carrierLost_quiet : s.Quiet (s.carrierLost sd) := by
  dsimp only [State.carrierLost]
  refine State.quiet_ite ?_ (.refl s)
  exact ((State.Quiet.trans State.setReader_unsent (State.linkDown_quiet _ sd)).then (State.raisePlain_still _ _)).trans
    (State.quiet_ite (State.cardLost_quiet _ sd) (.refl _))

theorem State.carrierReturns_quiet : s.Quiet (s.carrierReturns sd) := by
  dsimp only [State.carrierReturns]
  exact State.quiet_ite (.refl s) ((State.Quiet.then State.setReader_unsent (State.clearPlain_still _ _)).trans
    (State.quiet_ite (.refl _) State.setReader_unsent))

/-- The same frame is sent again (R14). -/
theorem Reader.resend_quiet {r : Reader} {e : Exchange} (he : r.exchange = some e) (n : Nat) (t : Timer) :
    r.Quiet { r with exchange := some { e with attempt := n, answer := t }, lastFrame := some e.frame } := by
  intro f _
  have ha : r.awaited = some e.frame := by simp [Reader.awaited, he]
  exact ⟨fun hl => .inr (ha.trans hl), fun hx => ha.trans hx⟩

theorem State.answerExpires_quiet : s.Quiet (s.answerExpires sd) := by
  unfold State.answerExpires
  dsimp only
  split
  · exact .refl s
  next e he =>
    exact State.quiet_ite (State.setReader_quiet (Reader.resend_quiet he _ _))
      ((State.setReader_quiet (Reader.part_quiet _ _)).trans (State.cardLost_quiet _ sd))

theorem State.guardExpires_quiet : s.Quiet (s.guardExpires sd) := by
  unfold State.guardExpires
  split
  · exact .refl s
  · exact s.abortTx_quiet sd _

end Answers

end Sys2Proof.Machine
end

section
/-! The STORE that is sent: WRITING is entered only where nothing forbids it (R34, R41, R45, R149, R160). -/

namespace Sys2Proof.Machine

/-- A context enters WRITING with the first attempt of a STORE, in a gate that is neither FREE_OPEN nor HELD and with its side in
service. -/
def State.Enters (s t : State) (sd : Side) (f : LinkFrame) : Prop :=
  (s.ctx sd).state ≠ .writing ∧ (t.ctx sd).state = .writing ∧ t.inFreeOpen = false ∧ t.gate.barrier ≠ .held ∧
    t.inService sd = true ∧ (t.reader sd).lastFrame = some f ∧
    (t.reader sd).exchange = some { frame := f, attempt := 1, answer := some 3 }

/-- An operation of one side: the other side is quiet, and the side is quiet or enters WRITING. -/
def State.Guarded (s t : State) (sd : Side) : Prop :=
  s.QuietAt t sd.other ∧ (s.QuietAt t sd ∨ ∃ turn no record, s.Enters t sd (.store turn no record))

section Guarded

variable {s t u : State} {sd : Side}

theorem State.Quiet.guarded (h : s.Quiet t) (sd : Side) : s.Guarded t sd :=
  ⟨h _, .inl (h _)⟩

theorem State.Quiet.trans_guarded (h : s.Quiet u) (hs : (s.ctx sd).state ≠ .writing) (k : u.Guarded t sd) : s.Guarded t sd := by
  obtain ⟨hother, hside⟩ := k
  refine ⟨(h _).trans hother, hside.imp (h sd).trans ?_⟩
  rintro ⟨turn, no, record, -, henters⟩
  exact ⟨turn, no, record, hs, henters⟩

theorem State.guarded_ite {c : Prop} [Decidable c] (h : s.Guarded t sd) (k : s.Guarded u sd) : s.Guarded (if c then t else u) sd := by
  split <;> assumption

theorem State.Guarded.at (h : s.Guarded t sd) (sd' : Side) :
    s.QuietAt t sd' ∨ ∃ turn no record, s.Enters t sd' (.store turn no record) := by
  by_cases hsd : sd' = sd
  · exact hsd ▸ h.2
  · obtain rfl : sd' = sd.other := by cases sd <;> cases sd' <;> simp_all [Side.other]
    exact .inl h.1

end Guarded

/-! WRITING entered (R34, R41). -/

theorem State.storeForbidden_eq_none {s : State} {sd : Side} (h : s.storeForbidden sd = none) :
    s.inFreeOpen = false ∧ s.gate.barrier ≠ .held ∧ s.inService sd = true := by
  rw [State.storeForbidden_eq] at h
  by_cases hopen : s.inFreeOpen = true
  · simp [hopen] at h
  · by_cases hout : s.gate.barrier = .held ∨ s.inService sd = false
    · simp [hopen, hout] at h
    · rw [not_or] at hout
      exact ⟨by simpa using hopen, hout.1, by simpa using hout.2⟩

section Writing

variable {s : State} {sd : Side} {x : Transaction}

/-- On a BOUND link the STORE is sent; a side that is DOWN ends the transaction with RETAP (R7, R36). -/
theorem State.enterWriting_guarded (hx : (s.ctx sd).tx = some x) (hs : (s.ctx sd).state ≠ .writing)
    (hf : s.storeForbidden sd = none) (target : SlotNo) (record : CardRecord) : s.Guarded (s.enterWriting sd target record) sd := by
  obtain ⟨hopen, hbarrier, hservice⟩ := State.storeForbidden_eq_none hf
  by_cases hl : (s.reader sd).link = .bound
  · obtain ⟨pin, hstores⟩ := State.enterWriting_bound hx hl target record
    rw [hstores]
    refine ⟨State.quietAt_of_eq (PerSide.get_set_other _ _ _) (congrArg Context.state (PerSide.get_set_other _ _ _)), .inr ⟨_, _, _, hs,
      (congrArg Context.state (PerSide.get_set_self _ _ _) :), hopen, hbarrier, hservice,
      (congrArg Reader.lastFrame (PerSide.get_set_self _ _ _) :), (congrArg Reader.exchange (PerSide.get_set_self _ _ _) :)⟩⟩
  · refine State.Quiet.guarded ?_ sd
    generalize hw : ((s.mapTx sd fun t => { t with guard := none, mark := none }).setCtxState sd .writing).releasePin = w
    have hwriting : s.enterWriting sd target record = w.ask sd (.store (w.reader sd).turn target record) := by rw [← hw]; rfl
    obtain ⟨pin, hpin⟩ := ((s.mapTx sd fun t => { t with guard := none, mark := none }).setCtxState sd .writing).releasePin_eq
    rw [hpin, State.mapTx_some _ hx] at hw
    have hwc : w.ctxs = s.ctxs.set sd { state := .writing, tx := some { x with guard := none, mark := none } } := by
      rw [← hw]
      simp only [State.setCtxState, State.setCtx, State.ctx, PerSide.get_set_self, PerSide.set_set]
    have hw_ctx : w.ctx sd = { state := .writing, tx := some { x with guard := none, mark := none } } := by
      rw [State.ctx, hwc, PerSide.get_set_self]
    have hwr : w.readers = s.readers := by rw [← hw]; rfl
    have hwl : (w.reader sd).link ≠ .bound := by rw [State.reader, hwr]; exact hl
    have hlost : w.ask sd (.store (w.reader sd).turn target record) = w.cardLost sd := if_neg hwl
    rw [hwriting, hlost, State.cardLost_writing (congrArg Context.tx hw_ctx) (congrArg Context.state hw_ctx)]
    obtain ⟨hdr, hdc⟩ := w.detach_still x.card
    exact State.finishTx_quiet_of _ (hdr.trans hwr) (hdc.trans hwc)
      ((congrArg (fun c => (PerSide.get c sd).tx) hdc).trans (congrArg Context.tx hw_ctx))

/-- The same after quiet steps that have changed no more of the context than its transaction. -/
theorem State.Quiet.enterWriting_guarded {u : State} (h : s.Quiet u) (hs : (s.ctx sd).state ≠ .writing)
    (hc : u.ctx sd = { s.ctx sd with tx := some x }) (hf : u.storeForbidden sd = none) (target : SlotNo) (record : CardRecord) :
    s.Guarded (u.enterWriting sd target record) sd :=
  h.trans_guarded hs
    (State.enterWriting_guarded (congrArg Context.tx hc) (fun hw => hs ((congrArg Context.state hc).symm.trans hw)) hf target record)

theorem State.ctx_mapTx_some (f : Transaction → Transaction) (hx : (s.ctx sd).tx = some x) :
    (s.mapTx sd f).ctx sd = { s.ctx sd with tx := some (f x) } := by
  rw [State.ctx_mapTx, hx]
  rfl

theorem State.commitPoint_guarded (hx : (s.ctx sd).tx = some x) (hs : (s.ctx sd).state ≠ .writing) (t : Transaction)
    (record : CardRecord) (f : FareRecord) (target : SlotNo) : s.Guarded (s.commitPoint sd t record f target) sd := by
  unfold State.commitPoint
  split
  · exact (s.finishTx_quiet sd _).guarded sd
  next hf =>
    refine State.guarded_ite ((s.finishTx_quiet sd _).guarded sd) ?_
    dsimp only
    generalize hu : (State.mapTx { s with doubt := _ } sd fun t => { t with journalHeld := false }) = u
    have hquiet : s.Quiet u := by
      rw [← hu]
      exact State.mapTx_quiet _ sd _
    have hc : u.ctx sd = { s.ctx sd with tx := some { x with journalHeld := false } } := by
      rw [← hu]
      exact State.ctx_mapTx_some _ hx
    have hforbidden : u.storeForbidden sd = none := by
      rw [← hu]
      exact hf
    rw [State.setAlternate_frame rfl]
    refine State.Quiet.enterWriting_guarded (x := { x with journalHeld := false }) ?_ hs ?_ ?_ target record
    · exact hquiet
    · exact hc
    · exact hforbidden

theorem State.rewrite_guarded (hx : (s.ctx sd).tx = some x) (hs : (s.ctx sd).state ≠ .writing) (e : InDoubt) :
    s.Guarded (s.rewrite sd e) sd := by
  unfold State.rewrite
  split
  · exact (s.finishTx_quiet sd _).guarded sd
  next hf => exact (s.mapTx_quiet sd _).enterWriting_guarded hs (State.ctx_mapTx_some _ hx) hf e.target e.record

end Writing

/-! The events that lead to a STORE (R33, R39 to R41, R49). -/

section Events

variable {s : State} {sd : Side} {x : Transaction}

theorem State.resolve_guarded (hx : (s.ctx sd).tx = some x) (hs : (s.ctx sd).state ≠ .writing) (e : InDoubt) (n : SlotNo)
    (r : CardRecord) : s.Guarded (s.resolve sd e x n r) sd := by
  dsimp only [State.resolve]
  generalize hv : (if x.journalHeld then _ else _ : State) = v
  have hstill : s.Still v := by
    rw [← hv]
    split <;> simp
  have hvx : (v.ctx sd) = s.ctx sd := by rw [State.ctx, hstill.2]; rfl
  generalize hw : (v.mapTx sd fun t => { t with attached := some e.card, journalHeld := false }) = w
  have hquiet : s.Quiet w := hw ▸ State.Still.then hstill (v.mapTx_quiet sd _)
  have hc : w.ctx sd = { s.ctx sd with tx := some { x with attached := some e.card, journalHeld := false } } := by
    rw [← hw, State.ctx_mapTx_some (x := x) _ (hvx ▸ hx), hvx]
  refine hquiet.trans_guarded hs ?_
  split
  · exact (w.settleWrite_quiet sd _ _).guarded sd
  · exact State.rewrite_guarded (congrArg Context.tx hc) (fun h => hs ((congrArg Context.state hc).symm.trans h)) e
  · exact (w.supersede_quiet sd _ _ _).guarded sd

theorem State.enterScreening_guarded (hs : (s.ctx sd).state ≠ .writing) : s.Guarded (s.enterScreening sd) sd := by
  refine State.Quiet.trans_guarded (s.setCtxState_quiet sd (st := .screening) (by decide)) hs ?_
  unfold State.enterScreening
  generalize hu : s.setCtxState sd .screening = u
  have hscreening : (u.ctx sd).state ≠ .writing := by simp [← hu]
  dsimp only
  split
  · exact (State.Quiet.refl u).guarded sd
  next x hx =>
    split
    · exact State.guarded_ite (State.resolve_guarded hx hscreening _ _ _) ((u.finishTx_quiet sd _).guarded sd)
    · exact (State.Quiet.refl u).guarded sd

theorem State.checkProduct_guarded (hs : (s.ctx sd).state ≠ .writing) (x : Transaction) (area : StaticArea) :
    s.Guarded (s.checkProduct sd x area) sd := by
  dsimp only [State.checkProduct]
  refine State.guarded_ite ((s.finishTx_quiet sd _).guarded sd) ?_
  split
  · exact ((s.mapTx_quiet sd _).trans (State.finishTx_quiet _ sd _)).guarded sd
  · exact (s.mapTx_quiet sd _).trans_guarded hs (State.enterScreening_guarded (by simpa using hs))

theorem State.verify_guarded (hs : (s.ctx sd).state ≠ .writing) : s.Guarded (s.verify sd) sd := by
  unfold State.verify
  split
  · exact (State.Quiet.refl s).guarded sd
  split
  · exact (State.Quiet.refl s).guarded sd
  split
  · exact (s.finishTx_quiet sd _).guarded sd
  refine State.guarded_ite ?_ ((s.finishTx_quiet sd _).guarded sd)
  split
  · exact (s.finishTx_quiet sd _).guarded sd
  · exact (s.captureVerdict_quiet sd _ _).guarded sd
  · exact State.Quiet.trans_guarded (s.mapTx_quiet sd _) hs (State.checkProduct_guarded (by simpa using hs) _ _)

theorem State.slotAnswered_guarded (hs : (s.ctx sd).state ≠ .writing) (no : SlotNo) (w : RawRecord) :
    s.Guarded (s.slotAnswered sd no w) sd := by
  refine State.Quiet.trans_guarded (s.endExchange_quiet sd) hs ?_
  unfold State.slotAnswered
  cases no with
  | zero => exact ((State.mapTx_quiet _ sd _).trans (State.ask_quiet _ sd rfl)).guarded sd
  | one => exact State.Quiet.trans_guarded (State.mapTx_quiet _ sd _) hs (State.verify_guarded (by simpa using hs))

/-- An answer to a fetch is taken in READING (R13, R22). -/
theorem State.slotArrives_guarded (law : s.contextLaw sd) (ok turn : Bool) (no : SlotNo) (w : RawRecord) :
    s.Guarded (s.slotArrives sd ok turn no w) sd := by
  unfold State.slotArrives
  split
  next turn' no' ha =>
    have hreading : (s.ctx sd).state = .reading := by
      obtain ⟨e, he, hf⟩ := Option.map_eq_some_iff.mp ha
      obtain ⟨-, -, hexchange, -⟩ := law
      simpa [hf, LinkFrame.ctxState] using (hexchange e he).symm
    exact State.guarded_ite (State.slotAnswered_guarded (by rw [hreading]; decide) no w) ((State.Quiet.refl s).guarded sd)
  · exact (s.strayAnswer_quiet sd).guarded sd

theorem State.actOnPrice_guarded (hx : (s.ctx sd).tx = some x) (hs : (s.ctx sd).state ≠ .writing) (p : PricingResult) :
    s.Guarded (s.actOnPrice sd x p) sd := by
  cases p with
  | refuse o => exact (s.finishTx_quiet sd _).guarded sd
  | staff => exact (s.grantStaff_quiet sd).guarded sd
  | write record f =>
    dsimp only [State.actOnPrice]
    split
    · exact (s.mapTx_quiet sd _).trans_guarded hs
        (State.commitPoint_guarded (congrArg Context.tx (State.ctx_mapTx_some _ hx)) (by simpa using hs) _ _ _ _)
    · exact (State.Quiet.refl s).guarded sd

/-- A request that waits is taken without any other change (R49). -/
theorem State.Guarded.takeWaiting {t : State} (h : s.Guarded t sd) : s.Guarded t.takeWaiting sd := by
  obtain ⟨fares, hf⟩ := t.takeWaiting_frame
  rw [hf]
  exact h

/-- What the calculator prices is in PRICING (R49). -/
theorem State.pricingEnds_guarded (law : ∀ p, s.fares.current = some p → (s.ctx p.side).state = .pricing) :
    ∃ sd, s.Guarded s.pricingEnds sd := by
  unfold State.pricingEnds
  split
  · exact ⟨.a, (State.Quiet.refl s).guarded .a⟩
  next p hp =>
    refine ⟨p.side, ?_⟩
    have hs : (s.ctx p.side).state ≠ .writing := by
      rw [law p hp]
      decide
    dsimp only
    split
    · exact State.Guarded.takeWaiting ((State.Still.quiet ⟨rfl, rfl⟩).guarded _)
    next x hx =>
      split
      · exact State.Guarded.takeWaiting ((State.Still.quiet ⟨rfl, rfl⟩).guarded _)
      · exact State.Guarded.takeWaiting (State.Quiet.trans_guarded (State.Still.quiet (by simp)) hs (State.actOnPrice_guarded hx hs _))

end Events

end Sys2Proof.Machine
end

section
/-! No STORE in FREE_OPEN or HELD, whatever the command (R34, R45, R149, R160): the requests, the starts and the commands. -/

namespace Sys2Proof.Machine

/-! The requests (R175). -/

section Requests

variable (s : State)

theorem State.quiet_answer_ite {c : Prop} [Decidable c] {x y : State × Answer} (hx : s.Quiet x.1) (hy : s.Quiet y.1) :
    s.Quiet (if c then x else y).1 := by
  split <;> assumption

theorem State.setParameter_quiet (param input v : Nat) : s.Quiet (s.setParameter param input v).1 := by
  have hdebounce : s.Quiet (s.setDebounce input v).1 := by
    unfold State.setDebounce
    split <;> exact .refl s
  have hlevel : s.Quiet (s.setActiveLevel input v).1 := by
    unfold State.setActiveLevel
    split <;> exact .refl s
  unfold State.setParameter
  refine State.quiet_answer_ite s (.refl s) (State.quiet_answer_ite s (.refl s) (State.quiet_answer_ite s (.refl s)
    (State.quiet_answer_ite s ?capture (State.quiet_answer_ite s hdebounce (State.quiet_answer_ite s hlevel
      (State.quiet_answer_ite s (.refl s) (State.quiet_answer_ite s (.refl s) (State.quiet_answer_ite s (.refl s)
        (State.quiet_answer_ite s ?resume (.refl s))))))))))
  case capture => split <;> exact .refl s
  case resume => split <;> exact .refl s

theorem State.setNoticeMask_quiet (codes : List Nat) : s.Quiet (s.setNoticeMask codes).1 := by
  unfold State.setNoticeMask
  split
  · exact .refl s
  · exact State.Still.quiet (by simp)

theorem State.setAisleMode_quiet (code : Nat) : s.Quiet (s.setAisleMode code).1 := by
  unfold State.setAisleMode
  split
  · exact .refl s
  · refine State.quiet_answer_ite s (.refl s) fun sd => ?_
    cases sd with
    | a => exact ⟨Reader.modeChanged_quiet _ _ _, id⟩
    | b => exact ⟨Reader.modeChanged_quiet _ _ _, id⟩

theorem State.gateCommand_quiet (code : Nat) : s.Quiet (s.gateCommand code).1 := by
  have hgrant (sd : Side) : s.Quiet (s.commandGrant sd).1 :=
    State.quiet_answer_ite s (.refl s) (State.quiet_answer_ite s (.refl s) (State.Still.quiet (State.join_still s sd _)))
  have hcancel : s.Still s.cancelAll.delayEval := by simp
  exact State.quiet_answer_ite s (s.joinReason_quiet _)
    (State.quiet_answer_ite s (State.quiet_answer_ite s (.refl s) (s.leaveReason_quiet _))
      (State.quiet_answer_ite s (hgrant .a) (State.quiet_answer_ite s (hgrant .b)
        (State.quiet_answer_ite s (State.Still.quiet hcancel) (.refl s)))))

theorem State.serviceHold_quiet (target action : Nat) : s.Quiet (s.serviceHold target action).1 := by
  have hbarrier (enter : Bool) : s.Quiet (s.barrierHoldRequest enter).1 :=
    State.quiet_answer_ite s (.refl s) (State.quiet_ite s.enterBarrierHold_quiet s.leaveBarrierHold_quiet)
  have hreader (sd : Side) (enter : Bool) : s.Quiet (s.readerHoldRequest sd enter).1 :=
    State.quiet_answer_ite s (.refl s) (State.quiet_ite (s.enterReaderHold_quiet sd) (s.leaveReaderHold_quiet sd))
  exact State.quiet_answer_ite s (.refl s)
    (State.quiet_answer_ite s (hbarrier _)
      (State.quiet_answer_ite s (hreader .a _) (State.quiet_answer_ite s (hreader .b _) (.refl s))))

theorem State.setFaultResponse_quiet (cls response : Nat) : s.Quiet (s.setFaultResponse cls response).1 := by
  unfold State.setFaultResponse
  split
  next c r _ _ =>
    have hresponse : s.Still (s.setResponse c r) := by cases c <;> exact ⟨rfl, rfl⟩
    exact State.quiet_answer_ite s (State.Still.then hresponse (State.recompute_quiet _)) (.refl s)
  · exact .refl s

theorem State.clearFault_quiet (cls : Nat) : s.Quiet (s.clearFaultRequest cls).1 :=
  State.quiet_answer_ite s (.refl s) (State.quiet_answer_ite s (.refl s)
    (State.quiet_answer_ite s (.refl s) (s.clearOrdered_quiet _)))

theorem State.setClockRequest_quiet (d : DateTime) (force : Nat) : s.Quiet (s.setClockRequest d force).1 := by
  have hsetting (n : Nat) (forced : Bool) : s.Quiet (s.takeSetting n forced) := (s.takeSetting_still n forced).quiet
  unfold State.setClockRequest
  refine State.quiet_answer_ite s ?_ (.refl s)
  split
  · exact .refl s
  split
  · exact hsetting _ _
  · exact State.quiet_answer_ite s (hsetting _ _) (State.quiet_answer_ite s (hsetting _ _) (.refl s))

/-- Whatever the request, its owner sends no STORE. -/
theorem State.carry_quiet (r : Request) : s.Quiet (s.carry r).1 := by
  cases r with
  | setParameter param input v => exact s.setParameter_quiet param input v
  | setNoticeMask codes => exact s.setNoticeMask_quiet codes
  | setAisleMode code => exact s.setAisleMode_quiet code
  | gateCommand code => exact s.gateCommand_quiet code
  | serviceHold target action => exact s.serviceHold_quiet target action
  | setFaultResponse cls response => exact s.setFaultResponse_quiet cls response
  | clearFault cls => exact s.clearFault_quiet cls
  | setClock d force => exact s.setClockRequest_quiet d force
  | _ =>
    refine State.Still.quiet ?_
    dsimp only [State.carry, answered, State.getStatus, State.setIdentity, State.setLampPriority, State.setDirectionTable,
      State.tariffLoad, State.tariffActivate, State.tariffDiscard, State.keyLoad, State.keyErase, State.getClock, State.denylistUpdate,
      State.denylistBegin, State.denylistPage, State.denylistEnd, State.denylistQuery, State.holdRelease, State.holdListRead,
      State.sightingRequest, State.stationFreePeriod, State.journalRead, State.journalRelease, State.restartRequest, State.setScreen,
      State.setStandby, State.setKey]
    repeat' split
    all_goals simp

theorem State.serve_quiet (q : Queued) : s.Quiet (s.serve q) := by
  have hcarry := s.carry_quiet q.request
  unfold State.serve
  generalize s.carry q.request = x at hcarry
  obtain ⟨t, a⟩ := x
  cases a with
  | none => exact hcarry
  | some a => exact hcarry

theorem State.settlePort_quiet (n : Nat) : s.Quiet (s.settlePort n) := by
  induction n generalizing s with
  | zero => exact State.Still.quiet ⟨rfl, rfl⟩
  | succ n ih =>
    unfold State.settlePort
    split
    · exact State.Still.quiet ⟨rfl, rfl⟩
    next q _ => exact State.Quiet.trans (State.serve_quiet s.pump q) (ih _)

theorem State.request_quiet (tag : Byte) (r : Request) : s.Quiet (s.request tag r) :=
  State.settlePort_quiet { s with port := s.port.arrive tag r.judged } portTurns

theorem State.takeByte_quiet (b : Byte) (stopBit : Bool) : s.Quiet (s.takeByte b stopBit) := by
  unfold State.takeByte
  split
  · exact State.Still.quiet ⟨rfl, rfl⟩
  next p tag r _ => exact State.request_quiet { s with port := p } tag r

end Requests

/-! The starts and the swap of a bulk replace (R106, R182). -/

section Starts

variable (s : State)

theorem Reader.restart_quiet (r q : Reader) : r.Quiet q.restart := by
  intro f _
  simp [Reader.restart, Reader.atStart, Reader.awaited]

theorem State.mainReset_quiet (u : State) : s.Quiet u.mainReset := by
  intro sd
  cases sd with
  | a => exact ⟨Reader.restart_quiet _ _, fun h => by cases h⟩
  | b => exact ⟨Reader.restart_quiet _ _, fun h => by cases h⟩

theorem State.startReader_quiet (sd : Side) : s.Quiet (s.startReader sd) :=
  State.quiet_ite (.refl s) ((s.linkDown_quiet sd).then (State.raisePlain_still _ _))

theorem State.startBarrier_quiet : s.Quiet s.startBarrier :=
  State.quiet_ite (State.Still.then (by simp) (State.enterFreeOpen_quiet _ _)) (State.Still.quiet (by simp))

theorem State.startFaults_quiet : s.Quiet s.startFaults := by
  dsimp only [State.startFaults]
  refine State.Quiet.trans ?_ (State.quiet_ite (State.Still.quiet (State.raiseJournal_still _)) (.refl _))
  refine State.Quiet.trans ?_ (State.quiet_ite (.refl _) (State.Still.quiet (State.raisePlain_still _ _)))
  refine State.Quiet.trans ?_ (State.quiet_ite (State.Still.quiet (State.raisePlain_still _ _)) (.refl _))
  refine State.Quiet.trans ?_ (State.startReader_quiet _ .b)
  refine State.Quiet.trans ?_ (State.startReader_quiet _ .a)
  exact State.quiet_ite s.driveFaultActive_quiet (.refl s)

theorem State.startWork_quiet (cause : Option StartCause) (abandoned : Bool) : s.Quiet (s.startWork cause abandoned) := by
  have hrecord (kept : Nat) : s.Still (s.startRecord cause kept abandoned) := by
    unfold State.startRecord
    repeat' split
    all_goals simp
  dsimp only [State.startWork]
  generalize hn : (s.startRecord cause s.doubt.entries.length abandoned).startedNotice cause s.doubt.entries.length abandoned = n
  have hnoted : s.Still n := by
    obtain ⟨hr, hc⟩ := hrecord s.doubt.entries.length
    rw [← hn]
    exact ⟨hr, hc⟩
  have hlow : s.Still n.startLow := by
    obtain ⟨hr, hc⟩ := State.lowCheck_still { n with journal := { n.journal with armed := true } }
    exact ⟨hr.trans hnoted.1, hc.trans hnoted.2⟩
  have hstarted : s.Quiet n.startLow.startBarrier.startFaults :=
    State.Quiet.trans (State.Still.then hlow (State.startBarrier_quiet _)) (State.startFaults_quiet _)
  exact hstarted

theorem State.start_quiet (cause : StartCause) : s.Quiet (s.start cause) :=
  State.quiet_ite (((s.mainReset_quiet s).then (t := s.mainReset) (u := s.mainReset.warmRetained) ⟨rfl, rfl⟩).trans
    (State.startWork_quiet _ _ _)) ((s.mainReset_quiet s.coldRetained).trans (State.startWork_quiet _ _ _))

theorem State.frameLeaves_quiet : s.Quiet s.frameLeaves := by
  unfold State.frameLeaves
  split
  · exact State.Still.quiet ⟨rfl, rfl⟩
  · exact State.quiet_ite (s.start_quiet .restart) (State.settlePort_quiet { s with port := { s.port with line := none } } portTurns)

theorem State.endReply_still : s.Still s.endReply := by
  unfold State.endReply
  repeat' split
  all_goals exact ⟨rfl, rfl⟩

theorem State.listSwap_quiet : s.Quiet s.listSwap := by
  dsimp only [State.listSwap]
  refine State.quiet_ite ?_ (State.Still.quiet ⟨rfl, rfl⟩)
  refine State.Quiet.trans ?_ (State.settlePort_quiet _ _)
  refine State.Quiet.then ?_ (State.endReply_still _)
  refine State.Quiet.trans ?_ (State.screenWaiting_quiet _ .b)
  refine State.Quiet.trans ?_ (State.screenWaiting_quiet _ .a)
  refine State.Quiet.trans ?_ (State.mapTx_quiet _ .b _)
  exact State.mapTx_quiet _ .a _

end Starts

/-! The commands. -/

section Commands

variable {c : Instr} {s t u : State}

/-- A command answers a next state in which each side is quiet or has entered WRITING where nothing forbids it. -/
def StoresLawfully (c : Instr) (s : State) : Prop :=
  ∃ t, exec c s = .next t ∧ ∀ sd, s.QuietAt t sd ∨ ∃ turn no record, s.Enters t sd (.store turn no record)

theorem StoresLawfully.of_quiet (he : exec c s = .next t) (h : s.Quiet t) : StoresLawfully c s :=
  ⟨t, he, fun sd => .inl (h sd)⟩

theorem StoresLawfully.of_event (he : exec c s = finishEvent u) (h : s.Quiet u) : StoresLawfully c s :=
  ⟨u.pump, he, fun sd => .inl (h sd)⟩

theorem StoresLawfully.of_guarded {sd : Side} (he : exec c s = finishEvent u) (h : s.Guarded u sd) : StoresLawfully c s :=
  ⟨u.pump, he, h.at⟩

theorem storesLawfully_hailWindowClose (s : State) (sd : Side) : StoresLawfully (.hailWindowClose sd) s := by
  cases hw : (s.reader sd).window with
  | none => exact .of_event (by simp only [exec, execHailWindowClose, hw]) (.refl s)
  | some w =>
    have hjudged : s.Quiet ((s.setReader sd { s.reader sd with window := none }).judgeWindow sd w) :=
      State.Quiet.trans State.setReader_unsent (State.judgeWindow_quiet _ sd w)
    exact .of_event (by simp only [exec, execHailWindowClose, hw]) hjudged

theorem State.completeApply_quiet (s : State) : s.Quiet s.completeApply := by
  unfold State.completeApply
  split
  · exact State.quiet_ite (State.Still.quiet ⟨rfl, rfl⟩) (State.Still.quiet ⟨rfl, rfl⟩)
  · exact .refl s

theorem State.gapExpires_quiet (s : State) : s.Quiet s.gapExpires := by
  unfold State.gapExpires
  split
  · exact .refl s
  · exact State.Still.quiet ⟨rfl, rfl⟩

theorem exec_storesLawfully (c : Instr) (s : State) (law : s.tapLaw) : StoresLawfully c s := by
  obtain ⟨hsides, -, hcurrent, -⟩ := law
  cases c with
  | powerOn | resetPin | supplyDip => exact .of_quiet rfl (s.start_quiet _)
  | settleTimerExpiry sd => exact .of_event rfl (s.settleExpires_quiet sd)
  | summonsTimerExpiry sd => exact .of_event rfl (s.summonsExpires_quiet sd)
  | hail sd clean card => exact .of_event rfl State.setReader_unsent
  | hailWindowClose sd => exact storesLawfully_hailWindowClose s sd
  | idleTimerExpiry sd => exact .of_event rfl (s.idleExpires_quiet sd)
  | holdoffTimerExpiry sd => exact .of_event rfl (s.holdoffExpires_quiet sd)
  | sameCardHoldExpiry sd => exact .of_event rfl (s.holdExpires_quiet sd)
  | carrierLoss sd => exact .of_event rfl (s.carrierLost_quiet sd)
  | carrierReturn sd => exact .of_event rfl (s.carrierReturns_quiet sd)
  | claimed sd ok area blocked => exact .of_event rfl (s.claimedArrives_quiet sd ok area blocked)
  | slot sd ok turn no w => exact .of_guarded rfl (State.slotArrives_guarded (hsides sd).2 ok turn no w)
  | done sd ok turn => exact .of_event rfl (s.doneArrives_quiet sd ok turn)
  | answerTimerExpiry sd => exact .of_event rfl (s.answerExpires_quiet sd)
  | guardTimerExpiry sd => exact .of_event rfl (s.guardExpires_quiet sd)
  | screening sd => exact .of_event rfl (s.screenEvent_quiet sd)
  | pricingComplete =>
    obtain ⟨sd, hguarded⟩ := State.pricingEnds_guarded hcurrent
    exact .of_guarded rfl hguarded
  | inDoubtDeadlineExpiry card => exact .of_event rfl (s.deadlinePasses_still card).quiet
  | clockAdvance => exact .of_event rfl s.advanceClock_still.quiet
  | denylistApplyBegin => exact .of_event rfl (State.quiet_ite (State.Still.quiet ⟨rfl, rfl⟩) (.refl s))
  | denylistApplyComplete => exact .of_event rfl s.completeApply_quiet
  | denylistSwap => exact .of_quiet rfl s.listSwap_quiet
  | rawInputChange i high => exact .of_event rfl (s.aisle_still _).quiet
  | debounceExpiry g => exact .of_event rfl (s.debounced_quiet g)
  | stuckTimerExpiry z => exact .of_event rfl (s.stuckExpires_quiet z)
  | travelTimerExpiry => exact .of_event rfl s.travelFails_quiet
  | passageDeadlineExpiry => exact .of_event rfl s.passageExpires_still.quiet
  | closeDelayExpiry => exact .of_event rfl s.closeDelayExpires_still.quiet
  | alarmTimerExpiry sd => exact .of_event rfl (State.Still.quiet ⟨rfl, rfl⟩)
  | refusalTimerExpiry sd => exact .of_event rfl (State.Still.quiet ⟨rfl, rfl⟩)
  | rxByte b stopBit => exact .of_quiet rfl (s.takeByte_quiet b stopBit)
  | gapTimerExpiry => exact .of_event rfl s.gapExpires_quiet
  | frameSent => exact .of_quiet rfl s.frameLeaves_quiet
  | backupSupplyFailure => exact .of_quiet rfl (State.Still.quiet ⟨rfl, rfl⟩)
  | _ => exact .of_quiet rfl (s.request_quiet _ _)

end Commands

/-- Settles O23: a quiet side has no STORE that it had not before, and a context enters WRITING only where nothing forbids it. -/
theorem noStoreInFreeOpenOrHeld : Obligations.NoStoreInFreeOpenOrHeld := by
  intro c s t sd law hexec entered
  obtain ⟨u, hu, hsides⟩ := exec_storesLawfully c s law
  obtain rfl : u = t := Host.Outcome.next.inj (hu.symm.trans hexec)
  rcases hsides sd with ⟨hreader, hwriting⟩ | ⟨turn, no, record, henters⟩
  · refine ⟨fun turn no record hl => ?_, fun e turn no record he hf => ?_, fun hs ht => absurd (hwriting ht) hs⟩
    · exact ((hreader _ rfl).1 hl).imp id fun ha => .inl (Option.map_eq_some_iff.mp ha)
    · have ha : (u.reader sd).awaited = some (.store turn no record) := by simp [Reader.awaited, he, hf]
      obtain ⟨e', he', hf'⟩ := Option.map_eq_some_iff.mp ((hreader _ rfl).2 ha)
      exact .inl ⟨e', he', hf'.trans hf.symm⟩
  · obtain ⟨-, -, -, -, -, hlast, hexchange⟩ := id henters
    refine ⟨fun turn' no' record' hl => ?_, fun e turn' no' record' he hf => ?_, fun _ _ => ⟨turn, no, record, henters⟩⟩
    · obtain hframe := Option.some.inj (hlast.symm.trans hl)
      exact .inr (.inr (hframe ▸ henters))
    · obtain rfl := Option.some.inj (hexchange.symm.trans he)
      exact .inr henters

end Sys2Proof.Machine
end

section
/-! The fare calculator: its tests as inequalities, its cases as equations, and what every case keeps (R51 to R73). -/

namespace Sys2Proof.Machine

/-! The tests of R50, R64 and R70 as inequalities. -/

theorem withinWindow_iff {later earlier window : Nat} :
    withinWindow later earlier window = true ↔ earlier ≤ later ∧ later ≤ earlier + window := by
  simp only [withinWindow, Bool.and_eq_true, decide_eq_true_eq]
  omega

theorem periodCovers_iff {p : Option FreePeriod} {now window : Nat} :
    periodCovers p now window = true ↔ ∃ f, p = some f ∧ f.start ≤ now ∧ ∀ e, f.stop = some e → now ≤ e + window := by
  cases p with
  | none => simp [periodCovers]
  | some f => cases h : f.stop <;> simp [periodCovers, h]

theorem periodBreaks_iff {p : Option FreePeriod} {now start : Nat} :
    periodBreaks p now start = true ↔ ∃ f, p = some f ∧ f.start ≤ now ∧ start < f.start := by
  cases p <;> simp [periodBreaks]

theorem passValid_iff {q : PricingRequest} {b : Bank} :
    passValid q b = true ↔ q.area.passFrom.toNat ≤ q.tapDay b ∧ q.tapDay b ≤ q.area.passTo.toNat := by
  simp [passValid]

/-! The decisions of a pricing in their order (R51). -/

section Decisions

variable {q : PricingRequest} {b : Bank} {p : Option FreePeriod}

/-- Steps 6 and 7 of R51: the entry minimum and the purse check of a case's new record (R58, R63). -/
def PricingRequest.judge (q : PricingRequest) (b : Bank) (x : Priced) : PricingResult :=
  if (q.side = .a ∧ x.record.purse < (b.profileOf q.profile).entryMinimum) ∨ x.record.purse < -(b.ruleSet.overdraft : Int) then
    .refuse .insufficient
  else .write x.record (fareRecordOf q x)

theorem price_noTariff (hk : q.kind ≠ .staff) (hz : b.zoneOf q.station = 0) : price q b p = .refuse .noTariff := by
  simp only [price, if_neg hk, if_pos hz]

theorem price_cardExhausted (hk : q.kind ≠ .staff) (hz : b.zoneOf q.station ≠ 0) (hc : q.record.counter = 16777215) :
    price q b p = .refuse .cardExhausted := by
  simp only [price, if_neg hk, if_neg hz, if_pos hc]

theorem price_passInvalid (hz : b.zoneOf q.station ≠ 0) (hc : q.record.counter ≠ 16777215) (hk : q.kind = .periodPass)
    (hv : ¬passValid q b = true) : price q b p = .refuse .passInvalid := by
  have hstaff : q.kind ≠ .staff := by simp [hk]
  simp only [price, if_neg hstaff, if_neg hz, if_neg hc, if_pos (And.intro hk (Bool.eq_false_iff.mpr hv))]

theorem price_judged (hk : q.kind ≠ .staff) (hz : b.zoneOf q.station ≠ 0) (hc : q.record.counter ≠ 16777215)
    (hv : q.kind = .periodPass → passValid q b = true) : price q b p = q.judge b (priceCase q b p) := by
  have hpass : ¬(q.kind = .periodPass ∧ passValid q b = false) := fun h => by simp [hv h.1] at h
  simp only [price, if_neg hk, if_neg hz, if_neg hc, if_neg hpass, PricingRequest.judge, purseFails, Bool.or_eq_true,
    Bool.and_eq_true, decide_eq_true_eq]

/-- A record to write is that of the request's case, and its purse has passed the purse check (R51, R58). -/
theorem price_write {r : CardRecord} {f : FareRecord} (h : price q b p = .write r f) :
    r = (priceCase q b p).record ∧ f = fareRecordOf q (priceCase q b p) ∧ -(b.ruleSet.overdraft : Int) ≤ r.purse := by
  unfold price at h
  split at h
  · cases h
  split at h
  · cases h
  split at h
  · cases h
  split at h
  · cases h
  dsimp only at h
  split at h
  next => cases h
  next hp =>
    cases h
    simp only [purseFails, Bool.or_eq_true, decide_eq_true_eq, not_or, Int.not_lt] at hp
    exact ⟨rfl, rfl, hp.2⟩

end Decisions

/-! The classification of an entry and of an exit (R59, R64). -/

section Classification

variable {q : PricingRequest} {b : Bank} {p : Option FreePeriod}

/-- The continuation tests of R59. -/
def PricingRequest.continues (q : PricingRequest) (b : Bank) : Prop :=
  q.record.lastMinute ≤ q.nowMinute ∧ q.nowMinute ≤ q.record.lastMinute + b.ruleSet.transferWindow ∧
    q.station ≠ q.record.lastStation ∧ q.record.legs < 4

theorem continues_iff : q.continues b ↔
    withinWindow q.nowMinute q.record.lastMinute b.ruleSet.transferWindow = true ∧ q.station ≠ q.record.lastStation ∧
      q.record.legs < 4 := by
  rw [withinWindow_iff, and_assoc]
  rfl

theorem entryCase_opened (hj : q.record.journey = .opened) : entryCase q b = .incompleteTrip := by
  simp only [entryCase, hj]

theorem entryCase_continues (hj : q.record.journey = .closed) (hc : q.continues b) : entryCase q b = .continuation := by
  simp only [entryCase, hj, if_pos (continues_iff.mp hc)]

theorem entryCase_new (h : q.record.journey = .none ∨ q.record.journey = .closed ∧ ¬q.continues b) :
    entryCase q b = .newJourney := by
  obtain hj | ⟨hj, hc⟩ := h
  · simp only [entryCase, hj]
  · simp only [entryCase, hj, if_neg (mt continues_iff.mpr hc)]

/-- The free period covers the exit (R64, first test). -/
def PricingRequest.covered (q : PricingRequest) (b : Bank) (p : Option FreePeriod) : Prop :=
  ∃ f, p = some f ∧ f.start ≤ q.nowMinute ∧ ∀ e, f.stop = some e → q.nowMinute ≤ e + b.ruleSet.freeExitWindow

/-- The free period breaks a journey begun at the record's start (R64, second test). -/
def PricingRequest.broken (q : PricingRequest) (p : Option FreePeriod) : Prop :=
  ∃ f, p = some f ∧ f.start ≤ q.nowMinute ∧ q.record.start < f.start

/-- The tests of a same-station exit (R64, order 6). -/
def PricingRequest.staysAtStation (q : PricingRequest) (b : Bank) : Prop :=
  q.kind = .storedValue ∧ q.record.origin = q.station ∧ q.record.legs = 1 ∧ q.record.start ≤ q.nowMinute ∧
    q.nowMinute ≤ q.record.start + b.ruleSet.sameStationWindow

/-- An exit without an open journey, or whose journey a free period breaks, is free or unentered (R64, orders 1 to 4). -/
theorem exitCase_noJourney (h : q.record.journey ≠ .opened ∨ q.broken p) :
    exitCase q b p =
      if periodCovers p q.nowMinute b.ruleSet.freeExitWindow then .freeExit else .unenteredExit := by
  cases hj : q.record.journey with
  | none | closed => simp only [exitCase, hj]
  | opened =>
    have hbroken : q.broken p := h.resolve_left fun hne => hne hj
    simp only [exitCase, hj, if_pos (periodBreaks_iff.mpr hbroken)]

theorem exitCase_free (h : q.record.journey ≠ .opened ∨ q.broken p) (hc : q.covered b p) : exitCase q b p = .freeExit :=
  (exitCase_noJourney h).trans (if_pos (periodCovers_iff.mpr hc))

theorem exitCase_unentered (h : q.record.journey ≠ .opened ∨ q.broken p) (hc : ¬q.covered b p) :
    exitCase q b p = .unenteredExit :=
  (exitCase_noJourney h).trans (if_neg (mt periodCovers_iff.mp hc))

theorem exitCase_undefinedOrigin (hj : q.record.journey = .opened) (hb : ¬q.broken p) (ho : b.zoneOf q.record.origin = 0) :
    exitCase q b p = .undefinedOrigin := by
  simp only [exitCase, hj, if_neg (mt periodBreaks_iff.mp hb), if_pos ho]

theorem exitCase_sameStation (hj : q.record.journey = .opened) (hb : ¬q.broken p) (ho : b.zoneOf q.record.origin ≠ 0)
    (hs : q.staysAtStation b) : exitCase q b p = .sameStation := by
  simp only [exitCase, hj, if_neg (mt periodBreaks_iff.mp hb), if_neg ho, withinWindow_iff]
  exact if_pos hs

theorem exitCase_ordinary (hj : q.record.journey = .opened) (hb : ¬q.broken p) (ho : b.zoneOf q.record.origin ≠ 0)
    (hs : ¬q.staysAtStation b) : exitCase q b p = .ordinary := by
  simp only [exitCase, hj, if_neg (mt periodBreaks_iff.mp hb), if_neg ho, withinWindow_iff]
  exact if_neg hs

end Classification

/-! What every case keeps (R57, R58, R60 to R69, R72). -/

section Cases

variable {q : PricingRequest} {b : Bank} {p : Option FreePeriod}

/-- A case that does not go through stage 5 keeps both cap fields, and its charge is 0, the unentered charge or the penalty. -/
structure Priced.Uncapped (x : Priced) (q : PricingRequest) (b : Bank) : Prop where
  counter : x.record.counter = q.record.counter + 1
  purse : x.record.purse = q.record.purse - x.charge
  capDay : x.record.capDay = q.record.capDay
  capAcc : x.record.capAcc = q.record.capAcc
  kind : x.kind ∉ [FareKind.exitCharge, .passUse]
  charge : x.charge = 0 ∨ x.charge = b.ruleSet.unenteredCharge ∨ x.charge = penalty q b

theorem priceEntry_uncapped : (priceEntry q b).Uncapped q b := by
  unfold priceEntry
  cases entryCase q b with
  | newJourney | continuation => exact ⟨rfl, (Int.sub_zero _).symm, rfl, rfl, by simp, .inl rfl⟩
  | incompleteTrip => exact ⟨rfl, rfl, rfl, rfl, by simp, .inr (.inr rfl)⟩

/-- The charges and kinds that go through stage 5 (R57, R65, R66). -/
def PricingRequest.CapInput (q : PricingRequest) (b : Bank) (c : Nat) (kind : FareKind) : Prop :=
  c ∈ [ordinaryFare q b - q.record.paid, b.ruleSet.sameStationCharge] ∧ kind ∈ [FareKind.exitCharge, .passUse]

theorem priceExit_cases :
    (∃ c kind, q.CapInput b c kind ∧ priceExit q b p = cappedExit q b c kind) ∨ (priceExit q b p).Uncapped q b := by
  unfold priceExit
  cases exitCase q b p with
  | freeExit => exact .inr ⟨rfl, (Int.sub_zero _).symm, rfl, rfl, by simp, .inl rfl⟩
  | unenteredExit => exact .inr ⟨rfl, rfl, rfl, rfl, by simp, .inr (.inl rfl)⟩
  | undefinedOrigin => exact .inr ⟨rfl, rfl, rfl, rfl, by simp, .inr (.inr rfl)⟩
  | sameStation => exact .inl ⟨_, _, ⟨by simp, by decide⟩, rfl⟩
  | ordinary => exact .inl ⟨_, _, ⟨by simp, by split <;> decide⟩, rfl⟩

/-- Every case either goes through stage 5 or keeps both cap fields. -/
theorem priceCase_cases :
    (∃ c kind, q.CapInput b c kind ∧ priceCase q b p = cappedExit q b c kind) ∨ (priceCase q b p).Uncapped q b := by
  unfold priceCase
  cases q.side with
  | a => exact .inr priceEntry_uncapped
  | b => exact priceExit_cases

theorem priceCase_counter : (priceCase q b p).record.counter = q.record.counter + 1 := by
  obtain ⟨c, kind, -, hcapped⟩ | hkept := priceCase_cases (q := q) (b := b) (p := p)
  · rw [hcapped]; rfl
  · exact hkept.counter

theorem priceCase_purse : (priceCase q b p).record.purse = q.record.purse - (priceCase q b p).charge := by
  obtain ⟨c, kind, -, hcapped⟩ | hkept := priceCase_cases (q := q) (b := b) (p := p)
  · rw [hcapped]; rfl
  · exact hkept.purse

end Cases

/-! Stage 5 (R57). -/

section Cap

variable {cap day c : Nat} {r : CardRecord}

/-- The accumulator on arrival: that of the cap day, and 0 on another day (R57). -/
def CardRecord.arrived (r : CardRecord) (day : Nat) : Nat :=
  if r.capDay = day then r.capAcc else 0

theorem CardRecord.arrived_eq (r : CardRecord) (day : Nat) : r.arrived day = 0 ∨ r.arrived day = r.capAcc := by
  unfold CardRecord.arrived
  split
  · exact .inr rfl
  · exact .inl rfl

theorem applyCap_day : (applyCap cap day c r).2.1 = day := by
  unfold applyCap
  dsimp only
  repeat' split
  all_goals rfl

theorem applyCap_zero : applyCap 0 day c r = (c, day, min 65535 (r.arrived day + c)) := rfl

theorem applyCap_reached (hcap : cap ≠ 0) (h : cap ≤ r.arrived day) : applyCap cap day c r = (0, day, r.arrived day) :=
  (if_neg hcap).trans (if_pos h)

theorem applyCap_below (h : r.arrived day < cap) :
    applyCap cap day c r = (min c (cap - r.arrived day), day, r.arrived day + min c (cap - r.arrived day)) :=
  (if_neg (Nat.ne_zero_of_lt h)).trans (if_neg (Nat.not_le.mpr h))

theorem applyCap_charge_le : (applyCap cap day c r).1 ≤ c := by
  rcases Nat.eq_zero_or_pos cap with rfl | hcap
  · exact Nat.le_refl c
  rcases Nat.lt_or_ge (r.arrived day) cap with h | h
  · rw [applyCap_below h]
    exact Nat.min_le_left ..
  · rw [applyCap_reached hcap.ne' h]
    exact Nat.zero_le c

/-- The law of the accumulator (R57). -/
theorem applyCap_acc_le (hcap : cap ≠ 0) :
    (applyCap cap day c r).2.2 ≤ cap ∨ ((applyCap cap day c r).2.2 = r.capAcc ∧ cap < r.capAcc) := by
  rcases Nat.lt_or_ge (r.arrived day) cap with h | h
  · rw [applyCap_below h]
    dsimp only
    omega
  · rw [applyCap_reached hcap h]
    dsimp only
    obtain hother | hday := r.arrived_eq day
    · exact .inl (hother ▸ Nat.zero_le cap)
    · omega

end Cap

/-! Stages 1 to 3 (R52 to R55). -/

section Stages

variable {q : PricingRequest} {b : Bank}

theorem journeyFare_le {base f d unit : Nat} : journeyFare base f d unit ≤ 65535 :=
  Nat.min_le_left ..

/-- The multiple of the rounding unit of R55 is the nearest to the exact value, the upper one at a tie. -/
theorem journeyFare_nearest {base f d unit : Nat} (hunit : 0 < unit) :
    ∃ n, journeyFare base f d unit = min 65535 (unit * n) ∧
      2 * base * f * (100 - d) < 100000 * unit * (2 * n + 1) ∧
      100000 * unit * (2 * n) ≤ 2 * base * f * (100 - d) + 100000 * unit := by
  refine ⟨_, rfl, ?_⟩
  generalize 2 * base * f * (100 - d) = value
  have hlower := Nat.mul_div_le (value + 100000 * unit) (200000 * unit)
  have hupper := Nat.lt_mul_div_succ (value + 100000 * unit) (show 0 < 200000 * unit by omega)
  generalize (value + 100000 * unit) / (200000 * unit) = n at hlower hupper
  constructor <;> linarith

theorem storedBand_eq (z1 z2 : Nat) : storedBand z1 z2 = if z1 ≤ z2 then z2 - z1 + 1 else z1 - z2 + 1 := by
  unfold storedBand
  split <;> rfl

/-- The zones of the interval that lie outside the pass (R53). -/
def passZones (z1 z2 low high : Nat) : List Nat :=
  ((List.range (max z1 z2 - min z1 z2 + 1)).map (· + min z1 z2)).filter fun z => decide (z < low ∨ z > high)

theorem passBand_eq_length (z1 z2 low high : Nat) : passBand z1 z2 low high = (passZones z1 z2 low high).length := rfl

theorem passZones_nodup (z1 z2 low high : Nat) : (passZones z1 z2 low high).Nodup :=
  (List.nodup_range.map fun _ _ h => Nat.add_right_cancel h).filter _

theorem mem_passZones {z1 z2 low high z : Nat} :
    z ∈ passZones z1 z2 low high ↔ (min z1 z2 ≤ z ∧ z ≤ max z1 z2) ∧ (z < low ∨ high < z) := by
  have hinterval : (∃ k, k < max z1 z2 - min z1 z2 + 1 ∧ k + min z1 z2 = z) ↔ min z1 z2 ≤ z ∧ z ≤ max z1 z2 :=
    ⟨fun ⟨k, hk, hz⟩ => by omega, fun h => ⟨z - min z1 z2, by omega, by omega⟩⟩
  simp only [passZones, List.mem_filter, List.mem_map, List.mem_range, hinterval, decide_eq_true_eq, gt_iff_lt]

/-- The fare of a band on a journey of the request (R54, R55). -/
def PricingRequest.bandFare (q : PricingRequest) (b : Bank) (band : Nat) : Nat :=
  journeyFare (b.fareOf band) (timeFactor b q.record.start) (b.profileOf q.profile).discount b.unitOf

theorem ordinaryFare_stored (hk : q.kind ≠ .periodPass) :
    ordinaryFare q b = q.bandFare b (storedBand (b.zoneOf q.record.origin) (b.zoneOf q.station)) := by
  simp only [ordinaryFare, if_neg hk]
  exact if_neg (Nat.succ_ne_zero _)

theorem ordinaryFare_pass (hk : q.kind = .periodPass) :
    let zones := passZones (b.zoneOf q.record.origin) (b.zoneOf q.station) q.area.zoneLow.toNat q.area.zoneHigh.toNat
    ordinaryFare q b = if zones = [] then 0 else q.bandFare b zones.length := by
  simp only [ordinaryFare, if_pos hk, passBand_eq_length, List.length_eq_zero_iff]
  rfl

theorem ordinaryFare_le : ordinaryFare q b ≤ 65535 := by
  by_cases hk : q.kind = .periodPass
  · rw [ordinaryFare_pass hk]
    split
    · exact Nat.zero_le _
    · exact journeyFare_le
  · rw [ordinaryFare_stored hk]
    exact journeyFare_le

end Stages

/-! What a bank with its sections gives (R54, R76). -/

section Bank

variable {b : Bank}

theorem Bank.ruleSet_some {rules : Rules} (h : b.rules = some rules) : b.ruleSet = rules := by
  simp only [Bank.ruleSet, h, Option.getD_some]

theorem Bank.zoneOf_some {zones : List Nat} (h : b.stations = some zones) (station : Nat) :
    b.zoneOf station = zones.getD station 0 := by
  simp only [Bank.zoneOf, h, Option.getD_some]

theorem Bank.profileOf_some {profiles : List Profile} {profile : Profile} {k : Nat} (h : b.profiles = some profiles)
    (hk : profiles[k]? = some profile) : b.profileOf k = profile := by
  simp only [Bank.profileOf, h, Option.getD_some, List.getD_eq_getElem?_getD, hk]

theorem PricingRequest.bandFare_some {q : PricingRequest} {bands : BandTable} (h : b.bands = some bands) (band : Nat) :
    q.bandFare b band =
      journeyFare (bands.fares.getD (band - 1) 0) (if isPeak b q.record.start then bands.peak else bands.offPeak)
        (b.profileOf q.profile).discount bands.unit := by
  simp only [PricingRequest.bandFare, Bank.fareOf, timeFactor, Bank.unitOf, h]

/-- The windows of a service day, by the day type of its weekday and the holiday list (R86). -/
theorem Bank.windowsOf_dayTypeOf {peaks : PeakWindows} (h : b.peaks = some peaks) (holidays : List Nat) (day : Nat) :
    b.windowsOf (dayTypeOf holidays day) =
      if day ∈ holidays ∨ (day + 5) % 7 = 6 then peaks.sundayHoliday
      else if (day + 5) % 7 = 5 then peaks.saturday else peaks.weekday := by
  unfold dayTypeOf weekday
  split
  · simp only [Bank.windowsOf, h]
  split
  · simp only [Bank.windowsOf, h]
  · simp only [Bank.windowsOf, h]

theorem isPeak_some {peaks : PeakWindows} {rules : Rules} {holidays : List Nat} (hp : b.peaks = some peaks)
    (hr : b.rules = some rules) (hh : b.holidays = some holidays) (start : Nat) :
    let day := (start - rules.boundary) / 1440
    isPeak b start =
      (if day ∈ holidays ∨ (day + 5) % 7 = 6 then peaks.sundayHoliday
        else if (day + 5) % 7 = 5 then peaks.saturday else peaks.weekday).any
        fun w => decide (w.1 ≤ start % 1440 ∧ start % 1440 < w.2) := by
  simp only [isPeak, Bank.ruleSet_some hr, Bank.holidayList, hh, Option.getD_some, serviceDay, Bank.windowsOf_dayTypeOf hp]

end Bank

end Sys2Proof.Machine
end

section
/-! The statements on the fare calculator (R51 to R73). -/

namespace Sys2Proof.Machine

/-- Every charge lies in 0 to 65,535 where the charges of the tariff do (R58). -/
theorem priceCase_charge_le {q : PricingRequest} {b : Bank} {p : Option FreePeriod} (hi : b.ruleSet.incompleteCharge ≤ 65535)
    (hu : b.ruleSet.unenteredCharge ≤ 65535) (hs : b.ruleSet.sameStationCharge ≤ 65535) : (priceCase q b p).charge ≤ 65535 := by
  obtain ⟨c, kind, ⟨hc, -⟩, hcapped⟩ | hkept := priceCase_cases (q := q) (b := b) (p := p)
  · have hle : c ≤ 65535 := by
      obtain rfl | rfl := List.mem_pair.mp hc
      · exact (Nat.sub_le ..).trans ordinaryFare_le
      · exact hs
    rw [hcapped]
    exact applyCap_charge_le.trans hle
  · have hpenalty : penalty q b ≤ 65535 := (Nat.sub_le ..).trans hi
    have hcharge := hkept.charge
    omega

/-- Settles O24: the order of the decisions, then the classification of the tap, and the figures of each stage. -/
theorem fareFigures : Obligations.FareFigures := by
  refine ⟨?cases, ?kept, fun base f d unit hunit _ => journeyFare_nearest hunit, ?stages⟩
  case cases =>
    intro q b p old rules now day
    refine ⟨price_staff b p, price_noTariff, price_cardExhausted, fun hz hc hk hd => ?invalid, fun hk hz hc hv => ?priced⟩
    case invalid =>
      refine price_passInvalid hz hc hk fun hv => ?_
      obtain ⟨hfrom, hto⟩ := passValid_iff.mp hv
      exact hd.elim (Nat.not_lt.mpr hfrom) (Nat.not_lt.mpr hto)
    case priced =>
      intro copied result capped started lost continues covers breaks same
      have hprice : price q b p = q.judge b (priceCase q b p) := price_judged hk hz hc fun h => passValid_iff.mpr (hv h)
      have hentry (hs : q.side = .a) : price q b p = q.judge b (priceEntry q b) := by rw [hprice, priceCase, hs]
      have hexit (hs : q.side = .b) : price q b p = q.judge b (priceExit q b p) := by rw [hprice, priceCase, hs]
      refine ⟨fun hs hj => ?incomplete, fun hs hj hcont => ?continuation, fun hs hj => ?new, fun hs hj hcov => ?free,
        fun hs hj hcov => ?unentered, fun hs hj hb => ⟨fun ho => ?undefined, fun ho hsame => ?same, fun ho hsame => ?ordinary⟩⟩
      case incomplete => rw [hentry hs, priceEntry, entryCase_opened hj]; rfl
      case continuation => rw [hentry hs, priceEntry, entryCase_continues hj hcont]; rfl
      case new => rw [hentry hs, priceEntry, entryCase_new hj]; rfl
      case free => rw [hexit hs, priceExit, exitCase_free hj hcov]; rfl
      case unentered => rw [hexit hs, priceExit, exitCase_unentered hj hcov]; rfl
      case undefined => rw [hexit hs, priceExit, exitCase_undefinedOrigin hj hb ho]; rfl
      case same => rw [hexit hs, priceExit, exitCase_sameStation hj hb ho hsame]; rfl
      case ordinary => rw [hexit hs, priceExit, exitCase_ordinary hj hb ho hsame]; rfl
  case kept =>
    intro q b p r f h
    obtain ⟨rfl, rfl, hpurse⟩ := price_write h
    exact ⟨priceCase_charge_le, priceCase_counter, rfl, priceCase_counter.symm, priceCase_purse, rfl, hpurse⟩
  case stages =>
    intro q b zoneTable bands peaks profiles rules holidays profile hz hb hp hf hr hh hq z1 z2 start day windows peak fareOfBand outside
    have hprofile := Bank.profileOf_some hf hq
    have hzone := Bank.zoneOf_some hz
    have hfare (band : Nat) : q.bandFare b band = fareOfBand band := by
      rw [PricingRequest.bandFare_some hb, isPeak_some hp hr hh, hprofile]
    refine ⟨Bank.ruleSet_some hr, hprofile, hzone, fun hk => ?stored, fun hk => ?pass⟩
    case stored => rw [ordinaryFare_stored hk, hfare, storedBand_eq, hzone, hzone]
    case pass =>
      refine ⟨passZones z1 z2 q.area.zoneLow.toNat q.area.zoneHigh.toNat, passZones_nodup .., fun z => mem_passZones, ?_⟩
      simp only [ordinaryFare_pass hk, hfare, hzone]
      rfl

/-- Settles O25: the cases that go through stage 5 and those that do not, and the figures of stage 5 by the accumulator on arrival. -/
theorem fareCap : Obligations.FareCap := by
  refine ⟨?records, ?figures⟩
  case records =>
    intro q b p r f h cap
    obtain ⟨rfl, rfl, -⟩ := price_write h
    obtain ⟨c, kind, ⟨hc, hkind⟩, hcapped⟩ | hkept := priceCase_cases (q := q) (b := b) (p := p)
    · rw [hcapped]
      exact ⟨fun _ => ⟨c, hc, rfl⟩, fun hnot => absurd hkind hnot, applyCap_acc_le⟩
    · refine ⟨fun hkind => absurd hkind hkept.kind, fun _ => ⟨hkept.capDay, hkept.capAcc⟩, fun _ => ?_⟩
      rw [hkept.capAcc]
      exact (Nat.lt_or_ge cap q.record.capAcc).symm.imp id fun hover => ⟨rfl, hover⟩
  case figures =>
    intro cap day c r out arrived
    refine ⟨applyCap_day, fun hcap => ?uncapped, fun hcap hreached => ?reached, fun hbelow => ?below⟩
    case uncapped =>
      subst hcap
      exact ⟨rfl, rfl⟩
    case reached =>
      have hout : out = (0, day, arrived) := applyCap_reached hcap hreached
      exact ⟨congrArg Prod.fst hout, congrArg (·.2.2) hout⟩
    case below =>
      have hout : out = (min c (cap - arrived), day, arrived + min c (cap - arrived)) := applyCap_below hbelow
      rw [hout]
      exact ⟨rfl, rfl, by dsimp only; omega⟩

end Sys2Proof.Machine
end

section
/-! The requests on the STANDBY bank's activation and on the key table (R77, R80, R83), and the reply to an owner that leaves the port as
it is. -/

namespace Sys2Proof.Machine

/-! The reply to an owner's answer (R175, R185). -/

/-- A request whose owner turns `s` into `v` and leaves the port as it is. The owners here give fields with OK alone (R185). -/
theorem State.request_reply {s v : State} {tag : Byte} {r : Request} {a : Answer} (h : s.port.ready) (hj : r.judged = r)
    (hk : ∀ k, r ≠ .unknownKind k) (hport : v.port = s.port) (hf : a.result = .ok ∨ a.fields = [])
    (hc : (s.atOwner tag r).carry r = ({ v with port := (s.atOwner tag r).port }, some a)) :
    s.request tag r = v.reply r.kind tag a.result a.fields := by
  have hfields : (if a.result = .ok ∨ a.result = .clamped then a.fields else []) = a.fields := by
    rcases hf with hok | hnil
    · rw [if_pos (.inl hok)]
    · rw [hnil, ite_self]
  have hreply : r.reply tag a.result a.fields = { kind := r.kind + 0x80, tag := tag, result := a.result, fields := a.fields } := by
    cases r with
    | unknownKind k => exact absurd rfl (hk k)
    | _ => simp only [Request.reply, Request.replyKind, hfields]
  have hanswered := State.request_answered h ((congrArg (s.atOwner tag r).carry hj).trans hc) rfl
  rw [hanswered, hj, hreply, State.reply, hport]

/-- The second answer is the first one given on another port, and a refusal carries no fields (R185). -/
def SameAnswer (p : Port) (x y : State × Answer) : Prop :=
  y = ({ x.1 with port := p }, x.2) ∧ (x.2.result = .ok ∨ x.2.fields = [])

theorem SameAnswer.no {s : State} {p : Port} {result : Result} : SameAnswer p (s.no result) (State.no { s with port := p } result) :=
  ⟨rfl, .inr rfl⟩

theorem SameAnswer.ok {s : State} {p : Port} {fields : List Byte} : SameAnswer p (s.ok fields) (State.ok { s with port := p } fields) :=
  ⟨rfl, .inl rfl⟩

theorem SameAnswer.ite {p : Port} {x y x' y' : State × Answer} {c : Prop} [Decidable c] (h : SameAnswer p x y)
    (h' : SameAnswer p x' y') : SameAnswer p (if c then x else x') (if c then y else y') := by
  split
  · exact h
  · exact h'

/-- An owner that neither reads nor writes the port. -/
def State.PortFree (owner : State → State × Answer) : Prop :=
  ∀ s p, SameAnswer p (owner s) (owner { s with port := p })

/-- The state with an owner's answer as its reply. -/
def State.replied (x : State × Answer) (kind tag : Byte) : State :=
  x.1.reply kind tag x.2.result x.2.fields

theorem State.replied_ite (x y : State × Answer) (kind tag : Byte) (c : Prop) [Decidable c] :
    State.replied (if c then x else y) kind tag = if c then State.replied x kind tag else State.replied y kind tag :=
  apply_ite (State.replied · kind tag) c x y

theorem State.request_portFree {s : State} {tag : Byte} {r : Request} {owner : State → State × Answer} (h : s.port.ready)
    (ho : State.PortFree owner) (hc : ∀ u : State, u.carry r = answered (owner u)) (hj : r.judged = r)
    (hk : ∀ k, r ≠ .unknownKind k) : s.request tag r = State.replied (owner s) r.kind tag := by
  have hport : (owner s).1.port = s.port := (congrArg (·.1.port) (ho s s.port).1 :)
  refine State.request_reply h hj hk hport (ho s s.port).2 ((hc _).trans ?_)
  exact congrArg answered (ho s _).1

/-! TARIFF_ACTIVATE and TARIFF_DISCARD (R77, R80). -/

theorem State.tariffActivate_portFree (version day : Nat) : State.PortFree (·.tariffActivate version day) :=
  fun _ _ => .ite .no (.ite .no (.ite .no (.ite .ok .no)))

theorem State.tariffDiscard_portFree : State.PortFree State.tariffDiscard :=
  fun _ _ => .ite .no .ok

theorem exec_tariffActivate {s : State} (h : s.port.ready) (tag : Byte) (version day : Nat) :
    exec (.tariffActivate tag version day) s = .next (State.replied (s.tariffActivate version day) 0x0C tag) :=
  congrArg Host.Outcome.next (State.request_portFree h (State.tariffActivate_portFree version day) (fun _ => rfl) rfl nofun)

theorem exec_tariffDiscard {s : State} (h : s.port.ready) (tag : Byte) :
    exec (.tariffDiscard tag) s = .next (State.replied s.tariffDiscard 0x0D tag) :=
  congrArg Host.Outcome.next (State.request_portFree h State.tariffDiscard_portFree (fun _ => rfl) rfl nofun)

/-- A bank lacks one of its seven sections (R77 step 4). -/
theorem Bank.complete_eq_false_iff (b : Bank) :
    ¬b.complete = true ↔ b.stations = none ∨ b.bands = none ∨ b.peaks = none ∨ b.profiles = none ∨ b.rules = none ∨
      b.holidays = none ∨ b.products = none := by
  simp only [Bank.complete, Bool.and_eq_true, not_and_or, Option.not_isSome_iff_eq_none, or_assoc]

/-! KEY_LOAD and KEY_ERASE (R83). -/

theorem State.keyLoad_portFree (n : Nat) (k : Key) : State.PortFree (·.keyLoad n k) :=
  fun _ _ => .ite .no .ok

theorem State.keyErase_portFree (n : Nat) : State.PortFree (·.keyErase n) :=
  fun _ _ => .ite .no (.ite .ok .no)

theorem exec_keyLoad {s : State} (h : s.port.ready) (tag : Byte) (n : Nat) (k : Key) :
    exec (.keyLoad tag n k) s = .next (State.replied (s.keyLoad n k) 0x0E tag) :=
  congrArg Host.Outcome.next (State.request_portFree h (State.keyLoad_portFree n k) (fun _ => rfl) rfl nofun)

theorem exec_keyErase {s : State} (h : s.port.ready) (tag : Byte) (n : Nat) :
    exec (.keyErase tag n) s = .next (State.replied (s.keyErase n) 0x0F tag) :=
  congrArg Host.Outcome.next (State.request_portFree h (State.keyErase_portFree n) (fun _ => rfl) rfl nofun)

/-- Settles O27: each owner's tests in its order, replied to one by one. -/
theorem tariffAndKeyRequests : Obligations.TariffAndKeyRequests := by
  refine ⟨fun s tag h => ⟨fun version day hversion => ?activate, ?discard⟩, fun s tag n k h => ⟨?load, ?erase⟩⟩
  case activate =>
    rw [exec_tariffActivate h, State.tariffActivate, State.replied_ite, State.replied_ite, State.replied_ite, State.replied_ite]
    refine congrArg Host.Outcome.next (if_congr Iff.rfl rfl (if_congr ?_ rfl (if_congr Iff.rfl rfl ?_)))
    · simp only [Nat.not_lt.mpr hversion, or_false]
    · exact (ite_not ..).symm.trans (if_congr (Bank.complete_eq_false_iff _) rfl rfl)
  case discard =>
    rw [exec_tariffDiscard h, State.tariffDiscard, State.replied_ite]
    rfl
  case load =>
    rw [exec_keyLoad h, State.keyLoad, State.replied_ite]
    rfl
  case erase =>
    rw [exec_keyErase h, State.keyErase, State.replied_ite, State.replied_ite]
    refine congrArg Host.Outcome.next (if_congr Iff.rfl rfl ?_)
    exact (ite_not ..).symm.trans (if_congr Option.not_isSome_iff_eq_none rfl rfl)

end Sys2Proof.Machine
end

section
/-! TARIFF_LOAD: the sections of a tariff read from their contents (R75, R76, R189). -/

namespace Sys2Proof.Machine

/-! Fields of a part of the contents (R184). -/

theorem fieldAt_drop (k n m : Nat) (l : List Byte) : fieldAt k m (l.drop n) = fieldAt (n + k) m l := by
  simp only [fieldAt, List.drop_drop]

theorem fieldAt_take {k n m : Nat} (l : List Byte) (h : k + m ≤ n) : fieldAt k m (l.take n) = fieldAt k m l := by
  simp only [fieldAt, List.drop_take, List.take_take, Nat.min_eq_left (show m ≤ n - k by omega)]

/-! What a parser answers, and lists that are read piece by piece. -/

/-- A parser's answer: `x` where every value lies within its range, and nothing otherwise. -/
def Parses (o : Option α) (fits : Prop) (x : α) : Prop :=
  (fits → o = some x) ∧ (¬fits → o = none)

theorem Parses.ite {fits : Prop} [Decidable fits] {x : α} : Parses (if fits then some x else none) fits x :=
  ⟨fun h => if_pos h, fun h => if_neg h⟩

theorem Parses.map {o : Option α} {fits : Prop} {x : α} (h : Parses o fits x) (f : α → β) : Parses (o.map f) fits (f x) :=
  ⟨fun hfit => by rw [h.1 hfit, Option.map_some], fun hnot => by rw [h.2 hnot, Option.map_none]⟩

theorem Parses.congr {o : Option α} {fits fits' : Prop} {x x' : α} (h : Parses o fits x) (hfits : fits' ↔ fits) (hx : fits → x' = x) :
    Parses o fits' x' :=
  ⟨fun hfit => by rw [h.1 (hfits.mp hfit), hx (hfits.mp hfit)], fun hnot => h.2 (hnot ∘ hfits.mpr)⟩

/-- The first of the pieces of `n` bytes, and the pieces of the rest. -/
theorem map_range_succ_pieces (g : List Byte → α) (n m : Nat) (l : List Byte) :
    ((List.range (m + 1)).map fun k => g (l.drop (n * k))) = g l :: (List.range m).map fun k => g ((l.drop n).drop (n * k)) := by
  rw [List.range_succ_eq_map, List.map_cons, List.map_map, Nat.mul_zero, List.drop_zero]
  refine congrArg (g l :: ·) (List.map_congr_left fun k _ => ?_)
  rw [Function.comp, List.drop_drop, Nat.mul_succ, Nat.add_comm]

/-- A list that is read piece by piece, whatever the pieces hold. -/
theorem eq_map_pieces {f : List Byte → List α} {g : List Byte → α} {n m : Nat} {l : List Byte} (hl : l.length = n * m)
    (hnil : f [] = []) (hpiece : ∀ l, n ≤ l.length → f l = g l :: f (l.drop n)) :
    f l = (List.range m).map fun k => g (l.drop (n * k)) := by
  induction m generalizing l with
  | zero => rw [List.eq_nil_of_length_eq_zero hl, hnil, List.range_zero, List.map_nil]
  | succ m ih =>
    rw [Nat.mul_succ] at hl
    rw [hpiece l (by omega), ih (by rw [List.length_drop]; omega), map_range_succ_pieces]

/-- A list that is read piece by piece, where each piece is judged. -/
theorem parses_pieces {f : Nat → List Byte → Option (List α)} {fits : List Byte → Prop} {g : List Byte → α} {n m : Nat}
    {l : List Byte} (hl : l.length = n * m) (hnil : f 0 [] = some [])
    (hpiece : ∀ m l rest xs, n ≤ l.length → Parses (f m (l.drop n)) rest xs → Parses (f (m + 1) l) (fits l ∧ rest) (g l :: xs)) :
    Parses (f m l) (∀ k < m, fits (l.drop (n * k))) ((List.range m).map fun k => g (l.drop (n * k))) := by
  induction m generalizing l with
  | zero =>
    rw [List.eq_nil_of_length_eq_zero hl, hnil]
    exact ⟨fun _ => rfl, fun hnot => absurd (fun k hk => absurd hk (Nat.not_lt_zero k)) hnot⟩
  | succ m ih =>
    rw [Nat.mul_succ] at hl
    refine (hpiece m l _ _ (by omega) (ih (by rw [List.length_drop]; omega))).congr ?_ fun _ => map_range_succ_pieces g n m l
    simp only [Nat.forall_lt_succ_left, Nat.mul_zero, List.drop_zero, List.drop_drop, Nat.mul_succ, Nat.add_comm]

theorem byteNumbers_eq {n : Nat} {l : List Byte} (h : l.length = n) :
    byteNumbers l = (List.range n).map fun k => fieldAt k 1 l := by
  have hpieces := eq_map_pieces (f := byteNumbers) (g := fieldAt 0 1) (h.trans (Nat.one_mul n).symm) rfl fun
    | b :: rest, _ => by simp [byteNumbers, fieldAt, beNat]
  simpa only [fieldAt_drop, Nat.one_mul, Nat.add_zero] using hpieces

theorem wordNumbers_eq {n : Nat} {l : List Byte} (h : l.length = 2 * n) :
    wordNumbers l = (List.range n).map fun k => fieldAt (2 * k) 2 l := by
  have hpieces := eq_map_pieces (f := wordNumbers) (g := fieldAt 0 2) h rfl fun
    | _ :: _ :: _, _ => rfl
  simpa only [fieldAt_drop, Nat.add_zero] using hpieces

theorem windowPairs_eq {n : Nat} {l : List Byte} (h : l.length = 4 * n) :
    windowPairs (wordNumbers l) = (List.range n).map fun k => (fieldAt (4 * k) 2 l, fieldAt (4 * k + 2) 2 l) := by
  have hpieces := eq_map_pieces (f := fun l => windowPairs (wordNumbers l)) (g := fun l => (fieldAt 0 2 l, fieldAt 2 2 l)) h rfl fun
    | _ :: _ :: _ :: _ :: _, _ => rfl
  simpa only [fieldAt_drop, Nat.add_zero] using hpieces

/-! The seven sections (R76, R189). -/

section Sections

variable {l : List Byte}

theorem parseStations_parses (h : l.length = 256) :
    Parses (parseStations l) (∀ k < 256, fieldAt k 1 l ≤ 15) ((List.range 256).map fun k => fieldAt k 1 l) := by
  refine Parses.ite.congr ?_ fun _ => (byteNumbers_eq h).symm
  simp [byteNumbers_eq h]

theorem parseBands_parses (h : l.length = 35) :
    Parses (parseBands l)
      ((500 ≤ fieldAt 30 2 l ∧ fieldAt 30 2 l ≤ 3000) ∧ (500 ≤ fieldAt 32 2 l ∧ fieldAt 32 2 l ≤ 3000) ∧
        fieldAt 34 1 l ∈ [1, 2, 5, 10, 50])
      { fares := (List.range 15).map fun k => fieldAt (2 * k) 2 l, peak := fieldAt 30 2 l, offPeak := fieldAt 32 2 l
        unit := fieldAt 34 1 l } := by
  have hfares : wordNumbers (l.take 30) = (List.range 15).map fun k => fieldAt (2 * k) 2 l := by
    rw [wordNumbers_eq (n := 15) (by simp [h])]
    refine List.map_congr_left fun k hk => fieldAt_take l ?_
    have := List.mem_range.mp hk
    omega
  refine Parses.ite.congr (by simp) fun _ => ?_
  rw [hfares]

/-- The windows of one day type, which begin at offset `k` of the contents (R189). -/
def windowsAt (k : Nat) (l : List Byte) : List (Nat × Nat) :=
  (List.range (fieldAt k 1 l)).map fun m => (fieldAt (k + 1 + 4 * m) 2 l, fieldAt (k + 3 + 4 * m) 2 l)

/-- The windows at offset `k` are at most 4 and lie within their ranges (R76). -/
def WindowsFit (k : Nat) (l : List Byte) : Prop :=
  fieldAt k 1 l ≤ 4 ∧ ∀ w ∈ windowsAt k l, w.1 ≤ 1439 ∧ w.2 ≤ 1440 ∧ w.1 < w.2

theorem parseWindows_parses (h : l.length = 17) : Parses (parseWindows l) (WindowsFit 0 l) (windowsAt 0 l) := by
  have hwindows (hcount : fieldAt 0 1 l ≤ 4) :
      (windowPairs (wordNumbers (l.drop 1))).take (fieldAt 0 1 l) = windowsAt 0 l := by
    rw [windowPairs_eq (n := 4) (by simp [h]), ← List.map_take, List.take_range, Nat.min_eq_left hcount]
    refine List.map_congr_left fun m _ => ?_
    rw [fieldAt_drop, fieldAt_drop]
    congr 2
    omega
  refine Parses.ite.congr (and_congr_right fun hcount => ?_) fun hfit => (hwindows hfit.1).symm
  rw [hwindows hcount]
  simp

/-- The 17 bytes of one day type among the contents. -/
theorem parseWindows_part {k : Nat} (h : k + 17 ≤ l.length) :
    Parses (parseWindows ((l.drop k).take 17)) (WindowsFit k l) (windowsAt k l) := by
  have hfield {i n : Nat} (hi : i + n ≤ 17) : fieldAt i n ((l.drop k).take 17) = fieldAt (k + i) n l := by
    rw [fieldAt_take _ hi, fieldAt_drop]
  have hcount : fieldAt 0 1 ((l.drop k).take 17) = fieldAt k 1 l := hfield (by decide)
  have hwindows (hle : fieldAt k 1 l ≤ 4) : windowsAt k l = windowsAt 0 ((l.drop k).take 17) := by
    rw [windowsAt, windowsAt, hcount]
    refine List.map_congr_left fun m hm => ?_
    have := List.mem_range.mp hm
    rw [hfield (by omega), hfield (by omega)]
    congr 2 <;> omega
  refine (parseWindows_parses (by simp; omega)).congr ?_ fun hfit => hwindows (hcount ▸ hfit.1)
  rw [WindowsFit, WindowsFit, hcount]
  exact and_congr_right fun hle => by rw [hwindows hle]

theorem parsePeaks_parses (h : l.length = 51) :
    Parses (parsePeaks l) (WindowsFit 0 l ∧ WindowsFit 17 l ∧ WindowsFit 34 l)
      { weekday := windowsAt 0 l, saturday := windowsAt 17 l, sundayHoliday := windowsAt 34 l } := by
  have hweekday := parseWindows_part (l := l) (k := 0) (by omega)
  have hsaturday := parseWindows_part (l := l) (k := 17) (by omega)
  have hsunday := parseWindows_part (l := l) (k := 34) (by omega)
  rw [List.drop_zero] at hweekday
  rw [List.take_of_length_le (by simp [h])] at hsunday
  refine ⟨fun ⟨h0, h17, h34⟩ => ?fit, fun hnot => ?outside⟩
  case fit => simp only [parsePeaks, hweekday.1 h0, hsaturday.1 h17, hsunday.1 h34]
  case outside =>
    by_cases h0 : WindowsFit 0 l
    · by_cases h17 : WindowsFit 17 l
      · simp only [parsePeaks, hweekday.1 h0, hsaturday.1 h17, hsunday.2 fun h34 => hnot ⟨h0, h17, h34⟩]
      · simp only [parsePeaks, hweekday.1 h0, hsaturday.2 h17]
    · simp only [parsePeaks, hweekday.2 h0]

theorem parseProfiles_parses (h : l.length = 5 * 8) :
    Parses (parseProfiles 8 l) (∀ k < 8, fieldAt (5 * k) 1 l ≤ 100)
      ((List.range 8).map fun k =>
        { discount := fieldAt (5 * k) 1 l, cap := fieldAt (5 * k + 1) 2 l, entryMinimum := fieldAt (5 * k + 3) 2 l }) := by
  have hpieces := parses_pieces (f := parseProfiles) (fits := fun l => fieldAt 0 1 l ≤ 100)
    (g := fun l => { discount := fieldAt 0 1 l, cap := fieldAt 1 2 l, entryMinimum := fieldAt 3 2 l }) h rfl
    fun m l rest xs _ hrest => ⟨fun ⟨hfit, hall⟩ => ?fit, fun hnot => ?outside⟩
  case fit => simp only [parseProfiles, hrest.1 hall, if_pos hfit]
  case outside =>
    by_cases hall : rest
    · simp only [parseProfiles, hrest.1 hall, if_neg fun hfit => hnot ⟨hfit, hall⟩]
    · simp only [parseProfiles, hrest.2 hall]
  simpa only [fieldAt_drop, Nat.add_zero] using hpieces

theorem Rules.inRange_iff (r : Rules) :
    r.inRange = true ↔ r.transferWindow ≤ 180 ∧ r.reentryGrace ≤ 600 ∧ r.sameStationWindow ≤ 60 ∧ r.freeExitWindow ≤ 120 ∧
      r.overdraft ≤ 5000 ∧ r.boundary ≤ 359 := by
  simp [Rules.inRange, and_assoc]

/-- The rules of section 5 as its layout places them (R189). -/
def rulesAt (l : List Byte) : Rules :=
  { transferWindow := fieldAt 0 1 l, reentryGrace := fieldAt 1 2 l, sameStationWindow := fieldAt 3 1 l
    sameStationCharge := fieldAt 4 2 l, incompleteCharge := fieldAt 6 2 l, unenteredCharge := fieldAt 8 2 l
    freeExitWindow := fieldAt 10 1 l, overdraft := fieldAt 11 2 l, boundary := fieldAt 13 2 l }

theorem parseRules_parses :
    Parses (parseRules l)
      (fieldAt 0 1 l ≤ 180 ∧ fieldAt 1 2 l ≤ 600 ∧ fieldAt 3 1 l ≤ 60 ∧ fieldAt 10 1 l ≤ 120 ∧ fieldAt 11 2 l ≤ 5000 ∧
        fieldAt 13 2 l ≤ 359)
      (rulesAt l) :=
  Parses.ite.congr (rulesAt l).inRange_iff.symm fun _ => rfl

theorem parseHolidays_parses (h : l.length = 65) :
    Parses (parseHolidays l) (fieldAt 0 1 l ≤ 32 ∧ ∀ k < fieldAt 0 1 l, fieldAt (1 + 2 * k) 2 l ≤ 36524)
      ((List.range (fieldAt 0 1 l)).map fun k => fieldAt (1 + 2 * k) 2 l) := by
  have hdays (hcount : fieldAt 0 1 l ≤ 32) :
      (wordNumbers (l.drop 1)).take (fieldAt 0 1 l) = (List.range (fieldAt 0 1 l)).map fun k => fieldAt (1 + 2 * k) 2 l := by
    rw [wordNumbers_eq (n := 32) (by simp [h]), ← List.map_take, List.take_range, Nat.min_eq_left hcount]
    exact List.map_congr_left fun k _ => fieldAt_drop ..
  refine Parses.ite.congr (and_congr_right fun hcount => ?_) fun hfit => (hdays hfit.1).symm
  rw [hdays hcount]
  simp

/-- The kinds of products in the order of their codes (section 11.1). -/
def productKinds : List ProductKind :=
  [.unmapped, .storedValue, .periodPass, .staff]

theorem productOfCode_parses (c : Nat) :
    Parses (productOfCode c) (c < 4) (productKinds.getD c .unmapped) := by
  refine ⟨fun hlt => ?_, fun hge => ?_⟩
  · interval_cases c <;> rfl
  · rw [productOfCode, if_neg (by omega), if_neg (by omega), if_neg (by omega), if_neg (by omega)]

theorem parseProducts_parses (h : l.length = 2 * 32) :
    Parses (parseProducts l) (∀ k < 32, fieldAt (2 * k) 1 l < 4 ∧ fieldAt (2 * k + 1) 1 l ≤ 7)
      ((List.range 32).map fun k =>
        (productKinds.getD (fieldAt (2 * k) 1 l) .unmapped, fieldAt (2 * k + 1) 1 l)) := by
  have hpieces := parses_pieces (f := fun _ l => parseProducts l) (fits := fun l => fieldAt 0 1 l < 4 ∧ fieldAt 1 1 l ≤ 7)
    (g := fun l => (productKinds.getD (fieldAt 0 1 l) .unmapped, fieldAt 1 1 l)) h rfl fun _ l rest xs hlen hrest => ?piece
  case piece =>
    match l, hlen with
    | k :: p :: rest', _ =>
      have hk : fieldAt 0 1 (k :: p :: rest') = k.toNat := by simp [fieldAt, beNat]
      have hp : fieldAt 1 1 (k :: p :: rest') = p.toNat := by simp [fieldAt, beNat]
      have hkind := productOfCode_parses k.toNat
      have hrest : Parses (parseProducts rest') rest xs := hrest
      rw [hk, hp]
      refine ⟨fun ⟨⟨hcode, hprofile⟩, hall⟩ => ?fit, fun hnot => ?outside⟩
      case fit => simp only [parseProducts, hkind.1 hcode, hrest.1 hall, if_pos hprofile]
      case outside =>
        by_cases hcode : k.toNat < 4
        · by_cases hall : rest
          · simp only [parseProducts, hkind.1 hcode, hrest.1 hall, if_neg fun hprofile => hnot ⟨⟨hcode, hprofile⟩, hall⟩]
          · simp only [parseProducts, hkind.1 hcode, hrest.2 hall]
        · simp only [parseProducts, hkind.2 hcode]
  simpa only [fieldAt_drop, Nat.add_zero] using hpieces

end Sections

/-! TARIFF_LOAD in its order (R75). -/

theorem sectionLength_of_mem {n : Nat} (h : n ∈ [1, 2, 3, 4, 5, 6, 7]) :
    ∃ len, sectionLength n = some len ∧ [256, 35, 51, 40, 15, 65, 64][n - 1]? = some len := by
  simp only [List.mem_cons, List.not_mem_nil, or_false] at h
  rcases h with rfl | rfl | rfl | rfl | rfl | rfl | rfl <;> exact ⟨_, rfl, rfl⟩

theorem sectionLength_of_notMem {n : Nat} (h : n ∉ [1, 2, 3, 4, 5, 6, 7]) : sectionLength n = none := by
  simp only [List.mem_cons, List.not_mem_nil, or_false, not_or] at h
  simp only [sectionLength, h, if_false]

/-- The STANDBY bank that a load works on: INVALID and without a version (R75 step 5). -/
def Bank.opened (b : Bank) : Bank :=
  { b with version := none, valid := false }

theorem State.tariffLoad_portFree (n : Nat) (contents : List Byte) : State.PortFree (·.tariffLoad n contents) := by
  intro s p
  refine .ite .no (.ite .no ?_)
  dsimp only
  cases sectionLength n with
  | none => exact .no
  | some len =>
    refine .ite ?_ .no
    cases Bank.loadSection _ n contents with
    | none => exact .no
    | some b => exact .ok

theorem exec_tariffLoad {s : State} (h : s.port.ready) (tag : Byte) (n : Nat) {contents : List Byte}
    (hlen : contents.length + 1 ∈ tariffLengths) :
    exec (.tariffLoad tag n contents) s = .next (State.replied (s.tariffLoad n contents) 0x0B tag) :=
  congrArg Host.Outcome.next
    (State.request_portFree h (State.tariffLoad_portFree n contents) (fun _ => rfl) (if_pos hlen) nofun)

section Load

variable {s : State} {n : Nat} {contents : List Byte}

theorem State.tariffLoad_pending (h : s.tariff.activation.isSome) : s.tariffLoad n contents = s.no .tariffPending :=
  if_pos h

theorem State.tariffLoad_pinned (ha : s.tariff.activation = none) (hp : s.tariff.pinned = true) :
    s.tariffLoad n contents = s.no .notNow := by
  rw [State.tariffLoad, ha, if_neg (by simp), if_pos hp]

theorem State.tariffLoad_unknownSection (ha : s.tariff.activation = none) (hp : s.tariff.pinned = false)
    (hn : sectionLength n = none) : s.tariffLoad n contents = s.no .badValue := by
  simp [State.tariffLoad, ha, hp, hn]

theorem State.tariffLoad_wrongLength {len : Nat} (ha : s.tariff.activation = none) (hp : s.tariff.pinned = false)
    (hn : sectionLength n = some len) (hlen : len ≠ contents.length) : s.tariffLoad n contents = s.no .badLength := by
  simp [State.tariffLoad, ha, hp, hn, hlen.symm]

theorem State.tariffLoad_loaded {loaded : Bank} (ha : s.tariff.activation = none) (hp : s.tariff.pinned = false)
    (hn : sectionLength n = some contents.length) (hload : s.tariff.standby.opened.loadSection n contents = some loaded) :
    s.tariffLoad n contents = (s.setStandby loaded).ok [] := by
  rw [Bank.opened] at hload
  simp [State.tariffLoad, ha, hp, hn, hload]

theorem State.tariffLoad_cleared (ha : s.tariff.activation = none) (hp : s.tariff.pinned = false)
    (hn : sectionLength n = some contents.length) (hload : s.tariff.standby.opened.loadSection n contents = none) :
    s.tariffLoad n contents = (s.setStandby (s.tariff.standby.opened.clearSection n)).no .badValue := by
  rw [Bank.opened] at hload ⊢
  simp [State.tariffLoad, ha, hp, hn, hload]

end Load

/-- Settles O26: the tests before the section in their order, and each section by what its parser answers. -/
theorem tariffLoad : Obligations.TariffLoad := by
  intro s tag n contents h hlen byte word bank answers judged windows windowsFit rules kinds
  have hexec {x : State × Answer} (hx : s.tariffLoad n contents = x) :
      exec (.tariffLoad tag n contents) s = .next (State.replied x 0x0B tag) :=
    hx ▸ exec_tariffLoad h tag n hlen
  refine ⟨fun ha => hexec (State.tariffLoad_pending ha), fun ha hp => hexec (State.tariffLoad_pinned ha hp), fun ha hp => ?_⟩
  have hjudged {number length : Nat} {fits : Prop} {loaded : Bank} (hsection : sectionLength number = some length)
      (hparses : contents.length = length → Parses (bank.loadSection number contents) fits loaded) :
      judged number length fits loaded (bank.clearSection number) := by
    rintro rfl rfl
    obtain ⟨hfit, hout⟩ := hparses rfl
    exact ⟨fun hfits => hexec (State.tariffLoad_loaded ha hp hsection (hfit hfits)),
      fun hnot => hexec (State.tariffLoad_cleared ha hp hsection (hout hnot))⟩
  refine ⟨fun hn => ?unknown, fun hn hwrong => ?wrongLength, ?stations, ?bands, ?peaks, ?profiles, ?rules, ?holidays, ?products⟩
  case unknown => exact hexec (State.tariffLoad_unknownSection ha hp (sectionLength_of_notMem hn))
  case wrongLength =>
    obtain ⟨len, hsection, hat⟩ := sectionLength_of_mem hn
    exact hexec (State.tariffLoad_wrongLength ha hp hsection fun heq => hwrong (heq ▸ hat))
  case stations => exact hjudged rfl fun hl => (parseStations_parses hl).map _
  case bands => exact hjudged rfl fun hl => (parseBands_parses hl).map _
  case peaks => exact hjudged rfl fun hl => (parsePeaks_parses hl).map _
  case profiles => exact hjudged rfl fun hl => (parseProfiles_parses hl).map _
  case rules => exact hjudged rfl fun _ => parseRules_parses.map _
  case holidays => exact hjudged rfl fun hl => (parseHolidays_parses hl).map _
  case products => exact hjudged rfl fun hl => (parseProducts_parses hl).map _

end Sys2Proof.Machine
end

section
/-! The advance of the clock and the swap of the tariff banks (R78, R79, R81, R85, R99, R109, R115). -/

namespace Sys2Proof.Machine

/-! A fault class of fixed response, raised or cleared (R155). -/

section Plain

variable {c : FaultClass} (s : State)

theorem State.faultNews_frame (c : FaultClass) (raised : Bool) : s.faultNews c raised = s.withBooks (s.faultNews c raised) := by
  rw [State.faultNews, State.appendUnreserved_frame]
  rfl

theorem State.faultNews_grows (c : FaultClass) (raised : Bool) : s.JournalGrows (s.faultNews c raised) :=
  s.appendUnreserved_grows _ _

theorem State.raisePlain_frame (hc : c ≠ .journal) :
    ∃ conds b, s.raisePlain c = ({ s with sup := { s.sup with conds := conds } } : State).withBooks b ∧
      (s.raisePlain c).sup.conds.get c ≠ .clear := by
  unfold State.raisePlain State.isRaised
  split
  next h => exact ⟨s.sup.conds, s, rfl, of_decide_eq_true h⟩
  · rw [State.faultNews_frame]
    refine ⟨s.sup.conds.set c (.raised s.now), _, rfl, ?_⟩
    rw [State.withBooks_get _ _ hc]
    simp [State.setCond]

theorem State.clearPlain_frame (c : FaultClass) :
    ∃ b, s.clearPlain c = ({ s with sup := { s.sup with conds := s.sup.conds.set c .clear } } : State).withBooks b := by
  unfold State.clearPlain State.isRaised
  split
  · exact ⟨_, State.faultNews_frame (s.setCond c false) c false⟩
  next h =>
    have hclear : s.sup.conds.get c = .clear := by simpa using h
    exact ⟨s, by rw [FaultConds.set_of_get hclear]; rfl⟩

theorem State.clearPlain_get (hc : c ≠ .journal) : (s.clearPlain c).sup.conds.get c = .clear := by
  obtain ⟨b, hb⟩ := s.clearPlain_frame c
  rw [hb, State.withBooks_get _ _ hc]
  exact FaultConds.get_set_self ..

theorem State.clearPlain_grows (c : FaultClass) : s.JournalGrows (s.clearPlain c) := by
  unfold State.clearPlain
  split
  · exact State.faultNews_grows (s.setCond c false) c false
  · exact .refl s

/-- An append with room is a record at the newest end (R165). -/
theorem State.appendUnreserved_made {s : State} (h : s.free > s.journal.reserved) (side : Option Side) (body : RecordBody) :
    s.journal.records ++ [s.journal.record s.now side body] <+: (s.appendUnreserved side body).journal.records := by
  rw [State.appendUnreserved, if_pos h]
  exact (State.afterAppend_grows (s.appendRaw s.now side body)).1

end Plain

/-! The swap (R78, R79). -/

section Swap

variable {s : State} {version day : Nat}

theorem State.swapDue_none (h : s.tariff.activation = none) : s.swapDue = false := by
  simp only [State.swapDue, h]

theorem State.swapDue_iff {t : Nat} (ha : s.tariff.activation = some (version, day)) (hc : s.tariff.clock = some t) :
    s.swapDue = true ↔ day = 0 ∨ day ≤ serviceDay s.boundary (t / 60) := by
  simp [State.swapDue, State.currentDay, State.now, minuteOf, ha, hc]

theorem State.swapTest_due (ha : s.tariff.activation = some (version, day)) (h : s.swapDue = true) :
    s.swapTest = s.swap version day := by
  simp only [State.swapTest, ha, h, if_true]

theorem State.swapTest_notDue (h : s.swapDue = false) : s.swapTest = s := by
  unfold State.swapTest
  split
  · rfl
  · rw [h]
    rfl

/-- The swap exchanges the banks, clears TARIFF if it is the first, and changes the books. -/
theorem State.swap_frame (s : State) (version day : Nat) :
    ∃ b, s.swap version day =
      ({ s.exchangeBanks with
          sup := { s.sup with conds := if s.tariff.active.valid then s.sup.conds else s.sup.conds.set .tariff .clear } } : State).withBooks
        b := by
  by_cases hvalid : s.tariff.active.valid = true
  all_goals simp only [State.swap, State.tariffActive, hvalid, if_true, Bool.false_eq_true, if_false]
  · exact ⟨_, State.appendUnreserved_frame ..⟩
  · rw [State.appendUnreserved_frame]
    obtain ⟨b, hb⟩ := (s.exchangeBanks.withBooks
      (s.exchangeBanks.appendUnreserved none (.tariffActivated version s.activeVersion day))).clearPlain_frame .tariff
    exact ⟨b, hb⟩

theorem State.swap_grows (s : State) (version day : Nat) :
    (s.exchangeBanks.appendUnreserved none (.tariffActivated version s.activeVersion day)).JournalGrows (s.swap version day) := by
  simp only [State.swap]
  split
  · exact .refl _
  · exact State.clearPlain_grows ..

end Swap

/-! The minute step (R85, R99, R109, R115). -/

/-- The screening unit after a minute step: the horizon that is set comes into force, and what is past goes. -/
def Screen.atMinute (c : Screen) (now : Nat) : Screen :=
  (c.applyHorizon.pruneHolds now).pruneSightings now

theorem State.minuteStep_eq (s : State) (now : Nat) : s.minuteStep now = { s.swapTest with screen := s.screen.atMinute now } := by
  obtain ⟨tariff, cond, b, h⟩ := s.swapTest_frame
  have hscreen : s.swapTest.screen = s.screen := (congrArg State.screen h :)
  rw [State.minuteStep, hscreen, Screen.atMinute]

/-! The advance, case by case (R85). -/

theorem exec_clockAdvance (s : State) : exec .clockAdvance s = .next s.advanceClock.pump := rfl

section Advance

variable {s : State} {t : Nat}

theorem State.advanceClock_unset (h : s.tariff.clock = none) : s.advanceClock = s := by
  rw [State.advanceClock, show s.now = none from h]

theorem State.advanceClock_last (h : s.tariff.clock = some lastSecond) : s.advanceClock = (s.setClock none).raisePlain .clock := by
  rw [State.advanceClock, show s.now = some lastSecond from h]
  exact if_pos rfl

theorem State.advanceClock_second (h : s.tariff.clock = some t) (hlt : t < lastSecond) (hm : (t + 1) % 60 ≠ 0) :
    s.advanceClock = s.setClock (some (t + 1)) := by
  rw [State.advanceClock, show s.now = some t from h]
  exact (if_neg (Nat.ne_of_lt hlt)).trans (if_neg hm)

theorem State.advanceClock_minute (h : s.tariff.clock = some t) (hlt : t < lastSecond) (hm : (t + 1) % 60 = 0) :
    s.advanceClock =
      { (s.setClock (some (t + 1))).swapTest with screen := s.screen.atMinute (t + 1) } := by
  rw [State.advanceClock, show s.now = some t from h]
  exact ((if_neg (Nat.ne_of_lt hlt)).trans (if_pos hm)).trans (State.minuteStep_eq ..)

end Advance

/-- Settles O28: the cases of the advance, where a swap that is not due leaves the state to the pruning. -/
theorem clockAdvance : Obligations.ClockAdvance := by
  intro s
  simp only [exec_clockAdvance]
  refine ⟨fun h => ?unset, fun t h hlt hm => ?second, fun t h hlt hm hday => ?minute, fun h => ?last⟩
  case unset => rw [State.advanceClock_unset h]; rfl
  case second => rw [State.advanceClock_second h hlt hm]; rfl
  case minute =>
    have hnotDue : (s.setClock (some (t + 1))).swapDue = false := by
      cases ha : s.tariff.activation with
      | none => exact State.swapDue_none (s := s.setClock _) ha
      | some a =>
        obtain ⟨hne, hlater⟩ := hday a.1 a.2 ha
        refine Bool.eq_false_iff.mpr fun hdue => ?_
        exact ((State.swapDue_iff (s := s.setClock (some (t + 1))) ha rfl).mp hdue).elim hne (Nat.not_le.mpr hlater)
    rw [State.advanceClock_minute h hlt hm, State.swapTest_notDue hnotDue]
    rfl
  case last =>
    obtain ⟨conds, b, hframe, hraised⟩ := (s.setClock none).raisePlain_frame (c := .clock) (by decide)
    rw [State.advanceClock_last h]
    refine ⟨_, rfl, ?_, hraised, ?_⟩
    all_goals rw [hframe]
    · rfl
    · exact ⟨rfl, rfl, rfl, rfl⟩

/-- Settles O29: at the minute step the swap is due, and the pruning leaves what it has made. -/
theorem tariffSwap : Obligations.TariffSwap := by
  intro s t version day hclock hlt hm ha hday
  have hdue : (s.setClock (some (t + 1))).swapDue = true :=
    (State.swapDue_iff (s := s.setClock (some (t + 1))) ha rfl).mpr hday
  obtain ⟨b, hframe⟩ := (s.setClock (some (t + 1))).swap_frame version day
  rw [exec_clockAdvance, State.advanceClock_minute hclock hlt hm, State.swapTest_due (s := s.setClock _) ha hdue]
  refine ⟨_, rfl, ?tariff, fun hroom => ?record, fun hvalid => ?cleared, ?ctxs, ?gate, ?doubt⟩
  case record =>
    exact (State.appendUnreserved_made (s := (s.setClock (some (t + 1))).exchangeBanks) hroom none _).trans
      (State.swap_grows _ version day).1
  all_goals rw [hframe]
  case cleared =>
    show (State.withBooks _ b).sup.conds.get .tariff = .clear
    rw [State.withBooks_get _ _ (by decide)]
    simp [State.setClock, hvalid]
  all_goals rfl

end Sys2Proof.Machine
end

section
/-! SET_CLOCK, GET_CLOCK and STATION_FREE_PERIOD (R85 to R92, R99, R115). -/

namespace Sys2Proof.Machine

/-! How many records an append and its consequences make (R155, R165). -/

section Bound

variable (s : State)

/-- The records that the journal holds, and the one that the raise of JOURNAL may still add to them (R165). -/
def State.recordBound : Nat :=
  s.journal.records.length + if s.sup.conds.journal = .clear then 1 else 0

theorem State.length_le_recordBound : s.journal.records.length ≤ s.recordBound :=
  Nat.le_add_right ..

theorem State.recordBound_le : s.recordBound ≤ s.journal.records.length + 1 := by
  unfold State.recordBound
  split <;> omega

theorem State.lowCheck_recordBound : s.lowCheck.recordBound = s.recordBound := by
  rw [State.lowCheck_eq]
  rfl

theorem State.setCond_recordBound {c : FaultClass} (hc : c ≠ .journal) (raised : Bool) :
    (s.setCond c raised).recordBound = s.recordBound := by
  cases c <;> first | rfl | exact absurd rfl hc

theorem State.raiseJournal_recordBound : s.raiseJournal.recordBound ≤ s.recordBound := by
  unfold State.raiseJournal
  split
  · exact Nat.le_refl _
  next h =>
    have hclear : s.sup.conds.get .journal = .clear := by simpa [State.isRaised] using h
    have hbound : s.recordBound = s.journal.records.length + 1 := congrArg (s.journal.records.length + ·) (if_pos hclear)
    have hlow := ((s.setCond .journal true).appendRaw s.now none (.fault .journal true .fixed)).lowCheck_recordBound
    rw [hbound, State.journalFaultNews]
    split
    · exact Nat.le_of_eq (hlow.trans (by simp [State.recordBound, State.appendRaw, State.setCond, FaultConds.set]))
    · exact Nat.le_succ _

theorem State.appendUnreserved_recordBound (side : Option Side) (body : RecordBody) :
    (s.appendUnreserved side body).recordBound ≤ s.recordBound + 1 := by
  unfold State.appendUnreserved
  split
  · have hraw : (s.appendRaw s.now side body).lowCheck.recordBound = s.recordBound + 1 := by
      rw [State.lowCheck_recordBound]
      simp only [State.recordBound, State.appendRaw, List.length_append, List.length_singleton]
      exact Nat.add_right_comm ..
    dsimp only [State.afterAppend]
    split
    · exact hraw ▸ State.raiseJournal_recordBound _
    · exact Nat.le_of_eq hraw
  · exact Nat.le_succ _

theorem State.clearPlain_recordBound {c : FaultClass} (hc : c ≠ .journal) : (s.clearPlain c).recordBound ≤ s.recordBound + 1 := by
  unfold State.clearPlain
  split
  · rw [← s.setCond_recordBound hc false]
    exact State.appendUnreserved_recordBound ..
  · exact Nat.le_succ _

/-- The swap appends its own record and that of the clear of TARIFF, and with them JOURNAL may be raised (R79, R155, R165). -/
theorem State.swapTest_length : s.swapTest.journal.records.length ≤ s.journal.records.length + 3 := by
  suffices h : s.swapTest.recordBound ≤ s.recordBound + 2 from
    s.swapTest.length_le_recordBound.trans (h.trans (Nat.add_le_add_right s.recordBound_le 2))
  unfold State.swapTest
  split
  · exact Nat.le_add_right ..
  next version day _ =>
    split
    · have happend := State.appendUnreserved_recordBound s.exchangeBanks none (.tariffActivated version s.activeVersion day)
      simp only [State.swap]
      split
      · exact happend.trans (Nat.le_succ _)
      · exact (State.clearPlain_recordBound _ (by decide)).trans (Nat.succ_le_succ happend)
    · exact Nat.le_add_right ..

theorem State.swapTest_grows : s.JournalGrows s.swapTest := by
  unfold State.swapTest
  split
  · exact .refl s
  · split
    · exact (s.exchangeBanks.appendUnreserved_grows _ _).trans (s.swap_grows _ _)
    · exact .refl s

end Bound

/-! A setting that is taken (R88). -/

section Setting

variable (s : State) (t : Nat) (forced : Bool)

theorem State.swapTest_tariff : s.swapTest.tariff = s.tariff ∨ s.swapTest.tariff = s.exchangeBanks.tariff := by
  unfold State.swapTest
  split
  · exact .inl rfl
  next version day _ =>
    split
    · obtain ⟨b, hb⟩ := s.swap_frame version day
      exact .inr (congrArg State.tariff hb :)
    · exact .inl rfl

/-- The clock at its setting, and the sightings that a forced one clears, before the minute step (R88, R115). -/
def State.setAt : State :=
  { s.setClock (some t) with screen := { s.screen with sightings := if forced then [] else s.screen.sightings } }

theorem State.takeSetting_eq :
    s.takeSetting t forced =
      if s.now.isSome then ((s.setAt t forced).minuteStep t).appendUnreserved none (.clockSet s.now t forced)
      else (((s.setAt t forced).minuteStep t).appendUnreserved none (.clockSet s.now t forced)).clearPlain .clock := by
  cases forced <;> rfl

/-- A setting changes the tariff unit, what the minute step prunes, the conditions TARIFF and CLOCK, and the books. -/
theorem State.takeSetting_frame :
    ∃ cond b, s.takeSetting t forced =
      ({ s with
          tariff := (s.setAt t forced).swapTest.tariff, screen := (s.setAt t forced).screen.atMinute t
          sup := { s.sup with
            conds := { s.sup.conds with tariff := cond, clock := if s.now.isSome then s.sup.conds.clock else .clear } } } :
        State).withBooks b := by
  obtain ⟨tariff, cond, b, h⟩ := (s.setAt t forced).swapTest_frame
  have htariff : (s.setAt t forced).swapTest.tariff = tariff := (congrArg State.tariff h :)
  rw [State.takeSetting_eq, State.minuteStep_eq, htariff, h, State.appendUnreserved_frame]
  split
  · exact ⟨cond, _, rfl⟩
  · obtain ⟨b', hb'⟩ := State.clearPlain_frame (State.withBooks _ _) .clock
    rw [hb']
    exact ⟨cond, b', rfl⟩

theorem State.takeSetting_tariff :
    (s.takeSetting t forced).tariff.clock = some t ∧ (s.takeSetting t forced).tariff.toAdvance = 1000 ∧
      (s.takeSetting t forced).tariff.keys = s.tariff.keys ∧ (s.takeSetting t forced).tariff.period = s.tariff.period := by
  obtain ⟨cond, b, h⟩ := s.takeSetting_frame t forced
  have htariff : (s.takeSetting t forced).tariff = (s.setAt t forced).swapTest.tariff := (congrArg State.tariff h :)
  rw [htariff]
  rcases (s.setAt t forced).swapTest_tariff with hswap | hswap
  all_goals
    rw [hswap]
    exact ⟨rfl, rfl, rfl, rfl⟩

theorem State.takeSetting_screen :
    (s.takeSetting t forced).screen =
      { s.screen with
        holds := s.screen.holds.filter fun e => t < e.until_
        horizonInForce := s.screen.horizonMin
        sightings := if forced then [] else s.screen.sightings.filter fun x => t ≤ x.second + s.screen.horizonMin * 60 } := by
  obtain ⟨cond, b, h⟩ := s.takeSetting_frame t forced
  rw [h]
  cases forced <;> rfl

theorem State.takeSetting_clockCond :
    (s.takeSetting t forced).sup.conds.get .clock = if s.now.isSome then s.sup.conds.get .clock else .clear := by
  obtain ⟨cond, b, h⟩ := s.takeSetting_frame t forced
  rw [h]
  rfl

theorem State.setAt_minuteStep_grows : s.JournalGrows ((s.setAt t forced).minuteStep t) := by
  rw [State.minuteStep_eq]
  exact (s.setAt t forced).swapTest_grows

theorem State.takeSetting_grows : ((s.setAt t forced).minuteStep t).JournalGrows (s.takeSetting t forced) := by
  rw [State.takeSetting_eq]
  split
  · exact State.appendUnreserved_grows ..
  · exact (State.appendUnreserved_grows ..).trans (State.clearPlain_grows ..)

/-- CLOCK_SET follows the records of the minute step (R88, log 34). -/
theorem State.takeSetting_made (h : ((s.setAt t forced).minuteStep t).free > ((s.setAt t forced).minuteStep t).journal.reserved) :
    ((s.setAt t forced).minuteStep t).journal.records ++
        [((s.setAt t forced).minuteStep t).journal.record (some t) none (.clockSet s.now t forced)] <+:
      (s.takeSetting t forced).journal.records := by
  have hnow : ((s.setAt t forced).minuteStep t).now = some t := by
    rw [State.minuteStep_eq]
    rcases (s.setAt t forced).swapTest_tariff with htariff | htariff
    all_goals exact congrArg TariffUnit.clock htariff
  have hmade := State.appendUnreserved_made h none (.clockSet s.now t forced)
  rw [hnow] at hmade
  rw [State.takeSetting_eq]
  split
  · exact hmade
  · exact hmade.trans (State.clearPlain_grows ..).1

/-- Room for CLOCK_SET behind the records that the minute step and the raise of JOURNAL may make (R165). -/
theorem State.setAt_minuteStep_room (h : s.journal.records.length + s.journal.reserved + 4 ≤ 2048) :
    ((s.setAt t forced).minuteStep t).free > ((s.setAt t forced).minuteStep t).journal.reserved := by
  rw [(s.setAt_minuteStep_grows t forced).2, State.minuteStep_eq]
  have hlength : (s.setAt t forced).swapTest.journal.records.length ≤ s.journal.records.length + 3 :=
    (s.setAt t forced).swapTest_length
  show 2048 - (s.setAt t forced).swapTest.journal.records.length > s.journal.reserved
  omega

/-- Without an activation the minute step makes no record (R78). -/
theorem State.setAt_minuteStep_journal (h : s.tariff.activation = none) :
    ((s.setAt t forced).minuteStep t).journal = s.journal := by
  rw [State.minuteStep_eq, State.swapTest_notDue (State.swapDue_none (s := s.setAt t forced) h)]
  rfl

end Setting

/-! SET_CLOCK in its order (R87, R88). -/

section Request

variable {s : State} {d : DateTime} {force : Nat}

/-- A RUNNING clock is more than 60 s ahead of a setting (R88). -/
def State.aheadOf (s : State) (now : Nat) : Prop :=
  ∃ t, s.tariff.clock = some t ∧ now + 60 < t

theorem State.setClockRequest_invalid (h : d.isValid = false) : s.setClockRequest d force = s.no .badClock := by
  simp only [State.setClockRequest, h, Bool.false_eq_true, if_false]

theorem State.setClockRequest_badForce (h : d.isValid = true) (hf : 1 < force) : s.setClockRequest d force = s.no .badValue := by
  have hcode : flagOfCode force = none := by
    rw [flagOfCode, if_neg (by omega), if_neg (by omega)]
  simp only [State.setClockRequest, h, hcode, if_true]

theorem State.setClockRequest_backward (h : d.isValid = true) (hf : force = 0) (hback : s.aheadOf d.toSecond) :
    s.setClockRequest d force = s.no .clockBackward := by
  obtain ⟨t, hclock, hlt⟩ := hback
  subst hf
  simp [State.setClockRequest, h, flagOfCode, State.now, hclock, Nat.not_le.mpr hlt]

theorem State.setClockRequest_taken {forced : Bool} (h : d.isValid = true)
    (hcase : (forced = false ∧ force ≤ 1 ∧ ¬s.aheadOf d.toSecond) ∨ (forced = true ∧ force = 1 ∧ s.aheadOf d.toSecond)) :
    s.setClockRequest d force = (s.takeSetting d.toSecond forced).ok [] := by
  rcases hcase with ⟨rfl, hf, hnot⟩ | ⟨rfl, rfl, t, hclock, hlt⟩
  case inl =>
    obtain ⟨flag, hcode⟩ : ∃ flag, flagOfCode force = some flag := by
      interval_cases force <;> exact ⟨_, rfl⟩
    cases hclock : s.tariff.clock with
    | none => simp [State.setClockRequest, h, hcode, State.now, hclock]
    | some t =>
      have hle : t ≤ d.toSecond + 60 := Nat.not_lt.mp fun hlt => hnot ⟨t, hclock, hlt⟩
      simp [State.setClockRequest, h, hcode, State.now, hclock, hle]
  case inr => simp [State.setClockRequest, h, flagOfCode, State.now, hclock, Nat.not_le.mpr hlt]

theorem exec_setClock_refused {result : Result} (hr : s.port.ready) (tag : Byte)
    (h : (s.atOwner tag (.setClock d force)).setClockRequest d force = (s.atOwner tag (.setClock d force)).no result) :
    exec (.setClock tag d force) s = .next (s.reply 0x10 tag result []) :=
  congrArg Host.Outcome.next
    (State.request_reply (a := { result := result, fields := [] }) hr rfl nofun rfl (.inr rfl) (congrArg answered h))

/-- A reply that has joined the outgoing replies is made, whichever frame the transmitter begins. -/
theorem Port.made_pump {p : Port} {r : Reply} (h : r ∈ p.outgoing) : p.pump.made r := by
  unfold Port.pump Port.made
  split
  · exact .inl h
  · split
    next x rest hout =>
      rw [hout, List.mem_cons] at h
      exact h.symm.imp id fun hx => by rw [hx]
    next hout =>
      rw [hout] at h
      exact absurd h List.not_mem_nil

/-- A request that is answered at once: its owner's state but for the port, which has made the reply. -/
theorem State.request_made {s v : State} {tag : Byte} {r : Request} {a : Answer} (h : s.port.ready)
    (hc : (s.atOwner tag r).carry r.judged = (v, some a)) :
    ∃ p, s.request tag r = { v with port := p } ∧ p.made (r.judged.reply tag a.result a.fields) := by
  rw [State.request_ready s tag r h]
  rw [State.atOwner] at hc
  simp only [hc]
  exact ⟨_, rfl, Port.made_pump (by simp)⟩

theorem exec_setClock_taken {v : State} (hr : s.port.ready) (tag : Byte)
    (h : (s.atOwner tag (.setClock d force)).setClockRequest d force = v.ok []) :
    ∃ p, exec (.setClock tag d force) s = .next { v with port := p } ∧
      p.made { kind := 0x90, tag := tag, result := .ok, fields := [] } := by
  obtain ⟨p, hp, hmade⟩ := State.request_made (r := .setClock d force) hr (congrArg answered h)
  exact ⟨p, congrArg Host.Outcome.next hp, hmade⟩

end Request

/-! GET_CLOCK and STATION_FREE_PERIOD (R89, R92). -/

theorem State.getClock_portFree : State.PortFree State.getClock :=
  fun _ _ => .ok

theorem State.stationFreePeriod_portFree (start stop : Nat) : State.PortFree (·.stationFreePeriod start stop) :=
  fun _ _ => .ite .no (.ite .no .ok)

theorem exec_getClock {s : State} (h : s.port.ready) (tag : Byte) :
    exec (.getClock tag) s = .next (State.replied s.getClock 0x11 tag) :=
  congrArg Host.Outcome.next (State.request_portFree h State.getClock_portFree (fun _ => rfl) rfl nofun)

theorem exec_stationFreePeriod {s : State} (h : s.port.ready) (tag : Byte) (start stop : Nat) :
    exec (.stationFreePeriod tag start stop) s = .next (State.replied (s.stationFreePeriod start stop) 0x1B tag) :=
  congrArg Host.Outcome.next (State.request_portFree h (State.stationFreePeriod_portFree start stop) (fun _ => rfl) rfl nofun)

theorem dayTypeOf_code (holidays : List Nat) (day : Nat) :
    (dayTypeOf holidays day).code =
      if day ∈ holidays ∨ (day + 5) % 7 = 6 then DayType.sundayHoliday.code
      else if (day + 5) % 7 = 5 then DayType.saturday.code else DayType.weekday.code := by
  rw [dayTypeOf, apply_ite DayType.code, apply_ite DayType.code]
  rfl

theorem State.timeFields_length (s : State) (t : Option Nat) : (s.timeFields t).length = 17 := by
  cases t with
  | none => rfl
  | some t => simp [State.timeFields]

/-- The fields of GET_CLOCK with the time fields put in (section 11.3). -/
def State.clockFields (s : State) (time : List Byte) : List Byte :=
  [boolByte s.tariff.clock.isSome, presence [s.tariff.clock.isSome, s.tariff.period.isSome, (s.tariff.period.bind (·.stop)).isSome]] ++
    time ++ beBytes 4 ((s.tariff.period.map (·.start)).getD 0) ++ beBytes 4 ((s.tariff.period.bind (·.stop)).getD 0) ++
      [(s.tariff.period.map fun x => x.origin.code).getD 0]

theorem State.getClock_eq (s : State) : s.getClock = s.ok (s.clockFields (s.timeFields s.tariff.clock)) := rfl

theorem State.clockFields_length (s : State) (t : Option Nat) : (s.clockFields (s.timeFields t)).length = 28 := by
  simp [State.clockFields, State.timeFields_length]

/-- The network second stands behind the two flag bytes and the seven bytes of the date and time. -/
theorem State.clockFields_second (s : State) {t : Nat} (h : t < 256 ^ 4) : fieldAt 9 4 (s.clockFields (s.timeFields (some t))) = t := by
  simp only [State.clockFields, State.timeFields, List.append_assoc]
  rw [fieldAt_behind (k := 2) _ rfl (by decide)]
  simp only [fieldAt_skip, Nat.reduceSub, Nat.reduceLeDiff]
  exact fieldAt_first _ h

/-- What follows the beginning of a list is past every shorter beginning. -/
theorem mem_drop_of_beginning {l m n : List α} {x : α} (h : l <+: m) (k : m ++ [x] <+: n) : x ∈ n.drop l.length := by
  obtain ⟨y, rfl⟩ := h
  obtain ⟨z, rfl⟩ := k
  simp

/-- Settles O30: SET_CLOCK by the cases of its table, a setting taken by its frame and the room for CLOCK_SET, and the fields of GET_CLOCK
by their layout. -/
theorem clockRequests : Obligations.ClockRequests := by
  refine ⟨?setClock, ?others⟩
  case setClock =>
    intro s tag d force h now back
    refine ⟨fun hv => ?invalid, fun hv hf => ?badForce, fun hv hf hback => ?backward, fun forced hv hcase => ?taken⟩
    case invalid => exact exec_setClock_refused h tag (State.setClockRequest_invalid hv)
    case badForce => exact exec_setClock_refused h tag (State.setClockRequest_badForce hv hf)
    case backward => exact exec_setClock_refused h tag (State.setClockRequest_backward hv hf hback)
    case taken =>
      obtain ⟨p, hexec, hmade⟩ := exec_setClock_taken h tag (State.setClockRequest_taken hv hcase)
      let v := s.atOwner tag (.setClock d force)
      obtain ⟨hclock, hadvance, hkeys, hperiod⟩ := v.takeSetting_tariff now forced
      obtain ⟨cond, b, hframe⟩ := v.takeSetting_frame now forced
      have hstep := v.setAt_minuteStep_grows now forced
      have hmadeRecord := v.takeSetting_made now forced
      have hcond := v.takeSetting_clockCond now forced
      refine ⟨_, hexec, hclock, hadvance, hmade, hkeys, hperiod, (congrArg State.readers hframe :), (congrArg State.ctxs hframe :),
        (congrArg State.doubt hframe :), (congrArg State.gate hframe :), (congrArg State.aisle hframe :),
        (congrArg (·.sup.refusal) hframe :), v.takeSetting_screen now forced, (hstep.trans (v.takeSetting_grows now forced)).1,
        fun hroom => ?room, fun ha hroom => ?next, fun hunset => ?cleared, fun hrunning => ?kept⟩
      case room =>
        have hset := hmadeRecord (v.setAt_minuteStep_room now forced hroom)
        exact ⟨_, mem_drop_of_beginning hstep.1 hset, rfl, rfl, rfl⟩
      case next =>
        have hjournal : ((v.setAt now forced).minuteStep now).journal = s.journal := v.setAt_minuteStep_journal now forced ha
        rw [State.free, hjournal] at hmadeRecord
        exact hmadeRecord (by omega)
      case cleared => exact hcond.trans (if_neg (by simp [v, State.atOwner, State.now, hunset]))
      case kept => exact hcond.trans (if_pos (Option.isSome_iff_ne_none.mpr hrunning))
  case others =>
    intro s tag h p stop time fields
    have hfields : fields = s.clockFields (s.timeFields s.tariff.clock) := by
      have htime : time = s.timeFields s.tariff.clock := by
        simp only [time, State.timeFields, dayTypeOf_code]
        rfl
      simp only [fields, htime, State.clockFields, p, stop]
    rw [hfields]
    refine ⟨exec_getClock h tag, s.clockFields_length _, fun hclock hp => ?zeros, fun t hclock ht => ?second, fun start stop => ?period⟩
    case zeros =>
      have hp : s.tariff.period = none := hp
      rw [State.clockFields, hclock, hp]
      rfl
    case second =>
      rw [hclock]
      exact s.clockFields_second ht
    case period =>
      rw [exec_stationFreePeriod h, State.stationFreePeriod, State.replied_ite, State.replied_ite]
      exact congrArg Host.Outcome.next (if_congr s.inFreeOpen_iff rfl rfl)

end Sys2Proof.Machine
end

section
/-! The lists of the screening unit: their orders, what an insertion keeps, and the laws of the hold list, the sightings table and the
denylist over the operations on them (R95, R98, R100, R105, R109). -/

namespace Sys2Proof.Machine

/-! A list in a strict order's ascending sequence, and an insertion before the first entry that comes later. -/

section Insertion

variable {α : Type} {r : α → α → Prop} [DecidableRel r]

/-- What stands before a later entry stands before all that follow it. -/
theorem pairwise_orderedInsert (hasymm : ∀ x y, r x y → ¬r y x) (htrans : ∀ x y z, r x y → ¬r z y → ¬r z x) (x : α) {l : List α}
    (h : l.Pairwise fun y z => ¬r z y) : (l.orderedInsert r x).Pairwise fun y z => ¬r z y := by
  induction l with
  | nil => simp
  | cons y l ih =>
    obtain ⟨hy, hl⟩ := List.pairwise_cons.mp h
    rw [List.orderedInsert_cons]
    split
    next hxy =>
      refine List.pairwise_cons.mpr ⟨fun z hz => ?_, h⟩
      rcases List.mem_cons.mp hz with rfl | hz
      · exact hasymm x z hxy
      · exact htrans x y z hxy (hy z hz)
    next hxy =>
      refine List.pairwise_cons.mpr ⟨fun z hz => ?_, ih hl⟩
      rcases (List.mem_orderedInsert _).mp hz with rfl | hz
      · exact hxy
      · exact hy z hz

end Insertion

theorem insertHold_eq (x : HoldEntry) (l : List HoldEntry) : insertHold x l = l.orderedInsert (fun y z => holdBefore y z = true) x := by
  induction l with
  | nil => rfl
  | cons y l ih => rw [insertHold, List.orderedInsert_cons, ih]

theorem insertSighting_eq (x : Sighting) (l : List Sighting) :
    insertSighting x l = l.orderedInsert (fun y z => sightingBefore y z = true) x := by
  induction l with
  | nil => rfl
  | cons y l ih => rw [insertSighting, List.orderedInsert_cons, ih]

theorem insertHold_perm (x : HoldEntry) (l : List HoldEntry) : (insertHold x l).Perm (x :: l) :=
  insertHold_eq x l ▸ List.perm_orderedInsert _ x l

theorem insertSighting_perm (x : Sighting) (l : List Sighting) : (insertSighting x l).Perm (x :: l) :=
  insertSighting_eq x l ▸ List.perm_orderedInsert _ x l

theorem insertHold_ordered (x : HoldEntry) {l : List HoldEntry} (h : l.Pairwise fun y z => holdBefore z y = false) :
    (insertHold x l).Pairwise fun y z => holdBefore z y = false := by
  rw [insertHold_eq]
  simp only [← Bool.not_eq_true] at h ⊢
  refine pairwise_orderedInsert (fun x y => ?_) (fun x y z => ?_) x h
  all_goals
    simp only [holdBefore, decide_eq_true_eq]
    omega

theorem insertSighting_ordered (x : Sighting) {l : List Sighting} (h : l.Pairwise fun y z => sightingBefore z y = false) :
    (insertSighting x l).Pairwise fun y z => sightingBefore z y = false := by
  rw [insertSighting_eq]
  simp only [← Bool.not_eq_true] at h ⊢
  refine pairwise_orderedInsert (fun x y => ?_) (fun x y z => ?_) x h
  all_goals
    simp only [sightingBefore, decide_eq_true_eq]
    omega

/-! A list with at most one entry per card: entries that go, and a card's entry replaced. -/

section Keyed

variable {α : Type} {card : α → CardId} {x : α} {l m : List α}

theorem nodup_map_of_sublist (hm : m.Sublist l) (h : (l.map card).Nodup) : (m.map card).Nodup :=
  h.sublist (hm.map card)

/-- One entry of a card joins a list that has none of it. -/
theorem nodup_map_of_perm_cons (hperm : m.Perm (x :: l)) (hx : ∀ y ∈ l, card y ≠ card x) (h : (l.map card).Nodup) :
    (m.map card).Nodup := by
  rw [(hperm.map card).nodup_iff, List.map_cons, List.nodup_cons]
  exact ⟨fun hmem => (List.mem_map.mp hmem).elim fun y hy => hx y hy.1 hy.2, h⟩

/-- A card's entry taken out of a list that has one leaves room for another. -/
theorem length_filter_card_lt {c : CardId} (h : ∃ y ∈ l, card y = c) : (l.filter fun y => card y ≠ c).length < l.length := by
  obtain ⟨y, hy, hc⟩ := h
  exact List.length_filter_lt_length_iff_exists.mpr ⟨y, hy, by simp [hc]⟩

end Keyed

/-! The hold list (R95, R98, R99). -/

/-- The order, capacity and one entry per card of the hold list itself. -/
def HoldsLawful (l : List HoldEntry) : Prop :=
  l.Pairwise (fun x y => holdBefore y x = false) ∧ l.length ≤ 64 ∧ (l.map (·.card)).Nodup

theorem HoldsLawful.sublist {l m : List HoldEntry} (h : HoldsLawful l) (hm : m.Sublist l) : HoldsLawful m := by
  obtain ⟨hordered, hlength, hnodup⟩ := h
  exact ⟨hordered.sublist hm, hm.length_le.trans hlength, nodup_map_of_sublist hm hnodup⟩

/-- An entry joins a list that has room and no entry of its card. -/
theorem HoldsLawful.insert {l : List HoldEntry} (h : HoldsLawful l) (x : HoldEntry) (hroom : l.length < 64)
    (hx : ∀ y ∈ l, y.card ≠ x.card) : HoldsLawful (insertHold x l) := by
  obtain ⟨hordered, -, hnodup⟩ := h
  have hperm := insertHold_perm x l
  refine ⟨insertHold_ordered x hordered, ?_, nodup_map_of_perm_cons hperm hx hnodup⟩
  simpa [hperm.length_eq] using hroom

theorem HoldsLawful.addHold {c : Screen} (h : HoldsLawful c.holds) (card : CardId) (u : Nat) : HoldsLawful (c.addHold card u).holds := by
  have hlength := h.2.1
  unfold Screen.addHold
  split
  next e he =>
    have hcard : e.card = card := by simpa using List.find?_some he
    have hlt := length_filter_card_lt (card := HoldEntry.card) ⟨e, List.mem_of_find?_eq_some he, hcard⟩
    exact (h.sublist List.filter_sublist).insert _ (by omega) fun y hy => by simpa [hcard] using (List.mem_filter.mp hy).2
  next hnone =>
    have hother : ∀ y ∈ c.holds, y.card ≠ card := by simpa using hnone
    dsimp only
    split
    next hroom => exact h.insert _ hroom hother
    next hfull =>
      refine (h.sublist (List.tail_sublist _)).insert _ ?_ fun y hy => hother y (List.mem_of_mem_tail hy)
      rw [List.length_tail]
      omega

/-! The sightings table (R109). -/

/-- The order, capacity and one entry per card of the sightings table itself. -/
def SightingsLawful (l : List Sighting) : Prop :=
  l.Pairwise (fun x y => sightingBefore y x = false) ∧ l.length ≤ 512 ∧ (l.map (·.card)).Nodup

theorem SightingsLawful.sublist {l m : List Sighting} (h : SightingsLawful l) (hm : m.Sublist l) : SightingsLawful m := by
  obtain ⟨hordered, hlength, hnodup⟩ := h
  exact ⟨hordered.sublist hm, hm.length_le.trans hlength, nodup_map_of_sublist hm hnodup⟩

theorem SightingsLawful.insert {l : List Sighting} (h : SightingsLawful l) (x : Sighting) (hroom : l.length < 512)
    (hx : ∀ y ∈ l, y.card ≠ x.card) : SightingsLawful (insertSighting x l) := by
  obtain ⟨hordered, -, hnodup⟩ := h
  have hperm := insertSighting_perm x l
  refine ⟨insertSighting_ordered x hordered, ?_, nodup_map_of_perm_cons hperm hx hnodup⟩
  simpa [hperm.length_eq] using hroom

/-- Entries whose place and card stay, whatever else of them changes. -/
theorem SightingsLawful.map {l : List Sighting} (h : SightingsLawful l) {f : Sighting → Sighting} (hsecond : ∀ x, (f x).second = x.second)
    (hjoined : ∀ x, (f x).joined = x.joined) (hcard : ∀ x, (f x).card = x.card) : SightingsLawful (l.map f) := by
  obtain ⟨hordered, hlength, hnodup⟩ := h
  refine ⟨List.pairwise_map.mpr (hordered.imp fun hxy => ?_), by simpa using hlength, ?_⟩
  · simpa only [sightingBefore, hsecond, hjoined] using hxy
  · simpa [Function.comp_def, hcard] using hnodup

section Sightings

variable {c : Screen} {x y : Sighting}

theorem SightingsLawful.putSighting (h : SightingsLawful c.sightings) (hy : c.sightingOf x.card = some y) :
    SightingsLawful (c.putSighting x).sightings := by
  have hlength := h.2.1
  have hlt := length_filter_card_lt (card := Sighting.card) ⟨y, List.mem_of_find?_eq_some hy, Screen.sightingOf_card hy⟩
  exact (h.sublist List.filter_sublist).insert x (by omega) fun z hz => by simpa using (List.mem_filter.mp hz).2

theorem SightingsLawful.joinSighting (h : SightingsLawful c.sightings) (hx : c.sightingOf x.card = none) :
    SightingsLawful (c.joinSighting x).sightings := by
  have hother : ∀ y ∈ c.sightings, y.card ≠ x.card := by simpa [Screen.sightingOf] using hx
  have hlength := h.2.1
  dsimp only [Screen.joinSighting]
  split
  next hroom => exact h.insert _ hroom hother
  next hfull =>
    refine (h.sublist (List.tail_sublist _)).insert _ ?_ fun y hy => hother y (List.mem_of_mem_tail hy)
    rw [List.length_tail]
    omega

theorem SightingsLawful.commit (h : SightingsLawful c.sightings) (k : Commit) : SightingsLawful (c.commit k).sightings := by
  unfold Screen.commit
  split
  next hnone => exact h.joinSighting hnone
  next x hx =>
    split
    · exact h.putSighting hx
    · exact h.putSighting (x := { x with conflict := true }) (Screen.sightingOf_card hx ▸ hx)

theorem SightingsLawful.merge (h : SightingsLawful c.sightings) (p : Commit) (station gate : Nat) :
    SightingsLawful (c.merge p station gate).sightings := by
  unfold Screen.merge
  split
  next hnone => exact h.joinSighting (x := { p.sighting false 0 with source := .peer }) hnone
  next x hx =>
    have hown : c.sightingOf x.card = some x := Screen.sightingOf_card hx ▸ hx
    split
    · exact h.putSighting hx
    split
    · split
      · exact h.putSighting hown
      split
      · exact h
      · exact h.putSighting hown
    · exact h

theorem SightingsLawful.noteVerdict (h : SightingsLawful c.sightings) (card : CardId) (v : Verdict) :
    SightingsLawful (c.noteVerdict card v).sightings := by
  unfold Screen.noteVerdict
  split
  next x hx => exact h.putSighting (x := { x with conflict := true }) (Screen.sightingOf_card hx ▸ hx)
  · exact h

end Sightings

/-! The denylist (R100, R102, R105). -/

theorem ascending_iff (l : List CardId) : ascending l = true ↔ l.Pairwise (· < ·) := by
  rw [← List.isChain_iff_pairwise]
  induction l with
  | nil => simp [ascending]
  | cons x l ih =>
    cases l with
    | nil => simp [ascending]
    | cons y l => simp [ascending, ih]

theorem mem_insertAscending {x c : CardId} {l : List CardId} : c ∈ insertAscending x l ↔ c = x ∨ c ∈ l := by
  induction l with
  | nil => simp [insertAscending]
  | cons y l ih =>
    unfold insertAscending
    split
    · simp
    split
    next hxy => simp [hxy]
    · simp only [List.mem_cons, ih]
      tauto

theorem insertAscending_ascending {x : CardId} {l : List CardId} (h : l.Pairwise (· < ·)) :
    (insertAscending x l).Pairwise (· < ·) := by
  induction l with
  | nil => simp [insertAscending]
  | cons y l ih =>
    obtain ⟨hy, hl⟩ := List.pairwise_cons.mp h
    unfold insertAscending
    split
    next hxy =>
      refine List.pairwise_cons.mpr ⟨fun z hz => ?_, h⟩
      rcases List.mem_cons.mp hz with rfl | hz
      · exact hxy
      · exact BitVec.lt_trans hxy (hy z hz)
    next hxy =>
      split
      · exact h
      next hne =>
        refine List.pairwise_cons.mpr ⟨fun z hz => ?_, ih hl⟩
        rcases mem_insertAscending.mp hz with rfl | hz
        · bv_omega
        · exact hy z hz

theorem length_insertAscending {x : CardId} {l : List CardId} (h : x ∉ l) : (insertAscending x l).length = l.length + 1 := by
  induction l with
  | nil => rfl
  | cons y l ih =>
    obtain ⟨hne, hl⟩ : x ≠ y ∧ x ∉ l := by simpa using h
    unfold insertAscending
    split
    · rfl
    · rw [List.length_cons, ih hl, List.length_cons]

/-- The list after an update is in its order and within its capacity (R100, R102). -/
theorem applyUpdate_lawful {l : List CardId} (u : DenyUpdate) (h : l.Pairwise (· < ·)) (hl : l.length ≤ 16384) :
    (applyUpdate l u).1.Pairwise (· < ·) ∧ (applyUpdate l u).1.length ≤ 16384 := by
  unfold applyUpdate
  split
  · split
    · exact ⟨h, hl⟩
    next hmem =>
      split
      next hroom => exact ⟨insertAscending_ascending h, (length_insertAscending hmem).trans_le hroom⟩
      · exact ⟨h, hl⟩
  · exact ⟨h.sublist List.filter_sublist, (List.length_filter_le _ _).trans hl⟩

end Sys2Proof.Machine
end

section
/-! What every event keeps of the lists and counters that no setting bounds: the hold list, the sightings table, the in-doubt table, the
notice queue, the direction pointer, the free passage count and the tracker's flags (R38, R95, R109, R124, R142, R149, R177). The relation,
the notices and the journal, the screening unit, the in-doubt table and the end of a transaction. -/

namespace Sys2Proof.Machine

/-! The relation. -/

/-- The horizon that is set and the one in force are in their range (R109, R181). -/
def Screen.horizonLaw (c : Screen) : Prop :=
  (1 ≤ c.horizonMin ∧ c.horizonMin ≤ 120) ∧ (1 ≤ c.horizonInForce ∧ c.horizonInForce ≤ 120)

/-- The notice queue and the count of discarded notices are within their bounds (R177). -/
def Port.noticeLaw (p : Port) : Prop :=
  p.notices.length ≤ 32 ∧ p.discarded ≤ 65535

/-- The direction pointer and the free passage count are within their bounds (R142, R149). -/
def Gate.countLaw (g : Gate) : Prop :=
  g.pointer < 16 ∧ g.freeCount ≤ 65535

/-- The hold list, the sightings table and the horizon that are lawful in the first screening unit are lawful in the second. -/
structure Screen.Keeps (c d : Screen) : Prop where
  holds : HoldsLawful c.holds → HoldsLawful d.holds
  sightings : SightingsLawful c.sightings → SightingsLawful d.sightings
  horizon : c.horizonLaw → d.horizonLaw

/-- The lists and counters that no setting bounds. -/
def State.lists (s : State) : Screen × DoubtTable × List Notice × Nat × Nat × Nat × Tracker :=
  (s.screen, s.doubt, s.port.notices, s.port.discarded, s.gate.pointer, s.gate.freeCount, s.aisle.tracker)

/-- The lists and counters that are lawful in the first state are lawful in the second. -/
structure State.Keeps (s t : State) : Prop where
  screen : s.screen.Keeps t.screen
  doubt : s.doubt.entries.length ≤ 4 → t.doubt.entries.length ≤ 4
  notices : s.port.noticeLaw → t.port.noticeLaw
  counts : s.gate.countLaw → t.gate.countLaw
  tracker : s.aisle.tracker.law → t.aisle.tracker.law

theorem Screen.Keeps.refl (c : Screen) : c.Keeps c :=
  ⟨id, id, id⟩

theorem Screen.Keeps.trans {c d e : Screen} (h : c.Keeps d) (k : d.Keeps e) : c.Keeps e :=
  ⟨k.holds ∘ h.holds, k.sightings ∘ h.sightings, k.horizon ∘ h.horizon⟩

theorem State.Keeps.refl (s : State) : s.Keeps s :=
  ⟨.refl _, id, id, id, id⟩

section Relation

variable {s t u v : State}

theorem State.Keeps.trans (h : s.Keeps u) (k : u.Keeps v) : s.Keeps v :=
  ⟨h.screen.trans k.screen, k.doubt ∘ h.doubt, k.notices ∘ h.notices, k.counts ∘ h.counts, k.tracker ∘ h.tracker⟩

theorem State.Keeps.ite {c : Prop} [Decidable c] (h : s.Keeps u) (k : s.Keeps v) : s.Keeps (if c then u else v) := by
  split
  · exact h
  · exact k

/-- A change of anything but the lists and counters. -/
theorem State.Keeps.frame (h : s.Keeps u) (hsame : t.lists = u.lists) : s.Keeps t := by
  obtain ⟨hscreen, hdoubt, hnotices, hdiscarded, hpointer, hcount, htracker⟩ := by simpa only [State.lists, Prod.mk.injEq] using hsame
  refine ⟨?_, ?_, fun hs => ?_, fun hs => ?_, ?_⟩
  · exact hscreen ▸ h.screen
  · exact hdoubt ▸ h.doubt
  · have hu := h.notices hs
    rwa [Port.noticeLaw, hnotices, hdiscarded]
  · have hu := h.counts hs
    rwa [Gate.countLaw, hpointer, hcount]
  · exact htracker ▸ h.tracker

theorem State.Keeps.setScreen {c : Screen} (h : s.Keeps u) (k : u.screen.Keeps c) : s.Keeps { u with screen := c } :=
  ⟨h.screen.trans k, h.doubt, h.notices, h.counts, h.tracker⟩

theorem State.Keeps.setEntries {l : List InDoubt} (h : s.Keeps u) (k : u.doubt.entries.length ≤ 4 → l.length ≤ 4) :
    s.Keeps { u with doubt := { u.doubt with entries := l } } :=
  ⟨h.screen, k ∘ h.doubt, h.notices, h.counts, h.tracker⟩

theorem State.Keeps.setPort {p : Port} (h : s.Keeps u) (k : u.port.noticeLaw → p.noticeLaw) : s.Keeps { u with port := p } :=
  ⟨h.screen, h.doubt, k ∘ h.notices, h.counts, h.tracker⟩

theorem State.Keeps.setGate {g : Gate} (h : s.Keeps u) (k : u.gate.countLaw → g.countLaw) : s.Keeps { u with gate := g } :=
  ⟨h.screen, h.doubt, h.notices, k ∘ h.counts, h.tracker⟩

theorem State.Keeps.setTracker {x : Tracker} (h : s.Keeps u) (k : u.aisle.tracker.law → x.law) :
    s.Keeps { u with aisle := { u.aisle with tracker := x } } :=
  ⟨h.screen, h.doubt, h.notices, h.counts, k ∘ h.tracker⟩

end Relation

/-! Notices, the journal and the fault classes (R155, R164 to R169, R177). -/

theorem Port.noticeLaw.push {p : Port} (h : p.noticeLaw) (n : Notice) : (p.push n).noticeLaw := by
  obtain ⟨hlength, hdiscarded⟩ := h
  unfold Port.push
  split
  next hroom => exact ⟨by simpa using hroom, hdiscarded⟩
  · exact ⟨hlength, Nat.min_le_left _ _⟩

theorem Port.noticeLaw.notify {p : Port} (h : p.noticeLaw) (n : Notice) : (p.notify n).noticeLaw := by
  unfold Port.notify
  repeat' split
  · exact h.push n
  · exact h
  · exact h
  · exact h.push n

/-- A notice that leaves makes room for the NOTICE_OVERFLOW that joins (R177). -/
theorem Port.noticeLaw.pump {p : Port} (h : p.noticeLaw) : p.pump.noticeLaw := by
  obtain ⟨hlength, hdiscarded⟩ := h
  unfold Port.pump
  split
  · exact ⟨hlength, hdiscarded⟩
  split
  · exact ⟨hlength, hdiscarded⟩
  split
  · split
    · exact ⟨hlength, hdiscarded⟩
    next n rest hn =>
      rw [hn, List.length_cons] at hlength
      split
      · exact ⟨by dsimp only; omega, hdiscarded⟩
      · exact ⟨by simpa using hlength, Nat.zero_le _⟩
  · exact ⟨hlength, hdiscarded⟩

section Books

variable {s u : State}

theorem State.Keeps.notify {n : Notice} (h : s.Keeps u) : s.Keeps (u.notify n) :=
  h.setPort (·.notify n)

theorem State.Keeps.pump (h : s.Keeps u) : s.Keeps u.pump :=
  h.setPort (·.pump)

theorem State.Keeps.lowCheck (h : s.Keeps u) : s.Keeps u.lowCheck :=
  .ite (h.frame (by rfl)).notify h

theorem State.Keeps.journalFaultNews {raised : Bool} (h : s.Keeps u) : s.Keeps (u.journalFaultNews raised) :=
  (State.Keeps.ite (h.frame (by rfl)).lowCheck h).notify

theorem State.Keeps.raiseJournal (h : s.Keeps u) : s.Keeps u.raiseJournal :=
  .ite h (h.frame (by rfl)).journalFaultNews

theorem State.Keeps.clearJournal (h : s.Keeps u) : s.Keeps u.clearJournal :=
  have hcleared : s.Keeps ((u.setCond .journal false).journalFaultNews false) := (h.frame (by rfl)).journalFaultNews
  .ite (.ite hcleared.raiseJournal hcleared) h

theorem State.Keeps.afterAppend (h : s.Keeps u) : s.Keeps u.afterAppend :=
  .ite h.lowCheck.raiseJournal h.lowCheck

theorem State.Keeps.appendReserved {second : Option Nat} {side : Option Side} {body : RecordBody} (h : s.Keeps u) :
    s.Keeps (u.appendReserved second side body) :=
  (h.frame (by rfl)).afterAppend

theorem State.Keeps.appendUnreserved {side : Option Side} {body : RecordBody} (h : s.Keeps u) : s.Keeps (u.appendUnreserved side body) :=
  .ite (h.frame (by rfl)).afterAppend h

theorem State.Keeps.faultNews {c : FaultClass} {raised : Bool} (h : s.Keeps u) : s.Keeps (u.faultNews c raised) :=
  h.appendUnreserved.notify

theorem State.Keeps.raisePlain {c : FaultClass} (h : s.Keeps u) : s.Keeps (u.raisePlain c) :=
  .ite h (h.frame (by rfl)).faultNews

theorem State.Keeps.clearPlain {c : FaultClass} (h : s.Keeps u) : s.Keeps (u.clearPlain c) :=
  .ite (h.frame (by rfl)).faultNews h

theorem State.Keeps.freeRecords {n : Nat} (h : s.Keeps u) : s.Keeps (u.freeRecords n) :=
  .ite (State.Keeps.clearJournal (.ite (h.frame (by rfl)) (h.frame (by rfl)))) (.ite (h.frame (by rfl)) (h.frame (by rfl)))

theorem State.Keeps.unmask {c : NoticeClass} (h : s.Keeps u) : s.Keeps (u.unmask c) := by
  unfold State.unmask
  split
  · exact h
  · exact .ite (h.notify.frame (by rfl)) h

theorem State.Keeps.unmaskFrom {old : PerClass Bool} {c : NoticeClass} (h : s.Keeps u) : s.Keeps (u.unmaskFrom old c) :=
  .ite h.unmask h

end Books

/-! The screening unit (R98, R99, R109 to R116). -/

theorem Screen.keeps_sightings {c : Screen} {l : List Sighting} {n : Nat} (h : SightingsLawful c.sightings → SightingsLawful l) :
    c.Keeps { c with sightings := l, nextJoin := n } :=
  ⟨id, h, id⟩

theorem Screen.keeps_putSighting {c : Screen} {x y : Sighting} (hy : c.sightingOf x.card = some y) : c.Keeps (c.putSighting x) :=
  keeps_sightings (n := c.nextJoin) (·.putSighting hy)

theorem Screen.addHold_eq (c : Screen) (card : CardId) (v : Nat) :
    c.addHold card v = { c with holds := (c.addHold card v).holds, nextJoin := (c.addHold card v).nextJoin } := by
  unfold Screen.addHold
  split <;> rfl

theorem Screen.keeps_addHold (c : Screen) (card : CardId) (v : Nat) : c.Keeps (c.addHold card v) := by
  refine ⟨(·.addHold card v), ?_, ?_⟩
  all_goals
    rw [Screen.addHold_eq]
    exact id

theorem Screen.commit_eq (c : Screen) (k : Commit) :
    c.commit k = { c with sightings := (c.commit k).sightings, nextJoin := (c.commit k).nextJoin } := by
  unfold Screen.commit
  repeat' split
  all_goals rfl

theorem Screen.merge_eq (c : Screen) (p : Commit) (station gate : Nat) :
    c.merge p station gate =
      { c with sightings := (c.merge p station gate).sightings, nextJoin := (c.merge p station gate).nextJoin } := by
  unfold Screen.merge
  repeat' split
  all_goals rfl

theorem Screen.noteVerdict_eq (c : Screen) (card : CardId) (v : Verdict) :
    c.noteVerdict card v = { c with sightings := (c.noteVerdict card v).sightings } := by
  unfold Screen.noteVerdict
  split <;> rfl

theorem Screen.keeps_commit (c : Screen) (k : Commit) : c.Keeps (c.commit k) :=
  c.commit_eq k ▸ keeps_sightings (·.commit k)

theorem Screen.keeps_merge (c : Screen) (p : Commit) (station gate : Nat) : c.Keeps (c.merge p station gate) :=
  c.merge_eq p station gate ▸ keeps_sightings (·.merge p station gate)

theorem Screen.keeps_noteVerdict (c : Screen) (card : CardId) (v : Verdict) : c.Keeps (c.noteVerdict card v) :=
  c.noteVerdict_eq card v ▸ keeps_sightings (n := c.nextJoin) (·.noteVerdict card v)

/-- The work of a minute step on the lists: the horizon that was set comes into force, and old entries go. -/
theorem Screen.keeps_minute (c : Screen) (now : Nat) : c.Keeps ((c.applyHorizon.pruneHolds now).pruneSightings now) :=
  ⟨(·.sublist List.filter_sublist), (·.sublist List.filter_sublist), fun h => ⟨h.1, h.1⟩⟩

section Screening

variable {s u : State} {card : CardId}

theorem State.Keeps.captureHold {instant : Nat} {capture : CaptureResult} (h : s.Keeps u) :
    s.Keeps (u.captureHold card instant capture) :=
  (h.setScreen (Screen.keeps_addHold _ _ _)).notify

theorem State.Keeps.recordCommit {k : Commit} (h : s.Keeps u) : s.Keeps (u.recordCommit k) :=
  (h.setScreen (Screen.keeps_commit _ _)).notify

/-- The card's entry with other fields, and perhaps a notice of it. -/
theorem State.Keeps.putSighting {x y : Sighting} (h : s.Keeps u) (hy : u.screen.sightingOf card = some y) (hx : x.card = y.card) :
    s.Keeps { u with screen := u.screen.putSighting x } := by
  have hcard : u.screen.sightingOf x.card = some y := by rw [hx, Screen.sightingOf_card hy, hy]
  exact h.setScreen (Screen.keeps_putSighting hcard)

theorem State.Keeps.setAlternate {n : Nat} (h : s.Keeps u) : s.Keeps (u.setAlternate card n) := by
  unfold State.setAlternate
  split
  · exact h
  next y hy => exact h.putSighting hy rfl

theorem State.Keeps.reportPassage {outcome : PassageState} (h : s.Keeps u) : s.Keeps (u.reportPassage card outcome) := by
  unfold State.reportPassage
  split
  · exact h
  next y hy => exact .ite (h.putSighting (x := { y with passage := outcome }) hy rfl).notify h

theorem State.Keeps.repeatGranted {expired : Bool} {counter : Nat} {purse : Int} (h : s.Keeps u) :
    s.Keeps (u.repeatGranted card expired counter purse) := by
  unfold State.repeatGranted
  split
  · exact h
  next y hy =>
    dsimp only
    generalize hx : (if expired = true then _ else _ : Sighting) = x
    have hcard : x.card = y.card := by
      rw [← hx]
      split <;> rfl
    exact .ite (h.putSighting hy hcard).notify (h.putSighting hy hcard)

end Screening

/-! The calculator, the in-doubt table and the end of a transaction (R37, R39, R43, R49, R81). -/

section Taps

variable {s u : State} {sd : Side}

theorem State.Keeps.releasePin (h : s.Keeps u) : s.Keeps u.releasePin :=
  .ite h (h.frame (by rfl))

theorem State.Keeps.takeWaiting (h : s.Keeps u) : s.Keeps u.takeWaiting := by
  obtain ⟨fares, hfares⟩ := u.takeWaiting_frame
  rw [hfares]
  exact h.frame (by rfl)

theorem State.Keeps.askPricing (h : s.Keeps u) : s.Keeps (u.askPricing sd) :=
  (h.frame (by rfl)).takeWaiting

theorem State.Keeps.withdrawPricing (h : s.Keeps u) : s.Keeps (u.withdrawPricing sd) :=
  (h.frame (by rfl)).takeWaiting

theorem State.Keeps.removeEntry {card : CardId} (h : s.Keeps u) : s.Keeps (u.removeEntry card) :=
  h.setEntries fun hu => (List.length_filter_le _ _).trans hu

theorem State.Keeps.mapEntry {card : CardId} {f : InDoubt → InDoubt} (h : s.Keeps u) : s.Keeps (u.mapEntry card f) :=
  h.setEntries fun hu => by simpa using hu

theorem State.Keeps.expireEntry {e : InDoubt} (h : s.Keeps u) : s.Keeps (u.expireEntry e) :=
  h.removeEntry.appendReserved

theorem State.Keeps.detach {card : CardId} (h : s.Keeps u) : s.Keeps (u.detach card) := by
  unfold State.detach
  split
  · exact h
  · exact .ite h.expireEntry h.mapEntry

theorem State.Keeps.deadlinePasses {card : CardId} (h : s.Keeps u) : s.Keeps (u.deadlinePasses card) := by
  unfold State.deadlinePasses
  split
  · exact h
  split
  · exact h
  · exact .ite h.mapEntry h.expireEntry

theorem State.Keeps.releaseTx {x : Transaction} (h : s.Keeps u) : s.Keeps (u.releaseTx sd x) := by
  have hreleased : s.Keeps (if x.journalHeld then (u.setReservation sd .absent).unreserve else u.setReservation sd .absent) :=
    .ite (h.frame (by rfl)) (h.frame (by rfl))
  dsimp only [State.releaseTx]
  split
  · exact hreleased.detach
  · exact hreleased

theorem State.Keeps.partIfBound (h : s.Keeps u) : s.Keeps (u.partIfBound sd) :=
  .ite (h.frame (by rfl)) h

theorem State.Keeps.closeContext (h : s.Keeps u) : s.Keeps (u.closeContext sd) :=
  State.Keeps.releasePin (State.Keeps.withdrawPricing (h.frame (by rfl)))

theorem State.Keeps.finishTx {f : Finish} (h : s.Keeps u) : s.Keeps (u.finishTx sd f) := by
  cases hx : (u.ctx sd).tx with
  | none => simpa only [State.finishTx, hx] using h
  | some x =>
    rw [State.finishTx_eq f hx]
    exact (State.Keeps.frame (u := (u.releaseTx sd x).notify _) h.releaseTx.notify (by rfl)).closeContext

theorem State.Keeps.abortTx {o : TapOutcome} (h : s.Keeps u) : s.Keeps (u.abortTx sd o) :=
  .ite h.finishTx h

theorem State.Keeps.abortBoth {o : TapOutcome} (h : s.Keeps u) : s.Keeps (u.abortBoth o) :=
  h.abortTx.abortTx

theorem State.Keeps.contextBack (h : s.Keeps u) : s.Keeps (u.contextBack sd) :=
  .ite (h.frame (by rfl)) h

theorem State.Keeps.linkDown (h : s.Keeps u) : s.Keeps (u.linkDown sd) :=
  .ite (h.frame (by rfl)) (h.frame (by rfl))

theorem State.Keeps.linkSearching (h : s.Keeps u) : s.Keeps (u.linkSearching sd) :=
  State.Keeps.contextBack (h.frame (by rfl))

end Taps

end Sys2Proof.Machine
end

section
/-! What every event keeps of the lists and counters: the barrier and the passages, the orders from supervision, aisle sensing, the clock,
the sides and the transaction engine. -/

namespace Sys2Proof.Machine

/-! The barrier (R136 to R142). -/

section Barrier

variable {s u : State} {sd : Side}

theorem Gate.countLaw.headDeadline {g : Gate} (h : g.countLaw) : g.headDeadline.countLaw := by
  unfold Gate.headDeadline
  repeat' split
  all_goals exact h

theorem State.Keeps.headDeadline (h : s.Keeps u) : s.Keeps { u with gate := u.gate.headDeadline } :=
  h.setGate (·.headDeadline)

theorem State.Keeps.reachOpen (h : s.Keeps u) : s.Keeps (u.reachOpen sd) :=
  h.setGate fun hu => Gate.countLaw.headDeadline (g := u.gate.enter .opened none (some sd)) hu

theorem State.Keeps.beginOpening (h : s.Keeps u) : s.Keeps (u.beginOpening sd) :=
  .ite (State.Keeps.reachOpen (h.frame (by rfl))) (h.frame (by rfl))

/-- The pointer moves round the 16 entries of the direction table (R142). -/
theorem State.Keeps.selectOwner (h : s.Keeps u) : s.Keeps u.selectOwner := by
  unfold State.selectOwner
  split
  · exact h
  · exact h.beginOpening
  · exact h.beginOpening
  · exact State.Keeps.beginOpening (h.setGate fun hu => ⟨Nat.mod_lt _ (by decide), hu.2⟩)

theorem State.Keeps.reachClosed (h : s.Keeps u) : s.Keeps u.reachClosed :=
  State.Keeps.selectOwner (h.frame (by rfl))

theorem State.Keeps.beginDriving (h : s.Keeps u) : s.Keeps u.beginDriving :=
  .ite (State.Keeps.reachClosed (h.frame (by rfl))) (h.frame (by rfl))

theorem State.Keeps.checkSucceeds (h : s.Keeps u) : s.Keeps u.checkSucceeds :=
  State.Keeps.reachClosed (h.frame (by rfl))

theorem State.Keeps.beginChecking (h : s.Keeps u) : s.Keeps u.beginChecking :=
  .ite (State.Keeps.checkSucceeds (h.frame (by rfl))) (.ite (h.frame (by rfl)) (h.frame (by rfl)))

theorem State.Keeps.delayExpires (h : s.Keeps u) : s.Keeps u.delayExpires := by
  unfold State.delayExpires
  split
  next sd _ _ =>
    have howned : s.Keeps { u with gate := { u.gate with owner := some sd.other, closeDelay := none } } := h.frame (by rfl)
    exact .ite h.beginDriving howned.headDeadline
  · exact h.beginDriving

theorem State.Keeps.delayEval (h : s.Keeps u) : s.Keeps u.delayEval := by
  refine .ite ?_ (h.frame (by rfl))
  split
  · exact h
  · exact .ite h.delayExpires (h.frame (by rfl))

theorem State.Keeps.authJoined (h : s.Keeps u) : s.Keeps (u.authJoined sd) := by
  unfold State.authJoined
  split
  · exact h.selectOwner
  · exact (State.Keeps.headDeadline h).delayEval
  · exact .ite h h.beginOpening
  · exact h

theorem State.Keeps.join {x : Auth} (h : s.Keeps u) : s.Keeps (u.join sd x) :=
  State.Keeps.authJoined (h.frame (by rfl))

theorem State.Keeps.fill {origin : AuthOrigin} {card : CardId} {seq : Option Nat} (h : s.Keeps u) :
    s.Keeps (u.fill sd origin card seq).1 := by
  unfold State.fill
  split
  · exact h
  · exact h.frame (by rfl)
  · exact h.frame (by rfl)
  · exact State.Keeps.join (h.frame (by rfl))

theorem State.Keeps.openLimitChanged (h : s.Keeps u) : s.Keeps u.openLimitChanged := by
  unfold State.openLimitChanged
  split
  · exact .ite h.reachOpen.delayEval h
  · exact .ite h.checkSucceeds h
  · exact h

theorem State.Keeps.closedLimitChanged (h : s.Keeps u) : s.Keeps u.closedLimitChanged := by
  unfold State.closedLimitChanged
  split
  · exact .ite h.reachClosed h
  · exact .ite h.checkSucceeds h
  · exact h

theorem State.Keeps.handPattern {p : PerZone Bool} (h : s.Keeps u) : s.Keeps (u.handPattern p) := by
  refine State.Keeps.delayEval ?_
  split
  · exact .ite (h.frame (by rfl)) (h.frame (by rfl))
  · exact .ite (h.frame (by rfl)) (h.frame (by rfl))
  · exact h.frame (by rfl)
  · exact h.frame (by rfl)

end Barrier

/-! Authorisations, passages and alarms (R131 to R133, R143 to R147). -/

section Passages

variable {s u : State} {sd : Side}

theorem State.Keeps.endUnused {x : Auth} {reason : NotTakenReason} (h : s.Keeps u) : s.Keeps (u.endUnused sd x reason) := by
  refine State.Keeps.notify (State.Keeps.appendUnreserved ?_)
  split
  · exact h.reportPassage
  · exact h

theorem State.Keeps.cancelList {l : List Auth} (h : s.Keeps u) : s.Keeps (u.cancelList sd l) := by
  induction l generalizing u with
  | nil => exact h
  | cons x l ih => exact ih h.endUnused

theorem State.Keeps.cancelAll (h : s.Keeps u) : s.Keeps u.cancelAll :=
  State.Keeps.cancelList (State.Keeps.cancelList (h.frame (by rfl)))

theorem State.Keeps.raiseAlarm {kind : AlarmKind} {a b : Bool} {direction : Option Side} (h : s.Keeps u) :
    s.Keeps (u.raiseAlarm kind a b direction) :=
  State.Keeps.notify (State.Keeps.appendUnreserved (h.frame (by rfl)))

theorem State.Keeps.alarmAt {kind : AlarmKind} {direction : Option Side} (h : s.Keeps u) : s.Keeps (u.alarmAt kind sd direction) :=
  h.raiseAlarm

theorem State.Keeps.consume {follower behind : Bool} (h : s.Keeps u) : s.Keeps (u.consume sd follower behind) := by
  unfold State.consume
  split
  · exact h
  next x xs _ =>
    have hreported : s.Keeps (match x.card with
        | some card => (u.setQueue sd xs).reportPassage card .taken
        | none => u.setQueue sd xs) := by
      split
      · exact State.Keeps.reportPassage (h.frame (by rfl))
      · exact h.frame (by rfl)
    exact State.Keeps.headDeadline (State.Keeps.notify (.ite hreported.appendUnreserved hreported))

theorem State.Keeps.openPassage {o : Side} {follower behind : Bool} (h : s.Keeps u) : s.Keeps (u.openPassage o sd follower behind) :=
  .ite h.alarmAt (.ite (.ite (h.alarmAt.frame (by rfl)) h.alarmAt) (.ite h.consume.alarmAt h.consume))

/-- The free passage count stops at its greatest value (R149). -/
theorem State.Keeps.takePassage {follower behind : Bool} (h : s.Keeps u) : s.Keeps (u.takePassage sd follower behind) := by
  have hcounted : s.Keeps { u with gate := { u.gate with freeCount := min 65535 (u.gate.freeCount + 1) } } :=
    h.setGate fun hu => ⟨hu.1, Nat.min_le_left _ _⟩
  unfold State.takePassage
  split
  · exact h.openPassage
  · exact h.openPassage
  · exact h.alarmAt
  · exact h.alarmAt
  · exact hcounted
  · exact hcounted
  · exact h
  all_goals exact h.alarmAt

theorem State.Keeps.takeCounterflow {start : Option Side} (h : s.Keeps u) : s.Keeps (u.takeCounterflow start) := by
  refine .ite ?_ h
  split
  · exact h.alarmAt
  · exact h.raiseAlarm

theorem State.Keeps.takeReports {l : List Report} (h : s.Keeps u) : s.Keeps (u.takeReports l) := by
  induction l generalizing u with
  | nil => exact h
  | cons r l ih =>
    cases r with
    | passage sd follower behind => exact ih h.takePassage
    | backout sd => exact ih h
    | counterflow start => exact ih h.takeCounterflow

theorem State.Keeps.passageExpires (h : s.Keeps u) : s.Keeps u.passageExpires := by
  unfold State.passageExpires
  split
  · split
    · exact h
    split
    · exact h
    · exact State.Keeps.delayEval (State.Keeps.headDeadline (State.Keeps.endUnused (h.frame (by rfl))))
  · exact h

theorem State.Keeps.closeDelayExpires (h : s.Keeps u) : s.Keeps u.closeDelayExpires := by
  unfold State.closeDelayExpires
  split
  · exact h
  · exact h.delayExpires

end Passages

/-! Free-open, the orders from supervision and the fault classes (R148 to R156). -/

section Orders

variable {s u : State}

theorem State.Keeps.openPeriod (h : s.Keeps u) : s.Keeps u.openPeriod := by
  unfold State.openPeriod
  split
  · exact h.frame (by rfl)
  · exact h

theorem State.Keeps.enterFreeOpen {reason : FreeReason} (h : s.Keeps u) : s.Keeps (u.enterFreeOpen reason) := by
  have hopened (b : BarrierState) : s.Keeps ((u.cancelAll.withdrawAll .freeOpen).enterBarrier b none none) := h.cancelAll.frame (by rfl)
  dsimp only [State.enterFreeOpen]
  refine State.Keeps.abortBoth (State.Keeps.notify (State.Keeps.appendUnreserved (State.Keeps.openPeriod ?_)))
  exact (hopened _).setGate fun hu => ⟨hu.1, Nat.zero_le _⟩

theorem State.Keeps.endFreeOpen (h : s.Keeps u) : s.Keeps u.endFreeOpen :=
  have hended : s.Keeps (u.appendUnreserved none (.freeOpenEnd u.gate.freeCount)) := h.appendUnreserved
  have hclosed : s.Keeps (u.appendUnreserved none (.freeOpenEnd u.gate.freeCount)).closePeriod := hended.frame (by rfl)
  have hnoticed := hclosed.notify
  .ite (hnoticed.frame (by rfl)) (.ite (hnoticed.frame (by rfl))
    (.ite hnoticed.beginChecking (State.Keeps.delayEval (hnoticed.frame (by rfl)))))

theorem State.Keeps.setReasons {r : FreeReasons} {reason : FreeReason} (h : s.Keeps u) : s.Keeps (u.setReasons r reason) :=
  .ite (State.Keeps.enterFreeOpen (h.frame (by rfl))) (.ite (State.Keeps.endFreeOpen (h.frame (by rfl))) (h.frame (by rfl)))

theorem State.Keeps.joinReason {r : FreeReason} (h : s.Keeps u) : s.Keeps (u.joinReason r) :=
  h.setReasons

theorem State.Keeps.leaveReason {r : FreeReason} (h : s.Keeps u) : s.Keeps (u.leaveReason r) :=
  h.setReasons

theorem State.Keeps.emergencyChanged (h : s.Keeps u) : s.Keeps u.emergencyChanged :=
  .ite h.joinReason (.ite (.ite h.leaveReason h.setReasons) h)

theorem State.Keeps.giveFailClosed (h : s.Keeps u) : s.Keeps u.giveFailClosed :=
  have hcancelled := State.Keeps.cancelAll (u := { u with gate := { u.gate with failClosedOrder := true } }) (h.frame (by rfl))
  State.Keeps.abortBoth (.ite (hcancelled.frame (by rfl)) (hcancelled.frame (by rfl)))

theorem State.Keeps.giveHold (h : s.Keeps u) : s.Keeps u.giveHold :=
  have hcancelled := State.Keeps.cancelAll (u := { u with gate := { u.gate with holdOrder := true } }) (h.frame (by rfl))
  State.Keeps.abortBoth (.ite (hcancelled.frame (by rfl)) (hcancelled.frame (by rfl)))

theorem State.Keeps.liftFailClosed (h : s.Keeps u) : s.Keeps u.liftFailClosed :=
  .ite (State.Keeps.beginChecking (h.frame (by rfl))) (h.frame (by rfl))

theorem State.Keeps.liftHold (h : s.Keeps u) : s.Keeps u.liftHold :=
  .ite (.ite (h.frame (by rfl)) (State.Keeps.beginChecking (h.frame (by rfl)))) (h.frame (by rfl))

theorem State.Keeps.recompute (h : s.Keeps u) : s.Keeps u.recompute := by
  have hjoined := State.Keeps.ite (c := (u.wants .failFree && !u.gate.reasons.fault) = true) (h.joinReason (r := .fault)) h
  have hgiven := fun {c : Prop} [Decidable c] => State.Keeps.ite (c := c) hjoined.giveFailClosed hjoined
  have hlifted := fun {c d : Prop} [Decidable c] [Decidable d] =>
    State.Keeps.ite (c := c) (hgiven (c := d)).liftFailClosed (hgiven (c := d))
  exact .ite hlifted.leaveReason hlifted

theorem State.Keeps.raiseOrdered {c : FaultClass} (h : s.Keeps u) : s.Keeps (u.raiseOrdered c) :=
  .ite h (State.Keeps.faultNews (State.Keeps.recompute (h.frame (by rfl))))

theorem State.Keeps.clearOrdered {c : FaultClass} (h : s.Keeps u) : s.Keeps (u.clearOrdered c) :=
  .ite (State.Keeps.faultNews (State.Keeps.recompute (h.frame (by rfl)))) h

theorem State.Keeps.distrustBarrier (h : s.Keeps u) : s.Keeps u.distrustBarrier := by
  unfold State.distrustBarrier
  dsimp only
  split
  · exact h.frame (by rfl)
  · exact .ite (h.frame (by rfl)) (h.frame (by rfl))

theorem State.Keeps.driveFaultActive (h : s.Keeps u) : s.Keeps u.driveFaultActive :=
  .ite h h.distrustBarrier.raiseOrdered

theorem State.Keeps.travelFails (h : s.Keeps u) : s.Keeps u.travelFails := by
  unfold State.travelFails
  split
  · exact h.distrustBarrier.raiseOrdered
  · exact h

end Orders

end Sys2Proof.Machine
end

section
/-! What every event keeps of the lists and counters: aisle sensing, the holds and the clock. -/

namespace Sys2Proof.Machine

/-! The tracker (R124 to R129). -/

section Tracking

variable {t : Tracker}

/-- A tracker outside EMPTY may have its flags SET (R124). -/
theorem Tracker.law_of_ne_empty (h : t.state ≠ .empty) : t.law :=
  fun hempty => absurd hempty h

theorem Tracker.toEmpty_law (t : Tracker) (resync : Bool) : (t.toEmpty resync).law :=
  fun _ => ⟨rfl, rfl⟩

theorem trackerFirst_ne_empty (sd : Side) : trackerFirst sd ≠ .empty := by
  cases sd <;> decide

theorem trackerSecond_ne_empty (sd : Side) : trackerSecond sd ≠ .empty := by
  cases sd <;> decide

theorem trackerThird_ne_empty (sd : Side) : trackerThird sd ≠ .empty := by
  cases sd <;> decide

theorem Tracker.noteFollower_law (sd : Side) (old : PerZone Bool) (h : t.state ≠ .empty) : (t.noteFollower sd old).law := by
  unfold Tracker.noteFollower
  split
  · exact Tracker.law_of_ne_empty h
  · exact Tracker.law_of_ne_empty h

theorem Tracker.fromEmpty_law (h : t.law) : t.fromEmpty.1.law := by
  unfold Tracker.fromEmpty
  split
  · exact Tracker.law_of_ne_empty (by dsimp only; split <;> decide)
  · exact Tracker.law_of_ne_empty (by dsimp only; split <;> decide)
  · exact t.toEmpty_law true
  · exact h

theorem Tracker.fromFirst_law (sd : Side) (old : PerZone Bool) (h : t.state ≠ .empty) : (t.fromFirst sd old).1.law := by
  dsimp only [Tracker.fromFirst]
  split
  · exact t.toEmpty_law true
  split
  · exact Tracker.law_of_ne_empty (trackerSecond_ne_empty sd)
  split
  · exact t.toEmpty_law _
  · exact Tracker.law_of_ne_empty h

theorem Tracker.fromSecond_law (sd : Side) (old : PerZone Bool) (h : t.state ≠ .empty) : (t.fromSecond sd old).1.law := by
  dsimp only [Tracker.fromSecond]
  split
  · split
    · exact t.toEmpty_law true
    · exact Tracker.noteFollower_law sd old (trackerThird_ne_empty sd)
  split
  · exact Tracker.law_of_ne_empty (trackerFirst_ne_empty sd)
  split
  · exact t.toEmpty_law false
  · exact Tracker.noteFollower_law sd old h

theorem Tracker.afterPassage_law (t : Tracker) (sd : Side) : (t.afterPassage sd).1.law := by
  dsimp only [Tracker.afterPassage]
  split
  · exact Tracker.law_of_ne_empty (trackerSecond_ne_empty sd)
  split
  · exact Tracker.law_of_ne_empty (trackerFirst_ne_empty sd)
  split
  · exact Tracker.toEmpty_law _ _
  · exact Tracker.toEmpty_law _ _

theorem Tracker.fromThird_law (sd : Side) (old : PerZone Bool) (h : t.state ≠ .empty) : (t.fromThird sd old).1.law := by
  dsimp only [Tracker.fromThird]
  split
  · split
    · exact t.afterPassage_law sd
    split
    · exact t.afterPassage_law sd
    · exact Tracker.law_of_ne_empty (trackerSecond_ne_empty sd)
  · exact Tracker.noteFollower_law sd old h

theorem Tracker.patternChange_law (new : PerZone Bool) (h : t.law) : (t.patternChange new).1.law := by
  dsimp only [Tracker.patternChange]
  split
  · exact h
  split
  next => exact Tracker.fromEmpty_law (t := { t with pattern := new }) h
  next hs => exact Tracker.fromFirst_law _ _ (by simp [hs])
  next hs => exact Tracker.fromSecond_law _ _ (by simp [hs])
  next hs => exact Tracker.fromThird_law _ _ (by simp [hs])
  next hs => exact Tracker.fromFirst_law _ _ (by simp [hs])
  next hs => exact Tracker.fromSecond_law _ _ (by simp [hs])
  next hs => exact Tracker.fromThird_law _ _ (by simp [hs])

end Tracking

/-! Zones and inputs (R119 to R125). -/

section Inputs

variable {s u : State}

theorem Aisle.settle_tracker (x : Aisle) (i : Input) : (x.settle i).tracker = x.tracker := by
  unfold Aisle.settle
  split <;> rfl

theorem State.Keeps.settle {i : Input} (h : s.Keeps u) : s.Keeps { u with aisle := u.aisle.settle i } :=
  h.frame (by simp only [State.lists, Aisle.settle_tracker])

theorem State.Keeps.stuckChange {z : Zone} (h : s.Keeps u) : s.Keeps (u.stuckChange z) :=
  .ite (h.frame (by rfl)) (.ite (State.Keeps.clearOrdered (h.frame (by rfl))) (h.frame (by rfl)))

theorem State.Keeps.stuckExpires {z : Zone} (h : s.Keeps u) : s.Keeps (u.stuckExpires z) := by
  unfold State.stuckExpires
  split
  · exact h
  · have hstuck : s.Keeps (u.setStuck z { timer := none, stuck := true }) := h.frame (by rfl)
    have hempty := hstuck.setTracker fun _ => u.aisle.tracker.toEmpty_law true
    exact .ite hempty hempty.raiseOrdered

theorem State.Keeps.patternChange (h : s.Keeps u) : s.Keeps u.patternChange :=
  State.Keeps.handPattern (State.Keeps.takeReports (h.setTracker (Tracker.patternChange_law u.aisle.zones)))

theorem State.Keeps.settleZones {zs : List Zone} (h : s.Keeps u) : s.Keeps (u.settleZones zs) := by
  induction zs generalizing u with
  | nil => exact h
  | cons z zs ih =>
    unfold State.settleZones
    split
    · exact ih h
    · exact ih h.settle.stuckChange

theorem State.Keeps.zonesSettle {zs : List Zone} (h : s.Keeps u) : s.Keeps (u.zonesSettle zs) :=
  .ite h.settleZones.patternChange h

theorem State.Keeps.equipmentSettles {i : Input} (h : s.Keeps u) : s.Keeps (u.equipmentSettles i) := by
  have hsettled : s.Keeps { u with aisle := u.aisle.settle i } := h.settle
  unfold State.equipmentSettles
  split
  · exact h
  · cases i with
    | openLimit => exact hsettled.openLimitChanged
    | closedLimit => exact hsettled.closedLimitChanged
    | driveFault => exact .ite hsettled.driveFaultActive hsettled
    | emergency => exact hsettled.emergencyChanged
    | za | zm | zb => exact hsettled

theorem State.Keeps.debounced {g : DebounceGroup} (h : s.Keeps u) : s.Keeps (u.debounced g) := by
  unfold State.debounced
  split
  · exact h.zonesSettle
  split
  · exact h.zonesSettle
  · exact h.equipmentSettles

theorem Aisle.refilter_eq (x : Aisle) (i : Input) : x.refilter i = { x with filters := (x.refilter i).filters } := by
  unfold Aisle.refilter
  dsimp only
  repeat' split
  all_goals rfl

theorem State.Keeps.rawChange {i : Input} {high : Bool} (h : s.Keeps u) : s.Keeps (u.rawChange i high) :=
  by
  have hrefilter := Aisle.refilter_eq { u.aisle with pins := u.aisle.pins.set i high } i
  exact h.frame (by rw [State.rawChange, hrefilter]; rfl)

end Inputs

/-! The holds and the clock (R8, R78, R79, R85, R159 to R161). -/

section Holds

variable {s u : State} {sd : Side}

theorem State.Keeps.enterBarrierHold (h : s.Keeps u) : s.Keeps u.enterBarrierHold :=
  have hheld := State.Keeps.giveHold (u := { u with sup := { u.sup with barrierHold := true } }) (h.frame (by rfl))
  hheld.frame (by rfl)

theorem State.Keeps.leaveBarrierHold (h : s.Keeps u) : s.Keeps u.leaveBarrierHold :=
  have hlifted : s.Keeps { u with sup := { u.sup with barrierHold := false } } := h.frame (by rfl)
  State.Keeps.liftHold (State.Keeps.frame (.ite hlifted.driveFaultActive hlifted) (by rfl))

theorem State.Keeps.enterReaderHold (h : s.Keeps u) : s.Keeps (u.enterReaderHold sd) :=
  have hheld : s.Keeps (State.setReader { u with sup := { u.sup with readerHold := u.sup.readerHold.set sd true } } sd
      { u.reader sd with needsSettle := decide ((u.reader sd).link = .settling) || !(u.reader sd).carrier }) := h.frame (by rfl)
  State.Keeps.abortTx (.ite hheld.linkDown hheld)

theorem State.Keeps.leaveReaderHold (h : s.Keeps u) : s.Keeps (u.leaveReaderHold sd) :=
  .ite (.ite (h.frame (by rfl)) (State.Keeps.linkSearching (h.frame (by rfl)))) (h.frame (by rfl))

theorem State.Keeps.swap {version day : Nat} (h : s.Keeps u) : s.Keeps (u.swap version day) :=
  have hnoted := State.Keeps.appendUnreserved (side := none) (body := .tariffActivated version u.activeVersion day)
    (u := u.exchangeBanks) (h.frame (by rfl))
  .ite hnoted hnoted.clearPlain

theorem State.Keeps.swapTest (h : s.Keeps u) : s.Keeps u.swapTest := by
  unfold State.swapTest
  split
  · exact h
  · exact .ite h.swap h

theorem State.Keeps.minuteStep {now : Nat} (h : s.Keeps u) : s.Keeps (u.minuteStep now) :=
  h.swapTest.setScreen (Screen.keeps_minute _ now)

theorem State.Keeps.advanceClock (h : s.Keeps u) : s.Keeps u.advanceClock := by
  unfold State.advanceClock
  split
  · exact h
  · exact .ite (State.Keeps.raisePlain (h.frame (by rfl))) (.ite (State.Keeps.minuteStep (h.frame (by rfl))) (h.frame (by rfl)))

/-- A forced setting empties the sightings table (R115). -/
theorem State.Keeps.takeSetting {t : Nat} {forced : Bool} (h : s.Keeps u) : s.Keeps (u.takeSetting t forced) := by
  have hset : s.Keeps (u.setClock (some t)) := h.frame (by rfl)
  have hempty : (u.setClock (some t)).screen.Keeps { (u.setClock (some t)).screen with sightings := [] } :=
    Screen.keeps_sightings (n := u.screen.nextJoin) fun hs => hs.sublist (List.nil_sublist _)
  have hnoted := State.Keeps.appendUnreserved (side := none) (body := .clockSet u.now t forced)
    (State.Keeps.minuteStep (now := t) (.ite (c := forced = true) (hset.setScreen hempty) hset))
  exact .ite hnoted hnoted.clearPlain

end Holds

end Sys2Proof.Machine
end

section
/-! What every event keeps of the lists and counters: the sides and the transaction engine. -/

namespace Sys2Proof.Machine

/-! The hail (R4, R5, R23 to R27). -/

section Hail

variable {s u : State} {sd : Side} {card : CardId}

theorem State.Keeps.refuseHail {o : TapOutcome} {reason : Option CloneReason} {tariff : Option Nat} (h : s.Keeps u) :
    s.Keeps (u.refuseHail sd card o reason tariff) :=
  have hnoticed := State.Keeps.notify (n := .tapResult
    { side := sd, outcome := o, card := some card, reason := reason, capture := none, grant := .none, charge := none, tariff := tariff })
    (u := u.handRefusal sd) (h.frame (by rfl))
  hnoticed.frame (by rfl)

theorem State.Keeps.startTx {instant : Nat} (h : s.Keeps u) : s.Keeps (u.startTx sd card instant) :=
  .ite (State.Keeps.refuseHail (h.frame (by rfl))) (h.frame (by rfl))

theorem State.Keeps.reserveAndStart {instant : Nat} (h : s.Keeps u) : s.Keeps (u.reserveAndStart sd card instant) :=
  .ite h.refuseHail (.ite (State.Keeps.startTx (h.frame (by rfl))) (State.Keeps.refuseHail (h.frame (by rfl))))

theorem State.Keeps.openTap (h : s.Keeps u) : s.Keeps (u.openTap sd card) := by
  refine .ite ?_ h.swapTest.refuseHail
  split
  · exact h.swapTest.refuseHail
  · exact h.swapTest.reserveAndStart

theorem State.Keeps.hailEvent (h : s.Keeps u) : s.Keeps (u.hailEvent sd card) :=
  .ite (.ite h.refuseHail h.openTap) h.refuseHail

theorem State.Keeps.collide (h : s.Keeps u) : s.Keeps (u.collide sd) := by
  have hheard : s.Keeps (u.setReader sd { (u.reader sd).heard.restartHold with holdoff := some holdoffMs }) := h.frame (by rfl)
  refine .ite ?_ hheard
  refine State.Keeps.frame (u := State.notify (State.handRefusal _ sd) _) (State.Keeps.notify ?_) (by rfl)
  exact hheard.frame (by rfl)

theorem State.Keeps.oneCard (h : s.Keeps u) : s.Keeps (u.oneCard sd card) :=
  .ite (h.frame (by rfl)) (.ite (State.Keeps.hailEvent (h.frame (by rfl))) (h.frame (by rfl)))

theorem State.Keeps.judgeWindow {w : HailWindow} (h : s.Keeps u) : s.Keeps (u.judgeWindow sd w) := by
  refine .ite h.collide ?_
  split
  · exact h
  · exact .ite h.oneCard h.collide

end Hail

/-! Finishing work (R30 to R36). -/

section Finishing

variable {s u : State} {sd : Side}

theorem State.Keeps.finishMark {capture : CaptureResult} (h : s.Keeps u) : s.Keeps (u.finishMark sd capture) := by
  unfold State.finishMark
  split
  · exact h
  split
  · exact h
  · exact State.Keeps.finishTx (State.Keeps.captureHold (h.appendReserved.frame (by rfl)))

theorem State.Keeps.cardLost (h : s.Keeps u) : s.Keeps (u.cardLost sd) := by
  unfold State.cardLost
  split
  · exact h.detach.finishTx
  · exact h.finishMark
  · exact h.finishTx
  · exact h.finishTx
  · exact h.finishTx
  · exact h.finishTx
  · exact h

theorem State.Keeps.ask {f : LinkFrame} (h : s.Keeps u) : s.Keeps (u.ask sd f) :=
  .ite (h.frame (by rfl)) h.cardLost

theorem State.Keeps.enterMarking {o : TapOutcome} {reason : Option CloneReason} (h : s.Keeps u) : s.Keeps (u.enterMarking sd o reason) :=
  State.Keeps.ask (State.Keeps.releasePin (h.frame (by rfl)))

theorem State.Keeps.captureVerdict {o : TapOutcome} {reason : Option CloneReason} (h : s.Keeps u) :
    s.Keeps (u.captureVerdict sd o reason) :=
  .ite h.enterMarking h.finishTx

theorem State.Keeps.enterWriting {target : SlotNo} {record : CardRecord} (h : s.Keeps u) : s.Keeps (u.enterWriting sd target record) :=
  State.Keeps.ask (State.Keeps.releasePin (h.frame (by rfl)))

theorem State.Keeps.settleWrite {f : FareRecord} {o : TapOutcome} (h : s.Keeps u) : s.Keeps (u.settleWrite sd f o) := by
  unfold State.settleWrite
  split
  · exact h
  · exact h.removeEntry.appendReserved.fill.recordCommit.finishTx

theorem State.Keeps.grantStaff (h : s.Keeps u) : s.Keeps (u.grantStaff sd) := by
  unfold State.grantStaff
  split
  · exact h
  · exact h.fill.finishTx

theorem State.Keeps.grantRepeat {expired : Bool} {r : CardRecord} (h : s.Keeps u) : s.Keeps (u.grantRepeat sd expired r) := by
  unfold State.grantRepeat
  split
  · exact h
  · exact State.Keeps.finishTx (.ite h.fill.repeatGranted h.fill)

theorem State.Keeps.supersede {e : InDoubt} {instant found : Nat} (h : s.Keeps u) : s.Keeps (u.supersede sd e instant found) :=
  have hgone : s.Keeps ((((u.removeEntry e.card).appendReserved (some instant) (some e.side)
      (.inDoubtSuperseded e.card e.oldCounter e.record e.fare.kind e.fare.charge e.tariff found))).mapTx sd
        fun t => { t with attached := none }) := h.removeEntry.appendReserved.frame (by rfl)
  .ite (hgone.frame (by rfl)) hgone.finishTx

theorem State.Keeps.rewrite {e : InDoubt} (h : s.Keeps u) : s.Keeps (u.rewrite sd e) := by
  unfold State.rewrite
  split
  · exact h.finishTx
  · exact State.Keeps.enterWriting (h.frame (by rfl))

theorem State.Keeps.unreserve (h : s.Keeps u) : s.Keeps u.unreserve :=
  h.frame (by rfl)

theorem State.Keeps.mapTx {f : Transaction → Transaction} (h : s.Keeps u) : s.Keeps (u.mapTx sd f) :=
  h.frame (by rfl)

theorem State.Keeps.resolve {e : InDoubt} {x : Transaction} {n : SlotNo} {r : CardRecord} (h : s.Keeps u) :
    s.Keeps (u.resolve sd e x n r) := by
  have hattached := h.mapEntry (card := e.card) (f := fun e => { e with attached := true })
  have hgiven := State.Keeps.ite (c := x.journalHeld = true) hattached.unreserve hattached
  have hjudged := hgiven.mapTx (sd := sd) (f := fun t => { t with attached := some e.card, journalHeld := false })
  dsimp only [State.resolve]
  split
  · exact hjudged.settleWrite
  · exact hjudged.rewrite
  · exact hjudged.supersede

theorem State.Keeps.enterScreening (h : s.Keeps u) : s.Keeps (u.enterScreening sd) := by
  have hentered : s.Keeps (u.setCtxState sd .screening) := h.frame (by rfl)
  dsimp only [State.enterScreening]
  split
  · exact hentered
  split
  · exact .ite hentered.resolve hentered.finishTx
  · exact hentered

theorem State.Keeps.checkProduct {x : Transaction} {area : StaticArea} (h : s.Keeps u) : s.Keeps (u.checkProduct sd x area) := by
  refine .ite h.finishTx ?_
  split
  · exact State.Keeps.finishTx (h.frame (by rfl))
  · exact State.Keeps.enterScreening (h.frame (by rfl))

theorem State.Keeps.verify (h : s.Keeps u) : s.Keeps (u.verify sd) := by
  unfold State.verify
  split
  · exact h
  split
  · exact h
  split
  · exact h.finishTx
  refine .ite ?_ h.finishTx
  split
  · exact h.finishTx
  · exact h.captureVerdict
  · exact State.Keeps.checkProduct (h.frame (by rfl))

end Finishing

/-! Screening and pricing (R30, R33, R34, R38, R49, R93, R94, R106). -/

section Screening

variable {s u : State} {sd : Side}

theorem State.Keeps.enterPricing (h : s.Keeps u) : s.Keeps (u.enterPricing sd) :=
  State.Keeps.askPricing (h.frame (by rfl))

theorem State.Keeps.actOnVerdict {r : CardRecord} {v : Verdict} (h : s.Keeps u) : s.Keeps (u.actOnVerdict sd r v) := by
  cases v with
  | serve => exact h.enterPricing
  | refuse o => exact h.finishTx
  | capture o reason => exact h.captureVerdict
  | repeated expired => exact h.grantRepeat

theorem State.Keeps.judgeCard {x : Transaction} {r : CardRecord} {m : DenyMark} (h : s.Keeps u) : s.Keeps (u.judgeCard sd x r m) :=
  State.Keeps.actOnVerdict (h.setScreen (Screen.keeps_noteVerdict _ _ _))

theorem State.Keeps.screen1 (h : s.Keeps u) : s.Keeps (u.screen1 sd) := by
  unfold State.screen1
  split
  · exact h
  split
  · exact .ite h.enterPricing (.ite (h.frame (by rfl)) h.judgeCard)
  · exact h

theorem State.Keeps.screenEvent (h : s.Keeps u) : s.Keeps (u.screenEvent sd) :=
  .ite h.screen1 h

theorem State.Keeps.screenWaiting (h : s.Keeps u) : s.Keeps (u.screenWaiting sd) :=
  .ite (State.Keeps.screen1 (h.frame (by rfl))) h

/-- An entry joins the in-doubt table only where it has room (R34, R38). -/
theorem State.Keeps.commitPoint {x : Transaction} {record : CardRecord} {f : FareRecord} {target : SlotNo} (h : s.Keeps u) :
    s.Keeps (u.commitPoint sd x record f target) := by
  unfold State.commitPoint
  split
  · exact h.finishTx
  split
  · exact h.finishTx
  next hroom =>
    refine State.Keeps.enterWriting (State.Keeps.setAlternate (State.Keeps.frame (h.setEntries fun _ => ?_) (by rfl)))
    rw [List.length_append, List.length_singleton]
    omega

theorem State.Keeps.actOnPrice {x : Transaction} {p : PricingResult} (h : s.Keeps u) : s.Keeps (u.actOnPrice sd x p) := by
  cases p with
  | refuse o => exact h.finishTx
  | staff => exact h.grantStaff
  | write record f =>
    dsimp only [State.actOnPrice]
    split
    · exact State.Keeps.commitPoint (h.frame (by rfl))
    · exact h

theorem State.Keeps.pricingEnds (h : s.Keeps u) : s.Keeps u.pricingEnds := by
  have htaken : s.Keeps { u with fares := { u.fares with current := none } } := h.frame (by rfl)
  unfold State.pricingEnds
  split
  · exact h
  dsimp only
  split
  · exact htaken.takeWaiting
  split
  · exact htaken.takeWaiting
  · exact htaken.actOnPrice.takeWaiting

end Screening

/-! Answers and timers of the sides (R2 to R15, R29). -/

section Answers

variable {s u : State} {sd : Side}

theorem State.Keeps.claimAnswered {area : StaticArea} {blocked : Bool} (h : s.Keeps u) : s.Keeps (u.claimAnswered sd area blocked) :=
  State.Keeps.ask (h.frame (by rfl))

theorem State.Keeps.slotAnswered {no : SlotNo} {w : RawRecord} (h : s.Keeps u) : s.Keeps (u.slotAnswered sd no w) := by
  cases no with
  | zero => exact State.Keeps.ask (h.frame (by rfl))
  | one => exact State.Keeps.verify (h.frame (by rfl))

theorem State.Keeps.doneAnswered (h : s.Keeps u) : s.Keeps (u.doneAnswered sd) := by
  have hended : s.Keeps (u.setReader sd (u.reader sd).endExchange) := h.frame (by rfl)
  dsimp only [State.doneAnswered]
  split
  · split
    · exact hended.settleWrite
    · exact hended
  · exact hended.finishMark
  · exact hended

theorem State.Keeps.claimedArrives {ok : Bool} {area : StaticArea} {blocked : Bool} (h : s.Keeps u) :
    s.Keeps (u.claimedArrives sd ok area blocked) := by
  unfold State.claimedArrives
  split
  · exact .ite h.claimAnswered h
  · exact h.frame (by rfl)

theorem State.Keeps.slotArrives {ok turn : Bool} {no : SlotNo} {w : RawRecord} (h : s.Keeps u) :
    s.Keeps (u.slotArrives sd ok turn no w) := by
  unfold State.slotArrives
  split
  · exact .ite h.slotAnswered h
  · exact h.frame (by rfl)

theorem State.Keeps.doneArrives {ok turn : Bool} (h : s.Keeps u) : s.Keeps (u.doneArrives sd ok turn) := by
  unfold State.doneArrives
  split
  · exact .ite h.doneAnswered h
  · exact .ite h.doneAnswered h
  · exact h.frame (by rfl)

theorem State.Keeps.settleExpires (h : s.Keeps u) : s.Keeps (u.settleExpires sd) := by
  unfold State.settleExpires
  split
  · exact h
  · exact h.linkSearching

theorem State.Keeps.summonsExpires (h : s.Keeps u) : s.Keeps (u.summonsExpires sd) := by
  dsimp only [State.summonsExpires]
  split
  · exact h
  · exact .ite (h.frame (by rfl)) (h.frame (by rfl))

theorem State.Keeps.idleExpires (h : s.Keeps u) : s.Keeps (u.idleExpires sd) := by
  dsimp only [State.idleExpires]
  split
  · exact h
  · exact h.frame (by rfl)

theorem State.Keeps.holdoffExpires (h : s.Keeps u) : s.Keeps (u.holdoffExpires sd) := by
  dsimp only [State.holdoffExpires]
  split
  · exact h
  · exact .ite (h.frame (by rfl)) (h.frame (by rfl))

theorem State.Keeps.carrierLost (h : s.Keeps u) : s.Keeps (u.carrierLost sd) :=
  have hdown := State.Keeps.raisePlain (c := sd.readerClass) (State.Keeps.linkDown (sd := sd)
    (u := u.setReader sd { u.reader sd with carrier := false, needsSettle := u.sup.readerHold.get sd }) (h.frame (by rfl)))
  .ite (.ite hdown.cardLost hdown) h

theorem State.Keeps.carrierReturns (h : s.Keeps u) : s.Keeps (u.carrierReturns sd) :=
  have hback := State.Keeps.clearPlain (c := sd.readerClass) (u := u.setReader sd { u.reader sd with carrier := true }) (h.frame (by rfl))
  .ite h (.ite hback (hback.frame (by rfl)))

theorem State.Keeps.answerExpires (h : s.Keeps u) : s.Keeps (u.answerExpires sd) := by
  dsimp only [State.answerExpires]
  split
  · exact h
  · exact .ite (h.frame (by rfl)) (State.Keeps.cardLost (h.frame (by rfl)))

theorem State.Keeps.guardExpires (h : s.Keeps u) : s.Keeps (u.guardExpires sd) := by
  unfold State.guardExpires
  split
  · exact h
  · exact h.abortTx

end Answers

end Sys2Proof.Machine
end

section
/-! The laws of the tables, settings and the host port over every event and every request (R100 to R109, R120, R142, R163, R173 to R177,
R181). -/

namespace Sys2Proof.Machine

/-! The relation: law by law. -/

/-- Each law of the tables, settings and the host port that the first state meets, the second meets. The direction table is replaced by
requests that have been judged (R142, R174). -/
structure State.Lawful (s t : State) : Prop where
  denylist : s.screen.denylistLaw → t.screen.denylistLaw
  hold : s.screen.holdLaw → t.screen.holdLaw
  sighting : s.screen.sightingLaw → t.screen.sightingLaw
  doubt : s.doubt.law → t.doubt.law
  port : s.port.law → t.port.law
  tracker : s.aisle.tracker.law → t.aisle.tracker.law
  params : s.aisle.paramLaw → t.aisle.paramLaw
  range : s.port.receiverLaw → s.gate.rangeLaw → t.gate.rangeLaw
  lamp : s.lampLaw → t.lampLaw
  receiver : s.port.receiverLaw → t.port.receiverLaw

theorem State.Lawful.refl (s : State) : s.Lawful s :=
  ⟨id, id, id, id, id, id, id, fun _ => id, id, id⟩

section Relation

variable {s t u : State}

theorem State.Lawful.trans (h : s.Lawful t) (k : t.Lawful u) : s.Lawful u where
  denylist := k.denylist ∘ h.denylist
  hold := k.hold ∘ h.hold
  sighting := k.sighting ∘ h.sighting
  doubt := k.doubt ∘ h.doubt
  port := k.port ∘ h.port
  tracker := k.tracker ∘ h.tracker
  params := k.params ∘ h.params
  range := fun hr hg => k.range (h.receiver hr) (h.range hr hg)
  lamp := k.lamp ∘ h.lamp
  receiver := k.receiver ∘ h.receiver

theorem State.Lawful.ite {c : Prop} [Decidable c] (h : s.Lawful t) (k : s.Lawful u) : s.Lawful (if c then t else u) := by
  split
  · exact h
  · exact k

theorem Screen.holdLaw_iff (c : Screen) : c.holdLaw ↔ HoldsLawful c.holds ∧ 1 ≤ c.holdHours ∧ c.holdHours ≤ 72 := by
  simp only [Screen.holdLaw, HoldsLawful, and_assoc]

theorem Screen.sightingLaw_iff (c : Screen) : c.sightingLaw ↔ SightingsLawful c.sightings ∧ c.horizonLaw := by
  simp only [Screen.sightingLaw, SightingsLawful, Screen.horizonLaw, and_assoc]

/-- The order and the capacities of the denylist, its build area and its queue, and the last card ID of a build area are ruled alike where
they are the same. -/
theorem Screen.denylistLaw.congr {c d : Screen} (h : c.denylistLaw) (hs : c.Same d) : d.denylistLaw := by
  obtain ⟨-, -, hlist, -, hqueue, -, -, -, hbuild, -, hlast, -⟩ := hs
  rw [Screen.denylistLaw, hlist, hqueue, hbuild, hlast]
  exact h

theorem Port.law.congr {p q : Port} (h : p.law) (hs : p.Same q) (hn : q.noticeLaw) : q.law := by
  obtain ⟨-, -, hrequests, htaken, houtgoing, hrejection, -⟩ := hs
  obtain ⟨hqueue, hreplies, hcount, -, -, hhead⟩ := h
  refine ⟨hrequests ▸ hqueue, houtgoing ▸ hreplies, hrejection ▸ hcount, hn.1, hn.2, fun ht => ?_⟩
  rw [hrequests, houtgoing]
  exact hhead (htaken ▸ ht)

theorem Port.receiverLaw.congr {p q : Port} (h : p.receiverLaw) (hreceiver : q.receiver = p.receiver) (hgap : q.gap = p.gap)
    (hrequests : q.requests = p.requests) : q.receiverLaw := by
  rw [Port.receiverLaw, hreceiver, hgap, hrequests]
  exact h

theorem Port.law.notices {p : Port} (h : p.law) : p.noticeLaw := by
  obtain ⟨-, -, -, hnotices, hdiscarded, -⟩ := h
  exact ⟨hnotices, hdiscarded⟩

theorem Gate.rangeLaw.counts {g : Gate} (h : g.rangeLaw) : g.countLaw := by
  obtain ⟨-, -, -, hpointer, -, hcount⟩ := h
  exact ⟨hpointer, hcount⟩

/-- What an event of the gate leaves as it is, and what it keeps, are all that the laws speak of. -/
theorem State.Lawful.of_event (hsame : Same s t) (h : s.Keeps t) : s.Lawful t := by
  obtain ⟨-, -, -, hparams, hperiod, -, hhours, hcapture, hlist, hversion, hqueue, harrivals, happlying, hbuild, hbuildList,
    hbuildVersion, hbuildLast, hhorizon, hdirections, htravel, hclose, hwindow, -, -, -, -, hlamp, hport⟩ := hsame
  obtain ⟨hreceiver, hgap, hrequests, -⟩ := id hport
  constructor
  case denylist =>
    exact fun hs => hs.congr ⟨hhours, hcapture, hlist, hversion, hqueue, harrivals, happlying, hbuild, hbuildList, hbuildVersion,
      hbuildLast, hhorizon⟩
  case hold =>
    rw [Screen.holdLaw_iff, Screen.holdLaw_iff, hhours]
    exact And.imp_left h.screen.holds
  case sighting =>
    rw [Screen.sightingLaw_iff, Screen.sightingLaw_iff]
    exact And.imp h.screen.sightings h.screen.horizon
  case doubt =>
    rw [DoubtTable.law, DoubtTable.law, hperiod]
    exact And.imp_left h.doubt
  case port => exact fun hs => hs.congr hport (h.notices hs.notices)
  case tracker => exact h.tracker
  case params => exact fun hs i => hparams ▸ hs i
  case range =>
    intro _ hs
    obtain ⟨hpointer, hcount⟩ := h.counts hs.counts
    obtain ⟨ht, hc, hw, -, hd, -⟩ := hs
    exact ⟨htravel ▸ ht, hclose ▸ hc, hwindow ▸ hw, hpointer, hdirections ▸ hd, hcount⟩
  case lamp =>
    rw [State.lampLaw, State.lampLaw, hlamp]
    exact id
  case receiver => exact fun hs => hs.congr hreceiver hgap hrequests

end Relation

/-! The transmitter and the queue of the port (R173 to R177). -/

section Queue

variable {p : Port}

theorem Port.pump_rejection_le (p : Port) : p.pump.rejection ≤ p.rejection := by
  unfold Port.pump
  repeat' split
  all_goals simp

theorem Port.law.pump (h : p.law) : p.pump.law := by
  have hnotices := h.notices.pump
  have hreplies := p.pump_outgoing_le
  obtain ⟨hqueue, houtgoing, hrejection, -, -, hhead⟩ := h
  refine ⟨by rwa [Port.pump_requests], hreplies.trans houtgoing, p.pump_rejection_le.trans hrejection, hnotices.1, hnotices.2,
    fun ht => ?_⟩
  rw [Port.pump_headTaken] at ht
  rw [Port.pump_requests]
  exact (hhead ht).imp_right hreplies.trans

theorem Port.receiverLaw.pump (h : p.receiverLaw) : p.pump.receiverLaw :=
  h.congr p.pump_receiver.1 p.pump_receiver.2 p.pump_requests

theorem Request.judged_cases (r : Request) : r.judged = r ∨ r.judged = .badLength r.kind := by
  cases r with
  | setLampPriority l | setDirectionTable l | setNoticeMask l | tariffLoad n l | denylistPage l => exact ite_eq_or_eq ..
  | _ => exact .inl rfl

theorem Request.judged_judged (r : Request) : r.judged.judged = r.judged := by
  rcases r.judged_cases with h | h
  · rw [h, h]
  · rw [h]
    rfl

/-- A request joins a queue that has room, and BUSY joins the replies only where 6 or fewer wait (R175, R176). -/
theorem Port.law.arrive (h : p.law) (tag : Byte) (r : Request) : (p.arrive tag r).law := by
  obtain ⟨hqueue, houtgoing, hrejection, hnotices, hdiscarded, hhead⟩ := id h
  unfold Port.arrive
  split
  next hroom => exact ⟨by simpa using hroom, houtgoing, hrejection, hnotices, hdiscarded, fun ht => ⟨by simp, (hhead ht).2⟩⟩
  split
  · exact h
  next hbusy =>
    have hfew : (p.outgoing ++ [r.reply tag .busy []]).length ≤ 7 := by
      rw [List.length_append, List.length_singleton]
      omega
    exact ⟨hqueue, hfew.trans (by decide), hrejection, hnotices, hdiscarded, fun ht => ⟨(hhead ht).1, hfew⟩⟩

theorem Port.receiverLaw.arrive (h : p.receiverLaw) (tag : Byte) (r : Request) : (p.arrive tag r.judged).receiverLaw := by
  obtain ⟨hjudged, hreceiver⟩ := id h
  unfold Port.arrive
  split
  · refine ⟨fun q hq => ?_, hreceiver⟩
    rcases List.mem_append.mp hq with hq | hq
    · exact hjudged q hq
    · rw [List.mem_singleton.mp hq]
      exact r.judged_judged
  split
  · exact h
  · exact h

theorem Port.law.replyHead (h : p.law) (hroom : p.outgoing.length ≤ 7) (r : Reply) : (p.replyHead r).law := by
  obtain ⟨hqueue, -, hrejection, hnotices, hdiscarded, -⟩ := h
  refine ⟨?_, ?_, hrejection, hnotices, hdiscarded, nofun⟩
  · exact (List.drop_sublist 1 _).length_le.trans hqueue
  · simpa [Port.replyHead] using Nat.lt_succ_of_le hroom

theorem Port.receiverLaw.replyHead (h : p.receiverLaw) (r : Reply) : (p.replyHead r).receiverLaw :=
  ⟨fun q hq => h.1 q (List.mem_of_mem_drop hq), h.2⟩

theorem Port.law.discardFrame (h : p.law) : p.discardFrame.law := by
  obtain ⟨hqueue, houtgoing, -, hrest⟩ := h
  exact ⟨hqueue, houtgoing, Nat.min_le_left _ _, hrest⟩

theorem Port.receiverLaw.discardFrame (h : p.receiverLaw) : p.discardFrame.receiverLaw :=
  ⟨h.1, rfl⟩

/-- The length field is the first two bytes, whatever follows. -/
theorem collectedLength_append {bytes : List Byte} (h : 2 ≤ bytes.length) (b : Byte) :
    collectedLength (bytes ++ [b]) = collectedLength bytes := by
  rw [collectedLength, collectedLength, fieldAt, fieldAt, List.drop_zero, List.drop_zero, List.take_append_of_le_length h]

theorem Port.law.takeByte (h : p.law) (b : Byte) (stopBit : Bool) : (p.takeByte b stopBit).1.law := by
  unfold Port.takeByte
  split
  · split
    · exact h
    · exact h
  split
  · unfold Port.collect
    repeat' split
    · exact h.discardFrame
    · exact h
    · exact h.discardFrame
    · exact h
  · exact h.discardFrame

/-- A frame that is not complete has more bytes to come, and its length field, once it is there, is at most 600 (R173). -/
theorem Port.receiverLaw.takeByte (h : p.receiverLaw) (b : Byte) (stopBit : Bool) : (p.takeByte b stopBit).1.receiverLaw := by
  unfold Port.takeByte
  split
  · split
    · exact ⟨h.1, rfl, fun hlong => absurd hlong (by decide)⟩
    · exact h
  next bytes hr =>
    split
    · unfold Port.collect
      split
      · exact h.discardFrame
      next hshort =>
        split
        · split
          · exact ⟨h.1, rfl⟩
          · exact h.discardFrame
        next hopen =>
          refine ⟨h.1, rfl, fun hlong => ?_⟩
          obtain ⟨-, hbefore⟩ := h
          simp only [hr] at hbefore
          simp only [frameComplete, hlong, decide_true, Bool.true_and, decide_eq_true_eq] at hopen
          rw [List.length_append, List.length_singleton] at *
          by_cases htwo : 2 ≤ bytes.length
          · have hlength := hbefore.2 htwo
            rw [collectedLength_append htwo] at *
            omega
          · omega
    · exact h.discardFrame

end Queue

end Sys2Proof.Machine
end

section
/-! The laws of the tables, settings and the host port over the requests, the starts and every step (R95, R100, R101, R109, R120, R142,
R163, R173 to R177, R181). -/

namespace Sys2Proof.Machine

/-! The owners that change a table or a setting (R99 to R106, R113, R142, R163, R178, R181). -/

section Owners

variable {s : State}

theorem State.Lawful.answer_ite {c : Prop} [Decidable c] {x y : State × Answer} (hx : s.Lawful x.1) (hy : s.Lawful y.1) :
    s.Lawful (if c then x else y).1 := by
  split
  · exact hx
  · exact hy

theorem clamp_bounds {lo hi : Nat} (h : lo ≤ hi) (v : Nat) : lo ≤ clamp lo hi v ∧ clamp lo hi v ≤ hi :=
  ⟨Nat.le_max_left _ _, Nat.max_le.mpr ⟨h, Nat.min_le_left _ _⟩⟩

theorem Aisle.paramLaw.setParam {x : Aisle} (h : x.paramLaw) (i : Input) {p : InputParam} (hp : 1 ≤ p.debounceMs ∧ p.debounceMs ≤ 50) :
    (x.setParam i p).paramLaw := by
  intro j
  rw [Aisle.setParam, PerInput.get_set]
  split
  · exact hp
  · exact h j

theorem State.setDebounce_lawful (input v : Nat) : s.Lawful (s.setDebounce input v).1 := by
  unfold State.setDebounce
  split
  · exact .refl s
  next i _ => exact { State.Lawful.refl s with params := fun h => h.setParam i (clamp_bounds (by decide) v) }

theorem State.setActiveLevel_lawful (input v : Nat) : s.Lawful (s.setActiveLevel input v).1 := by
  unfold State.setActiveLevel
  split
  next i high _ _ =>
    dsimp only [State.ok]
    rw [Aisle.refilter_eq]
    exact { State.Lawful.refl s with params := fun h => h.setParam i (h i) }
  · exact .refl s

/-- SET_PARAMETER takes "the nearer end of the range" (R181). -/
theorem State.setParameter_lawful (param input v : Nat) : s.Lawful (s.setParameter param input v).1 := by
  unfold State.setParameter
  refine .answer_ite ?period (.answer_ite ?hours (.answer_ite ?horizon (.answer_ite ?capture (.answer_ite (s.setDebounce_lawful input v)
    (.answer_ite (s.setActiveLevel_lawful input v) (.answer_ite ?travel (.answer_ite ?closeDelay (.answer_ite ?window
      (.answer_ite ?resume (.refl s))))))))))
  case period => exact { State.Lawful.refl s with doubt := And.imp_right fun _ => clamp_bounds (by decide) v }
  case hours =>
    refine { State.Lawful.refl s with hold := fun h => ?_ }
    obtain ⟨hordered, hlength, hnodup, -⟩ := h
    exact ⟨hordered, hlength, hnodup, clamp_bounds (by decide) v⟩
  case horizon =>
    refine { State.Lawful.refl s with sighting := fun h => ?_ }
    obtain ⟨hordered, hlength, hnodup, -, hforce⟩ := h
    exact ⟨hordered, hlength, hnodup, clamp_bounds (by decide) v, hforce⟩
  case capture => split <;> exact { State.Lawful.refl s with }
  case travel => exact { State.Lawful.refl s with range := fun _ => And.imp_left fun _ => clamp_bounds (by decide) v }
  case closeDelay =>
    exact { State.Lawful.refl s with range := fun _ => And.imp_right (And.imp_left fun _ => (clamp_bounds (by decide) v).2) }
  case window =>
    exact
      { State.Lawful.refl s with range := fun _ => And.imp_right (And.imp_right (And.imp_left fun _ => clamp_bounds (by decide) v)) }
  case resume => split <;> exact { State.Lawful.refl s with }

theorem length_of_mapAll {α : Type} {f : Nat → Option α} {l : List Nat} {m : List α} (h : mapAll f l = some m) : m.length = l.length := by
  induction l generalizing m with
  | nil =>
    obtain rfl := Option.some.inj h
    rfl
  | cons x l ih =>
    unfold mapAll at h
    split at h
    next y ys _ hys =>
      obtain rfl := Option.some.inj h
      rw [List.length_cons, List.length_cons, ih hys]
    · cases h

theorem State.setDirectionTable_lawful {entries : List Nat} (h : s.port.receiverLaw → entries.length = 16) :
    s.Lawful (s.setDirectionTable entries).1 := by
  unfold State.setDirectionTable
  split
  · exact .refl s
  next sides hs =>
    refine { State.Lawful.refl s with range := fun hr hg => ?_ }
    obtain ⟨ht, hc, hw, -, -, hcount⟩ := hg
    exact ⟨ht, hc, hw, Nat.zero_lt_succ 15, (length_of_mapAll hs).trans (h hr), hcount⟩

theorem State.setLampPriority_lawful (codes : List Nat) : s.Lawful (s.setLampPriority codes).1 := by
  unfold State.setLampPriority
  split
  · exact .refl s
  split
  next h => exact { State.Lawful.refl s with lamp := fun _ => h }
  · exact .refl s

theorem State.setNoticeMask_lawful (codes : List Nat) : s.Lawful (s.setNoticeMask codes).1 := by
  unfold State.setNoticeMask
  split
  · exact .refl s
  next masks _ =>
    have hmasked : s.Lawful { s with port := { s.port with masked := masks } } := { State.Lawful.refl s with }
    exact hmasked.trans (.of_event (by simp) (State.Keeps.refl _).unmaskFrom.unmaskFrom.unmaskFrom.unmaskFrom)

theorem State.denylistUpdate_lawful (add : Bool) (card : CardId) : s.Lawful (s.denylistUpdate add card).1 := by
  unfold State.denylistUpdate
  refine .answer_ite (.refl s) ?_
  split
  · exact .refl s
  next hroom =>
    refine { State.Lawful.refl s with denylist := fun h => ?_ }
    obtain ⟨hlist, hlength, hbuild, hbuildLength, hlast, -⟩ := h
    exact ⟨hlist, hlength, hbuild, hbuildLength, hlast, by simpa [State.setScreen, State.ok, Screen.enqueue] using hroom⟩

theorem State.denylistBegin_lawful (version : Nat) : s.Lawful (s.denylistBegin version).1 := by
  refine .answer_ite (.refl s) (.answer_ite (.refl s) { State.Lawful.refl s with denylist := fun h => ?_ })
  obtain ⟨hlist, hlength, -, -, -, hqueue⟩ := h
  exact ⟨hlist, hlength, rfl, Nat.zero_le _, rfl, hqueue⟩

/-- A page that is taken follows the last card ID of the build area (R105). -/
theorem ascending_append_page {build cards : List CardId} (h : ascending build = true)
    (hpage : pageFollows build.getLast? cards = true) : ascending (build ++ cards) = true := by
  have hcards : ascending cards = true := (Bool.and_eq_true_iff.mp hpage).1
  rw [ascending_iff] at *
  refine List.pairwise_append.mpr ⟨h, hcards, fun x hx y hy => ?_⟩
  obtain ⟨last, hlast⟩ : ∃ z, build.getLast? = some z := Option.isSome_iff_exists.mp (by simpa using List.ne_nil_of_mem hx)
  obtain ⟨first, rest, rfl⟩ := List.exists_cons_of_ne_nil (List.ne_nil_of_mem hy)
  have hfollows : last < first := by
    simp only [pageFollows, hlast, Bool.and_eq_true, decide_eq_true_eq] at hpage
    exact hpage.2
  have hx : x ≤ last := by
    obtain ⟨front, rfl⟩ := List.getLast?_eq_some_iff.mp hlast
    rcases List.mem_append.mp hx with hx | hx
    · exact BitVec.le_of_lt ((List.pairwise_append.mp h).2.2 x hx last (by simp))
    · rw [List.mem_singleton.mp hx]
      exact BitVec.le_refl _
  rcases List.mem_cons.mp hy with rfl | hy
  · bv_omega
  · have hlater := (List.pairwise_cons.mp hcards).1 y hy
    bv_omega

theorem State.denylistPage_lawful (cards : List CardId) : s.Lawful (s.denylistPage cards).1 := by
  unfold State.denylistPage
  split
  · exact .refl s
  split
  · exact .refl s
  next hcount =>
    split
    · exact .refl s
    next hpage =>
      split
      · exact .refl s
      next hroom =>
        refine { State.Lawful.refl s with denylist := fun h => ?_ }
        obtain ⟨hlist, hlength, hbuild, -, hlast, hqueue⟩ := h
        have hne : cards ≠ [] := fun hnil => hcount (.inl (by simp [hnil]))
        refine ⟨hlist, hlength, ascending_append_page hbuild ?_, ?_, ?_, hqueue⟩
        · rw [← hlast]
          simpa using hpage
        · simpa [State.setScreen, State.ok] using hroom
        · exact (List.getLast?_append_of_ne_nil _ hne).symm

theorem State.holdRelease_lawful (card : CardId) : s.Lawful (s.holdRelease card).1 := by
  refine .answer_ite { State.Lawful.refl s with hold := fun h => ?_ } (.refl s)
  rw [Screen.holdLaw_iff] at *
  exact h.imp_left (·.sublist List.filter_sublist)

theorem State.sightingRequest_lawful (f : SightingFields) : s.Lawful (s.sightingRequest f).1 := by
  unfold State.sightingRequest
  split
  · exact .refl s
  split
  · exact .refl s
  split
  · exact .refl s
  · exact .of_event (by simp [State.setScreen, State.ok]) (State.Keeps.setScreen (.refl s) (s.screen.keeps_merge _ _ _))

end Owners

/-! Every request (R175). -/

section Requests

variable {s : State}

theorem State.gateCommand_lawful (code : Nat) : s.Lawful (s.gateCommand code).1 := by
  have hs := State.Keeps.refl s
  have hgrant (sd : Side) : s.Lawful (s.commandGrant sd).1 :=
    .answer_ite (.refl s) (.answer_ite (.refl s) (.of_event (State.join_same _ _ _) hs.join))
  exact .answer_ite (.of_event (State.joinReason_same _ _) hs.joinReason)
    (.answer_ite (.answer_ite (.refl s) (.of_event (State.leaveReason_same _ _) hs.leaveReason))
      (.answer_ite (hgrant .a) (.answer_ite (hgrant .b)
        (.answer_ite (.of_event (t := s.cancelAll.delayEval) (by simp) hs.cancelAll.delayEval) (.refl s)))))

theorem State.serviceHold_lawful (target action : Nat) : s.Lawful (s.serviceHold target action).1 := by
  have hs := State.Keeps.refl s
  have hbarrier (enter : Bool) : s.Lawful (s.barrierHoldRequest enter).1 :=
    .of_event (State.barrierHoldRequest_same _ _) (by
      unfold State.barrierHoldRequest
      split
      · exact hs
      · exact .ite hs.enterBarrierHold hs.leaveBarrierHold)
  have hreader (sd : Side) (enter : Bool) : s.Lawful (s.readerHoldRequest sd enter).1 :=
    .of_event (State.readerHoldRequest_same _ _ _) (by
      unfold State.readerHoldRequest
      split
      · exact hs
      · exact .ite hs.enterReaderHold hs.leaveReaderHold)
  exact .answer_ite (.refl s) (.answer_ite (hbarrier _) (.answer_ite (hreader .a _) (.answer_ite (hreader .b _) (.refl s))))

theorem State.setFaultResponse_lawful (cls response : Nat) : s.Lawful (s.setFaultResponse cls response).1 := by
  unfold State.setFaultResponse
  split
  next c r _ _ =>
    have hresponse : s.Lawful (s.setResponse c r) := by cases c <;> exact { State.Lawful.refl s with }
    exact .answer_ite (hresponse.trans (.of_event (State.recompute_same _) (State.Keeps.refl _).recompute)) (.refl s)
  · exact .refl s

theorem State.setClockRequest_lawful (d : DateTime) (force : Nat) : s.Lawful (s.setClockRequest d force).1 := by
  have hsetting (n : Nat) (forced : Bool) : s.Lawful (s.takeSetting n forced) :=
    .of_event (State.takeSetting_same _ _ _) (State.Keeps.refl s).takeSetting
  unfold State.setClockRequest
  refine .answer_ite ?_ (.refl s)
  split
  · exact .refl s
  split
  · exact hsetting _ _
  · exact .answer_ite (hsetting _ _) (.answer_ite (hsetting _ _) (.refl s))

/-- Whatever the request, its owner keeps the laws; a direction table has 16 entries where requests have been judged. -/
theorem State.carry_lawful {r : Request} (hj : s.port.receiverLaw → r.judged = r) : s.Lawful (s.carry r).1 := by
  have hs := State.Keeps.refl s
  cases r with
  | setParameter param input v => exact State.setParameter_lawful param input v
  | setNoticeMask codes => exact State.setNoticeMask_lawful codes
  | setDirectionTable entries =>
    refine State.setDirectionTable_lawful fun hr => ?_
    by_contra hlength
    exact absurd ((if_neg hlength).symm.trans (hj hr)) nofun
  | setLampPriority codes => exact State.setLampPriority_lawful codes
  | gateCommand code => exact State.gateCommand_lawful code
  | serviceHold target action => exact State.serviceHold_lawful target action
  | setFaultResponse cls response => exact State.setFaultResponse_lawful cls response
  | clearFault cls =>
    exact .answer_ite (.refl s) (.answer_ite (.refl s) (.answer_ite (.refl s) (.of_event (State.clearOrdered_same _ _) hs.clearOrdered)))
  | setClock d force => exact State.setClockRequest_lawful d force
  | denylistAdd card => exact State.denylistUpdate_lawful true card
  | denylistRemove card => exact State.denylistUpdate_lawful false card
  | denylistBegin version => exact State.denylistBegin_lawful version
  | denylistPage cards => exact State.denylistPage_lawful cards
  | holdRelease card => exact State.holdRelease_lawful card
  | sighting f => exact State.sightingRequest_lawful f
  | journalRelease n =>
    exact .of_event (State.journalRelease_same _ _) (by
      dsimp only [State.carry, answered, State.journalRelease]
      repeat' split
      · exact hs
      · exact hs.freeRecords
      · exact hs.freeRecords)
  | _ =>
    dsimp only [State.carry, answered, State.getStatus, State.setIdentity, State.setAisleMode, State.tariffLoad, State.tariffActivate,
      State.tariffDiscard, State.keyLoad, State.keyErase, State.getClock, State.denylistEnd, State.denylistQuery, State.holdListRead,
      State.stationFreePeriod, State.journalRead, State.restartRequest]
    repeat' split
    all_goals exact { State.Lawful.refl s with }

end Requests

end Sys2Proof.Machine
end

section
/-! The laws of the tables, settings and the host port over the port's turns, the starts and every step (R106, R173 to R177, R182). -/

namespace Sys2Proof.Machine

/-! The port's turns (R173 to R176). -/

section Turns

variable {s : State}

theorem State.pump_lawful (s : State) : s.Lawful s.pump where
  __ := State.Lawful.refl s
  port := (·.pump)
  receiver := (·.pump)

/-- A head that is handed over waits in the queue, and finds room for its reply (R175, R176). -/
theorem Port.servable_some {p : Port} {q : Queued} (h : p.servable = some q) : q ∈ p.requests ∧ p.outgoing.length ≤ 7 := by
  unfold Port.servable at h
  split at h
  · cases h
  next hfree =>
    simp only [Bool.or_eq_true, decide_eq_true_eq, not_or, Nat.not_le] at hfree
    exact ⟨List.mem_of_mem_head? (Option.mem_def.mpr h), Nat.le_of_lt_succ hfree.2⟩

theorem State.serve_lawful {q : Queued} (h : s.port.servable = some q) : s.Lawful (s.serve q) := by
  obtain ⟨hmem, hroom⟩ := Port.servable_some h
  have hcarry : s.Lawful (s.carry q.request).1 := State.carry_lawful fun hr => hr.1 q hmem
  obtain ⟨hrequests, -, houtgoing, -⟩ := s.carry_frames q.request
  unfold State.serve
  generalize s.carry q.request = x at hcarry hrequests houtgoing
  obtain ⟨t, a⟩ := x
  have hroom : t.port.outgoing.length ≤ 7 := houtgoing ▸ hroom
  cases a with
  | none =>
    refine hcarry.trans { State.Lawful.refl t with port := fun hp => ?_ }
    obtain ⟨hqueue, hreplies, hrejection, hnotices, hdiscarded, -⟩ := hp
    have hne : t.port.requests ≠ [] := hrequests ▸ List.ne_nil_of_mem hmem
    exact ⟨hqueue, hreplies, hrejection, hnotices, hdiscarded, fun _ => ⟨hne, hroom⟩⟩
  | some a =>
    exact hcarry.trans
      { State.Lawful.refl t with port := fun hp => hp.replyHead hroom _, receiver := fun hr => hr.replyHead _ }

theorem State.settlePort_lawful (s : State) (n : Nat) : s.Lawful (s.settlePort n) := by
  induction n generalizing s with
  | zero => exact s.pump_lawful
  | succ n ih =>
    unfold State.settlePort
    split
    · exact s.pump_lawful
    next q hq => exact (s.pump_lawful.trans (State.serve_lawful hq)).trans (ih _)

theorem State.request_lawful (s : State) (tag : Byte) (r : Request) : s.Lawful (s.request tag r) :=
  have harrived : s.Lawful { s with port := s.port.arrive tag r.judged } :=
    { State.Lawful.refl s with port := fun h => h.arrive tag _, receiver := fun h => h.arrive tag r }
  harrived.trans (State.settlePort_lawful _ _)

theorem State.takeByte_lawful (s : State) (b : Byte) (stopBit : Bool) : s.Lawful (s.takeByte b stopBit) := by
  have htaken : s.Lawful { s with port := (s.port.takeByte b stopBit).1 } :=
    { State.Lawful.refl s with port := fun h => h.takeByte b stopBit, receiver := fun h => h.takeByte b stopBit }
  unfold State.takeByte
  split
  next p hp =>
    rw [hp] at htaken
    exact htaken.trans (State.pump_lawful _)
  next p tag r hp =>
    rw [hp] at htaken
    exact htaken.trans (State.request_lawful _ tag r)

theorem State.gapExpires_lawful (s : State) : s.Lawful s.gapExpires := by
  unfold State.gapExpires
  split
  · exact .refl s
  · exact { State.Lawful.refl s with port := fun h => h.discardFrame, receiver := fun h => h.discardFrame }

end Turns

/-! The denylist's apply and swap (R102, R106). -/

section Denylist

variable {s : State}

theorem State.completeApply_lawful (s : State) : s.Lawful s.completeApply := by
  unfold State.completeApply
  split
  next u rest _ hqueue =>
    have happlied : s.Lawful { s with
        screen := { s.screen with denylist := (applyUpdate s.screen.denylist u).1, queue := rest, applying := false } } := by
      refine { State.Lawful.refl s with denylist := fun h => ?_ }
      obtain ⟨hlist, hlength, hbuild, hbuildLength, hlast, hroom⟩ := h
      obtain ⟨hordered, hcapacity⟩ := applyUpdate_lawful u ((ascending_iff _).mp hlist) hlength
      rw [hqueue, List.length_cons] at hroom
      exact ⟨(ascending_iff _).mpr hordered, hcapacity, hbuild, hbuildLength, hlast, Nat.le_of_succ_le hroom⟩
    exact .ite (happlied.trans (.of_event (State.notify_same _ _) (State.Keeps.refl _).notify)) happlied
  · exact .refl s

/-- The build area becomes the list (R106). -/
theorem State.swapList_lawful (s : State) : s.Lawful { s with screen := s.screen.swapList } := by
  refine { State.Lawful.refl s with denylist := fun h => ?_ }
  obtain ⟨-, -, hbuild, hbuildLength, -, hroom⟩ := h
  exact ⟨hbuild, hbuildLength, rfl, Nat.zero_le _, rfl, hroom⟩

/-- The place of a held reply has been kept for it (R106, R176). -/
theorem State.endReply_lawful (s : State) : s.Lawful s.endReply := by
  unfold State.endReply
  split
  · exact .refl s
  split
  next htaken =>
    refine { State.Lawful.refl s with port := fun h => ?_, receiver := fun h => h.replyHead _ }
    obtain ⟨-, -, -, -, -, hhead⟩ := id h
    exact h.replyHead (hhead htaken).2 _
  · exact .refl s

theorem State.listSwap_lawful (s : State) : s.Lawful s.listSwap := by
  refine .ite ?_ s.pump_lawful
  refine .trans (.trans ?_ (State.endReply_lawful _)) (State.settlePort_lawful _ _)
  refine s.swapList_lawful.trans (.of_event (by simp) ?_)
  exact State.Keeps.screenWaiting (State.Keeps.screenWaiting (State.Keeps.mapTx (State.Keeps.mapTx (.refl _))))

end Denylist

/-! The starts (R182). -/

section Starts

variable {s : State}

theorem Port.restart_law (p : Port) : p.restart.law ∧ p.restart.receiverLaw :=
  ⟨⟨Nat.zero_le _, Nat.zero_le _, Nat.zero_le _, Nat.zero_le _, Nat.zero_le _, nofun⟩, nofun, rfl⟩

theorem State.mainReset_lawful (s : State) : s.Lawful s.mainReset where
  __ := State.Lawful.refl s
  denylist h := by
    obtain ⟨hlist, hlength, -, -, -, hqueue⟩ := h
    exact ⟨hlist, hlength, rfl, Nat.zero_le _, rfl, hqueue⟩
  port _ := s.port.restart_law.1
  tracker _ := fun _ => ⟨rfl, rfl⟩
  range _ h := by
    obtain ⟨ht, hc, hw, -, hd, -⟩ := h
    exact ⟨ht, hc, hw, Nat.zero_lt_succ 15, hd, Nat.zero_le _⟩
  receiver _ := s.port.restart_law.2

theorem warmSighting_fields (x : Sighting) :
    (warmSighting x).second = x.second ∧ (warmSighting x).joined = x.joined ∧ (warmSighting x).card = x.card := by
  unfold warmSighting
  split <;> exact ⟨rfl, rfl, rfl⟩

theorem State.warmRetained_lawful (s : State) : s.Lawful s.warmRetained where
  __ := State.Lawful.refl s
  sighting h := by
    rw [Screen.sightingLaw_iff] at *
    exact h.imp_left (·.map (fun x => (warmSighting_fields x).1) (fun x => (warmSighting_fields x).2.1)
      (fun x => (warmSighting_fields x).2.2))
  doubt := And.imp_left fun h => by simpa [State.warmRetained] using h

theorem State.Keeps.startReader {u : State} {sd : Side} (h : s.Keeps u) : s.Keeps (u.startReader sd) :=
  .ite h h.linkDown.raisePlain

theorem State.Keeps.startBarrier {u : State} (h : s.Keeps u) : s.Keeps u.startBarrier :=
  .ite (State.Keeps.enterFreeOpen (h.frame (by rfl))) h.beginChecking

theorem State.Keeps.startFaults {u : State} (h : s.Keeps u) : s.Keeps u.startFaults := by
  have hdrive := State.Keeps.ite (c := u.aisle.active .driveFault = true) h.driveFaultActive h
  have hreaders := (hdrive.startReader (sd := .a)).startReader (sd := .b)
  have hclock := fun {c : Prop} [Decidable c] => State.Keeps.ite (c := c) (hreaders.raisePlain (c := .clock)) hreaders
  have htariff := fun {c d : Prop} [Decidable c] [Decidable d] =>
    State.Keeps.ite (c := c) (hclock (c := d)) ((hclock (c := d)).raisePlain (c := .tariff))
  exact .ite htariff.raiseJournal htariff

theorem State.startWork_lawful (s : State) (cause : Option StartCause) (abandoned : Bool) : s.Lawful (s.startWork cause abandoned) := by
  have hrecord (kept : Nat) : s.Lawful (s.startRecord cause kept abandoned) := by
    unfold State.startRecord
    repeat' split
    all_goals exact { State.Lawful.refl s with }
  dsimp only [State.startWork]
  generalize hu : s.startRecord cause s.doubt.entries.length abandoned = u
  have hrecorded : s.Lawful u := hu ▸ hrecord _
  have hworked : u.Keeps (u.startedNotice cause s.doubt.entries.length abandoned).startLow.startBarrier.startFaults :=
    (State.Keeps.lowCheck (State.Keeps.frame (State.Keeps.notify (.refl u)) (by rfl))).startBarrier.startFaults
  have hevent : u.Lawful (u.startedNotice cause s.doubt.entries.length abandoned).startLow.startBarrier.startFaults :=
    .of_event (by simp) hworked
  generalize (u.startedNotice cause s.doubt.entries.length abandoned).startLow.startBarrier.startFaults = v at hevent
  have hmarked : v.Lawful { v with markerValid := true } := { State.Lawful.refl v with }
  exact ((hrecorded.trans hevent).trans hmarked).trans (State.pump_lawful _)

/-! The state after reset (R182). -/

theorem State.reset_screen : State.reset.screen.denylistLaw ∧ State.reset.screen.holdLaw ∧ State.reset.screen.sightingLaw := by
  unfold Screen.denylistLaw Screen.holdLaw Screen.sightingLaw
  decide

theorem State.reset_doubt : State.reset.doubt.law := by
  unfold DoubtTable.law
  decide

theorem State.reset_params : State.reset.aisle.paramLaw := by
  intro i
  cases i <;> decide

theorem State.reset_range : State.reset.gate.rangeLaw := by
  unfold Gate.rangeLaw
  decide

theorem State.reset_lamp : State.reset.lampLaw := by
  unfold State.lampLaw
  decide

theorem State.reset_port : State.reset.port.law ∧ State.reset.port.receiverLaw := by
  unfold Port.law
  exact ⟨by decide, nofun, rfl⟩

/-- A cold start gives every retained state its reset value. -/
theorem State.coldRetained_lawful (s : State) : s.Lawful s.coldRetained where
  __ := State.Lawful.refl s
  denylist _ := State.reset_screen.1
  hold _ := State.reset_screen.2.1
  sighting _ := State.reset_screen.2.2
  doubt _ := State.reset_doubt
  port _ := State.reset_port.1
  tracker _ := fun _ => ⟨rfl, rfl⟩
  params _ := State.reset_params
  range _ _ := State.reset_range
  lamp _ := State.reset_lamp
  receiver _ := State.reset_port.2

theorem State.start_lawful (s : State) (cause : StartCause) : s.Lawful (s.start cause) :=
  .ite ((s.mainReset_lawful.trans (State.warmRetained_lawful _)).trans (State.startWork_lawful _ _ _))
    ((s.coldRetained_lawful.trans (State.mainReset_lawful _)).trans (State.startWork_lawful _ _ _))

theorem State.frameLeaves_lawful (s : State) : s.Lawful s.frameLeaves := by
  unfold State.frameLeaves
  split
  · exact s.pump_lawful
  · have hfree : s.Lawful { s with port := { s.port with line := none } } := { State.Lawful.refl s with }
    exact .ite (s.start_lawful _) (hfree.trans (State.settlePort_lawful _ _))

end Starts

/-! The commands and the steps. -/

section Steps

variable {c : Instr} {s t u : State}

/-- A command answers a next state, in which the laws are kept. -/
def KeepsLaws (c : Instr) (s : State) : Prop :=
  ∃ t, exec c s = .next t ∧ s.Lawful t

theorem KeepsLaws.of_next (he : exec c s = .next t) (h : s.Lawful t) : KeepsLaws c s :=
  ⟨t, he, h⟩

theorem KeepsLaws.of_finished (he : exec c s = finishEvent u) (h : s.Lawful u) : KeepsLaws c s :=
  ⟨u.pump, he, h.trans u.pump_lawful⟩

theorem KeepsLaws.of_event (he : exec c s = finishEvent u) (hsame : Same s u) (h : s.Keeps u) : KeepsLaws c s :=
  .of_finished he (.of_event hsame h)

theorem keepsLaws_hailWindowClose (s : State) (sd : Side) : KeepsLaws (.hailWindowClose sd) s := by
  cases hw : (s.reader sd).window with
  | none => exact .of_event (by simp only [exec, execHailWindowClose, hw]) (by simp) (.refl s)
  | some w =>
    have hjudged : s.Keeps ((s.setReader sd { s.reader sd with window := none }).judgeWindow sd w) :=
      State.Keeps.judgeWindow (State.Keeps.frame (.refl s) (by rfl))
    exact .of_event (by simp only [exec, execHailWindowClose, hw]) (by simp) hjudged

theorem Aisle.rawChange_params (x : Aisle) (i : Input) (high : Bool) :
    ({ x with pins := x.pins.set i high }.refilter i).params = x.params := by
  rw [Aisle.refilter_eq]

theorem exec_keepsLaws (c : Instr) (s : State) : KeepsLaws c s := by
  have hs := State.Keeps.refl s
  cases c with
  | powerOn | resetPin | supplyDip => exact .of_next rfl (s.start_lawful _)
  | settleTimerExpiry sd => exact .of_event rfl (State.settleExpires_same _ _) hs.settleExpires
  | summonsTimerExpiry sd => exact .of_event rfl (State.summonsExpires_same _ _) hs.summonsExpires
  | hail sd clean card => exact .of_event rfl (State.setReader_same _ _ _) (hs.frame (by rfl))
  | hailWindowClose sd => exact keepsLaws_hailWindowClose s sd
  | idleTimerExpiry sd => exact .of_event rfl (State.idleExpires_same _ _) hs.idleExpires
  | holdoffTimerExpiry sd => exact .of_event rfl (State.holdoffExpires_same _ _) hs.holdoffExpires
  | sameCardHoldExpiry sd => exact .of_event rfl (State.holdExpires_same _ _) (hs.frame (by rfl))
  | carrierLoss sd => exact .of_event rfl (State.carrierLost_same _ _) hs.carrierLost
  | carrierReturn sd => exact .of_event rfl (State.carrierReturns_same _ _) hs.carrierReturns
  | claimed sd ok area blocked => exact .of_event rfl (State.claimedArrives_same _ _ _ _ _) hs.claimedArrives
  | slot sd ok turn no w => exact .of_event rfl (State.slotArrives_same _ _ _ _ _ _) hs.slotArrives
  | done sd ok turn => exact .of_event rfl (State.doneArrives_same _ _ _ _) hs.doneArrives
  | answerTimerExpiry sd => exact .of_event rfl (State.answerExpires_same _ _) hs.answerExpires
  | guardTimerExpiry sd => exact .of_event rfl (State.guardExpires_same _ _) hs.guardExpires
  | screening sd => exact .of_event rfl (State.screenEvent_same _ _) hs.screenEvent
  | pricingComplete => exact .of_event rfl (State.pricingEnds_same _) hs.pricingEnds
  | inDoubtDeadlineExpiry card => exact .of_event rfl (State.deadlinePasses_same _ _) hs.deadlinePasses
  | clockAdvance => exact .of_event rfl (State.advanceClock_same _) hs.advanceClock
  | denylistApplyBegin => exact .of_finished rfl (.ite { State.Lawful.refl s with } { State.Lawful.refl s with })
  | denylistApplyComplete => exact .of_finished rfl s.completeApply_lawful
  | denylistSwap => exact .of_next rfl s.listSwap_lawful
  | rawInputChange i high =>
    have hchanged : s.Lawful (s.rawChange i high) :=
      { State.Lawful.refl s with tracker := hs.rawChange.tracker, params := fun h j => (s.aisle.rawChange_params i high) ▸ h j }
    exact .of_finished rfl hchanged
  | debounceExpiry g => exact .of_event rfl (State.debounced_same _ _) hs.debounced
  | stuckTimerExpiry z => exact .of_event rfl (State.stuckExpires_same _ _) hs.stuckExpires
  | travelTimerExpiry => exact .of_event rfl (State.travelFails_same _) hs.travelFails
  | passageDeadlineExpiry => exact .of_event rfl (State.passageExpires_same _) hs.passageExpires
  | closeDelayExpiry => exact .of_event rfl (State.closeDelayExpires_same _) hs.closeDelayExpires
  | alarmTimerExpiry sd | refusalTimerExpiry sd => exact .of_finished rfl { State.Lawful.refl s with }
  | rxByte b stopBit => exact .of_next rfl (s.takeByte_lawful b stopBit)
  | gapTimerExpiry => exact .of_finished rfl s.gapExpires_lawful
  | frameSent => exact .of_next rfl s.frameLeaves_lawful
  | backupSupplyFailure => exact .of_next rfl { State.Lawful.refl s with }
  | _ => exact .of_next rfl (s.request_lawful _ _)

/-- A millisecond runs the timers alone (R173, log 2). -/
theorem State.tick_lawful (s : State) : s.Lawful s.tick where
  __ := State.Lawful.refl s
  doubt := And.imp_left fun h => by simpa [State.tick, DoubtTable.tick] using h
  receiver h := by
    obtain ⟨hjudged, hreceiver⟩ := h
    refine ⟨hjudged, ?_⟩
    have hgap : s.tick.port.gap = Option.map (· - 1) s.port.gap := rfl
    have hsame : s.tick.port.receiver = s.port.receiver := rfl
    rw [hgap, hsame]
    split
    next hr => simpa [hr] using hreceiver
    next bytes hr => simpa [hr] using hreceiver

theorem step_lawful (h : step s = .next t) : s.Lawful t := by
  have hexec {c : Instr} {u : State} (hc : exec c u = .next t) : u.Lawful t := by
    obtain ⟨v, hv, hlawful⟩ := exec_keepsLaws c u
    obtain rfl := Host.Outcome.next.inj (hv.symm.trans hc)
    exact hlawful
  unfold step at h
  split at h
  · unfold State.idle at h
    split at h
    · exact hexec h
    · obtain rfl := Host.Outcome.next.inj h
      exact s.tick_lawful
  next c rest _ => exact State.Lawful.trans (t := { s with pending := rest }) { State.Lawful.refl s with } (hexec h)

end Steps

/-- Settles O53: law by law, over every operation that the commands and the tick are made of. -/
theorem tablesStayLawful : Obligations.TablesStayLawful := by
  refine ⟨fun s t hdenylist hhold hsighting hdoubt hport hstep => ?_, fun s t htracker hparams hrange hlamp hreceiver hstep => ?_⟩
  · have h := step_lawful hstep
    exact ⟨h.denylist hdenylist, h.hold hhold, h.sighting hsighting, h.doubt hdoubt, h.port hport⟩
  · have h := step_lawful hstep
    exact ⟨h.tracker htracker, h.params hparams, h.range hreceiver hrange, h.lamp hlamp, h.receiver hreceiver⟩

end Sys2Proof.Machine
end

section
/-! The laws of the transactions, the barrier, the orders and the journal at the state after reset, and with them every law (R124, R131,
R134, R164, R168, R182). -/

namespace Sys2Proof.Machine

section Reset

theorem State.reset_reader (sd : Side) : (State.reset.reader sd).linkLaw := by
  unfold Reader.linkLaw
  cases sd <;> decide

/-- A side that settles has a context without a transaction. -/
theorem State.reset_context (sd : Side) : State.reset.contextLaw sd := by
  have hrest : State.reset.ctx sd = { state := .polling, tx := none } := by cases sd <;> rfl
  have hclaimed : (State.reset.reader sd).claimed = none := by cases sd <;> rfl
  have hexchange : (State.reset.reader sd).exchange = none := by cases sd <;> rfl
  have hlink : (State.reset.reader sd).link = .settling := by cases sd <;> rfl
  have hreservation : State.reset.gate.reservations.get sd = .absent := by cases sd <;> rfl
  simp [State.contextLaw, hrest, hclaimed, hexchange, hlink, hreservation, CtxState.serving]

theorem State.reset_tap : State.reset.tapLaw := by
  refine ⟨fun sd => ⟨State.reset_reader sd, State.reset_context sd⟩, fun _ _ hx => (nomatch hx), nofun, nofun, List.nodup_nil, rfl, ?_⟩
  decide

theorem State.reset_queue : State.reset.gate.queueLaw := by
  unfold Gate.queueLaw
  decide

theorem State.reset_journal : State.reset.journal.numberLaw :=
  ⟨⟨rfl, rfl, rfl⟩, by decide⟩

theorem State.reset_barrier : State.reset.barrierLaw := by
  unfold State.barrierLaw Gate.barrierLaw
  decide

theorem State.reset_tracker : State.reset.aisle.tracker.law := fun _ => ⟨rfl, rfl⟩

end Reset

/-- Settles O58: each law is evaluated at the one state. -/
theorem resetIsLawful : Obligations.ResetIsLawful := by
  obtain ⟨hdenylist, hhold, hsighting⟩ := State.reset_screen
  obtain ⟨hport, hreceiver⟩ := State.reset_port
  exact ⟨hdenylist, hhold, hsighting, State.reset_doubt, hport, State.reset_queue, State.reset_journal, State.reset_barrier,
    State.reset_tap, State.reset_tracker, State.reset_params, State.reset_range, State.reset_lamp, hreceiver, rfl, rfl⟩

end Sys2Proof.Machine
end

section
/-! The denylist: what an apply makes of the list, when it begins, and what a lookup sees of the queue and the list (R101 to R104). -/

namespace Sys2Proof.Machine

/-! The list after an update (R102). -/

section Updates

variable {l : List CardId} {u : DenyUpdate}

theorem applyUpdate_listed (ha : u.add = true) (hu : u.card ∈ l) : applyUpdate l u = (l, false) := by
  rw [applyUpdate, if_pos ha, if_pos hu]

theorem applyUpdate_full (ha : u.add = true) (hu : u.card ∉ l) (hl : 16384 ≤ l.length) : applyUpdate l u = (l, true) := by
  rw [applyUpdate, if_pos ha, if_neg hu, if_neg (Nat.not_lt.mpr hl)]

theorem applyUpdate_joins (ha : u.add = true) (hu : u.card ∉ l) (hl : l.length < 16384) :
    applyUpdate l u = (insertAscending u.card l, false) := by
  rw [applyUpdate, if_pos ha, if_neg hu, if_pos hl]

theorem applyUpdate_remove (ha : u.add = false) : applyUpdate l u = (l.filter (· ≠ u.card), false) := by
  simp [applyUpdate, ha]

theorem applyUpdate_full_iff : (applyUpdate l u).2 = true ↔ u.add = true ∧ u.card ∉ l ∧ 16384 ≤ l.length := by
  unfold applyUpdate
  split
  next ha =>
    split
    next hu => simp [hu]
    next hu =>
      split
      next hl => simp [hl]
      next hl => simp [ha, hu, Nat.not_lt.mp hl]
  next ha => simp [ha]

/-- An update of a list with room for it decides the membership of its own card and of no other. -/
theorem mem_applyUpdate (hroom : u.add = true → u.card ∉ l → l.length < 16384) (c : CardId) :
    c ∈ (applyUpdate l u).1 ↔ if u.card = c then u.add = true else c ∈ l := by
  cases ha : u.add with
  | true =>
    by_cases hu : u.card ∈ l
    · rw [applyUpdate_listed ha hu]
      split
      next hc => simp [← hc, hu]
      · rfl
    · rw [applyUpdate_joins ha hu (hroom ha hu), mem_insertAscending]
      split
      next hc => simp [hc]
      next hc => simp [Ne.symm hc]
  | false =>
    rw [applyUpdate_remove ha]
    split
    next hc => simp [hc]
    next hc => simp [Ne.symm hc]

end Updates

/-! The begin and the completion of an apply (R102). -/

section Applies

variable {s : State} {u : DenyUpdate} {rest : List DenyUpdate}

theorem State.canBeginApply_idle (hq : s.screen.queue = u :: rest) (hidle : s.screen.applying = false) :
    s.canBeginApply = !(holdsBack s.screen.arrivals u (s.ctx .a).mark || holdsBack s.screen.arrivals u (s.ctx .b).mark) := by
  simp [State.canBeginApply, hq, hidle, State.ctx]

theorem State.completeApply_applying (hq : s.screen.queue = u :: rest) (happlying : s.screen.applying = true) :
    s.completeApply =
      { s with
        screen := { s.screen with denylist := (applyUpdate s.screen.denylist u).1, queue := rest, applying := false }
        port :=
          if (applyUpdate s.screen.denylist u).2 = true then s.port.notify (.fault (.denylistFull u.card)) else s.port } := by
  unfold State.completeApply
  rw [happlying, hq]
  dsimp only
  split <;> rfl

end Applies

/-- A mark holds back the updates that arrived after it. -/
theorem holdsBack_some_iff (counter : Nat) (u : DenyUpdate) (m : DenyMark) :
    holdsBack counter u (some m) = true ↔ m.afterSwap = false ∧ arrivalAge counter u.arrival < arrivalAge counter m.arrival := by
  simp [holdsBack]

theorem arrivalAge_lt_iff {counter m n : Nat} (hm : m ≤ counter) (hn : n ≤ counter) :
    arrivalAge counter n < arrivalAge counter m ↔ m < n := by
  rw [arrivalAge, arrivalAge, if_pos hm, if_pos hn]
  omega

/-- Settles O32: the begin by `holdsBack`, the completion by the cases of `applyUpdate`. -/
theorem applyOneUpdate : Obligations.ApplyOneUpdate := by
  refine ⟨fun counter u m => ⟨rfl, holdsBack_some_iff counter u m, fun hu hm => ?_⟩,
    fun s u rest hq => ⟨fun hidle => ?_, fun happlying => ?_⟩⟩
  · rw [holdsBack_some_iff, arrivalAge_lt_iff hm hu]
  · simp only [exec, execDenylistApplyBegin, State.canBeginApply_idle hq hidle]
    split
    next hfree =>
      rw [hfree]
      rfl
    next hheld =>
      rw [Bool.eq_false_of_not_eq_true hheld, ← hidle]
      rfl
  · refine ⟨s.completeApply.pump, rfl, ?_⟩
    rw [State.completeApply_applying hq happlying]
    simp only [State.pump, applyUpdate_full_iff]
    refine ⟨trivial, fun ha hkept => ?_, fun ha hu hroom => ?_, fun ha => ?_⟩
    · by_cases hu : u.card ∈ s.screen.denylist
      · rw [applyUpdate_listed ha hu]
      · rw [applyUpdate_full ha hu (hkept.resolve_left hu)]
    · rw [applyUpdate_joins ha hu hroom]
      exact ⟨fun c => mem_insertAscending, length_insertAscending hu, insertAscending_ascending⟩
    · rw [applyUpdate_remove ha]

/-! What a lookup sees (R104). -/

/-- A queued update that decides the lookup of a card with a mark. -/
def Screen.decides (c : Screen) (mark : Nat) (card : CardId) (u : DenyUpdate) : Bool :=
  decide (u.card = card ∧ arrivalAge c.arrivals mark ≤ arrivalAge c.arrivals u.arrival)

theorem Screen.lookup_eq (c : Screen) (mark : Nat) (card : CardId) :
    c.lookup mark card = ((c.queue.filter (c.decides mark card)).getLast?.map (·.add)).getD (decide (card ∈ c.denylist)) := by
  unfold Screen.lookup Screen.decides
  split
  next h => simp only [h, Option.map_some, Option.getD_some]
  next h => simp only [h, Option.map_none, Option.getD_none]

/-- The next arrival makes every number of the near past one arrival older. -/
theorem arrivalAge_succ {counter n : Nat} (hcounter : counter ≤ 4294967295) (hn : n ≤ 4294967295)
    (hnear : arrivalAge counter n < 2147483648) : arrivalAge (arrivalSucc counter) n = arrivalAge counter n + 1 := by
  simp only [arrivalAge, arrivalSucc] at *
  split at hnear <;> repeat' split
  all_goals omega

theorem arrivalAge_self (n : Nat) : arrivalAge n n = 0 := by
  simp [arrivalAge]

section Lookups

variable {c : Screen} {add : Bool} {card : CardId}

theorem Screen.lookup_enqueue_now : (c.enqueue add card).lookup (c.enqueue add card).arrivals card = add := by
  have hnewest : (c.enqueue add card).decides (c.enqueue add card).arrivals card ⟨add, card, arrivalSucc c.arrivals⟩ = true := by
    simp [Screen.decides, arrivalAge_self]
  rw [Screen.lookup_eq]
  simp only [Screen.enqueue] at hnewest ⊢
  rw [List.filter_append, List.filter_cons_of_pos hnewest]
  simp

/-- A later update is younger than the mark, and the earlier ones are as much older than the mark as they were. -/
theorem Screen.lookup_enqueue_later {m : Nat} (other : CardId) (hcounter : c.arrivals ≤ 4294967295) (hm : m ≤ 4294967295)
    (hnear : arrivalAge c.arrivals m < 2147483648)
    (hqueue : ∀ u ∈ c.queue, u.arrival ≤ 4294967295 ∧ arrivalAge c.arrivals u.arrival < 2147483648) :
    (c.enqueue add card).lookup m other = c.lookup m other := by
  have hmark := arrivalAge_succ hcounter hm hnear
  have hlater : (c.enqueue add card).decides m other ⟨add, card, arrivalSucc c.arrivals⟩ = false := by
    simp [Screen.decides, Screen.enqueue, arrivalAge_self, hmark]
  have hearlier : ∀ u ∈ c.queue, (c.enqueue add card).decides m other u = c.decides m other u := by
    intro u hu
    obtain ⟨hu, hunear⟩ := hqueue u hu
    simp [Screen.decides, Screen.enqueue, hmark, arrivalAge_succ hcounter hu hunear]
  rw [Screen.lookup_eq, Screen.lookup_eq]
  change ((List.filter _ (c.queue ++ _)).getLast?.map _).getD (decide (other ∈ c.denylist)) = _
  rw [List.filter_append, List.filter_congr hearlier, List.filter_cons_of_neg (by simp [hlater]), List.filter_nil, List.append_nil]

/-- An update at the head that a mark covers decides as it does in the list, where no later one of its card is covered. -/
theorem Screen.lookup_applied {u : DenyUpdate} {rest : List DenyUpdate} {m : Nat} (other : CardId) (hq : c.queue = u :: rest)
    (hcovered : arrivalAge c.arrivals m ≤ arrivalAge c.arrivals u.arrival)
    (hroom : u.add = true → u.card ∉ c.denylist → c.denylist.length < 16384) :
    { c with denylist := (applyUpdate c.denylist u).1, queue := rest, applying := false }.lookup m other = c.lookup m other := by
  rw [Screen.lookup_eq, Screen.lookup_eq, hq]
  change ((rest.filter (c.decides m other)).getLast?.map _).getD _ = _
  have hlist := mem_applyUpdate hroom other
  by_cases hcard : u.card = other
  · rw [if_pos hcard] at hlist
    rw [List.filter_cons_of_pos (by simp [Screen.decides, hcard, hcovered])]
    cases hlast : (rest.filter (c.decides m other)).getLast? with
    | none =>
      rw [List.getLast?_eq_none_iff.mp hlast]
      simp [hlist]
    | some v => simp [List.getLast?_cons, hlast]
  · rw [if_neg hcard] at hlist
    rw [List.filter_cons_of_neg (by simp [Screen.decides, hcard])]
    simp only [hlist]

end Lookups

/-- Settles O33: an enqueue, seen with a mark of now and with an older one, and an apply. -/
theorem lookupReflectsEarlierUpdates : Obligations.LookupReflectsEarlierUpdates := by
  intro c add card
  refine ⟨Screen.lookup_enqueue_now, fun m other => Screen.lookup_enqueue_later other, ?_⟩
  intro s t u rest m other hq happlying hcovered hroom ht
  obtain rfl : s.completeApply.pump = t := Host.Outcome.next.inj ht
  rw [State.completeApply_applying hq happlying]
  exact Screen.lookup_applied other hq hcovered hroom

end Sys2Proof.Machine
end

section
/-! The requests on the hold list and on the denylist (R99, R101, R107). -/

namespace Sys2Proof.Machine

/-! HOLD_RELEASE, HOLD_LIST_READ, DENYLIST_QUERY, DENYLIST_ADD and DENYLIST_REMOVE (R99, R101, R107). -/

section Requests

variable {s : State}

theorem State.holdRelease_portFree (card : CardId) : State.PortFree (·.holdRelease card) :=
  fun _ _ => .ite .ok .no

theorem State.holdListRead_portFree (start : Nat) : State.PortFree (·.holdListRead start) :=
  fun _ _ => .ite .no .ok

theorem State.denylistQuery_portFree (card : CardId) : State.PortFree (·.denylistQuery card) :=
  fun _ _ => .ok

theorem State.denylistUpdate_portFree (add : Bool) (card : CardId) : State.PortFree (·.denylistUpdate add card) :=
  fun _ _ => .ite .no (.ite .no .ok)

theorem exec_holdRelease (h : s.port.ready) (tag : Byte) (card : CardId) :
    exec (.holdRelease tag card) s = .next (State.replied (s.holdRelease card) 0x18 tag) :=
  congrArg Host.Outcome.next (State.request_portFree h (State.holdRelease_portFree card) (fun _ => rfl) rfl nofun)

theorem exec_holdListRead (h : s.port.ready) (tag : Byte) (start : Nat) :
    exec (.holdListRead tag start) s = .next (State.replied (s.holdListRead start) 0x19 tag) :=
  congrArg Host.Outcome.next (State.request_portFree h (State.holdListRead_portFree start) (fun _ => rfl) rfl nofun)

theorem exec_denylistQuery (h : s.port.ready) (tag : Byte) (card : CardId) :
    exec (.denylistQuery tag card) s = .next (State.replied (s.denylistQuery card) 0x17 tag) :=
  congrArg Host.Outcome.next (State.request_portFree h (State.denylistQuery_portFree card) (fun _ => rfl) rfl nofun)

theorem exec_denylistAdd (h : s.port.ready) (tag : Byte) (card : CardId) :
    exec (.denylistAdd tag card) s = .next (State.replied (s.denylistUpdate true card) 0x12 tag) :=
  congrArg Host.Outcome.next (State.request_portFree h (State.denylistUpdate_portFree true card) (fun _ => rfl) rfl nofun)

theorem exec_denylistRemove (h : s.port.ready) (tag : Byte) (card : CardId) :
    exec (.denylistRemove tag card) s = .next (State.replied (s.denylistUpdate false card) 0x13 tag) :=
  congrArg Host.Outcome.next (State.request_portFree h (State.denylistUpdate_portFree false card) (fun _ => rfl) rfl nofun)

/-- Both updates, but for their kinds of reply. -/
theorem State.replied_denylistUpdate (s : State) (add : Bool) (card : CardId) (kind tag : Byte) :
    State.replied (s.denylistUpdate add card) kind tag =
      if s.screen.build ≠ .idle then s.reply kind tag .bulkInProgress []
      else if 16 ≤ s.screen.queue.length then s.reply kind tag .queueFull []
      else { s with screen := s.screen.enqueue add card }.reply kind tag .ok (beBytes 4 (arrivalSucc s.screen.arrivals)) := by
  rw [State.denylistUpdate, State.replied_ite, State.replied_ite]
  rfl

theorem BuildState.code_eq (b : BuildState) : b.code = if b = .idle then (0 : Byte) else if b = .building then 1 else 2 := by
  cases b <;> rfl

end Requests

/-- Settles O31: each owner's tests in its order, replied to one by one. -/
theorem holdAndDenylistRequests : Obligations.HoldAndDenylistRequests := by
  refine ⟨fun s tag h => ⟨fun card => ?release, fun start => ?read, fun card => ?query⟩, fun s tag card h => ⟨?add, ?remove⟩⟩
  case release =>
    rw [exec_holdRelease h, State.holdRelease, State.replied_ite]
    refine congrArg Host.Outcome.next (if_congr ?_ rfl rfl)
    simp only [List.any_eq_true, decide_eq_true_eq]
  case read =>
    rw [exec_holdListRead h, State.holdListRead, State.replied_ite]
    rfl
  case query =>
    rw [exec_denylistQuery h, State.denylistQuery, BuildState.code_eq]
    rfl
  case add => exact (exec_denylistAdd h tag card).trans (congrArg Host.Outcome.next (s.replied_denylistUpdate true card 0x12 tag))
  case remove =>
    exact (exec_denylistRemove h tag card).trans (congrArg Host.Outcome.next (s.replied_denylistUpdate false card 0x13 tag))

end Sys2Proof.Machine
end

section
/-! SIGHTING: the judgment of a peer's record and its merge into the sightings table (R109, R111, R113). -/

namespace Sys2Proof.Machine

/-! What joins the table, and what leaves it (R109). -/

section Joins

variable {c : Screen} {x : Sighting} {card : CardId}

theorem Screen.sightingOf_joinSighting_ne (hroom : c.sightings.length < 512) (h : card ≠ x.card) :
    (c.joinSighting x).sightingOf card = c.sightingOf card := by
  dsimp only [Screen.sightingOf, Screen.joinSighting]
  rw [if_pos hroom, find?_insertSighting_of_false (by simp [h.symm])]

/-- In a full table the first entry makes room. -/
theorem Screen.sightingOf_joinSighting_full {first : Sighting} {rest : List Sighting} (hs : c.sightings = first :: rest)
    (hfull : 512 ≤ c.sightings.length) (h : card ≠ x.card) :
    (c.joinSighting x).sightingOf card = rest.find? fun y => decide (y.card = card) := by
  dsimp only [Screen.sightingOf, Screen.joinSighting]
  rw [if_neg (Nat.not_lt.mpr hfull), find?_insertSighting_of_false (by simp [h.symm]), hs, List.tail_cons]

end Joins

/-! The merge, line by line (R113). -/

section Merge

variable {c : Screen} {p : Commit} {x : Sighting} {station gate : Nat}

/-- The entry that a peer's record makes. -/
def Commit.peer (p : Commit) (alternate : Option Nat) (conflict : Bool) (joined : Nat) : Sighting :=
  { p.sighting conflict joined with source := .peer, alternate := alternate }

theorem Screen.merge_first (h : c.sightingOf p.card = none) : c.merge p station gate = c.joinSighting (p.peer none false 0) := by
  simp only [Screen.merge, h]
  rfl

theorem Screen.merge_newer (h : c.sightingOf p.card = some x) (hk : x.counter < p.counter) :
    c.merge p station gate = c.putSighting (p.peer (x.alternate.filter fun a => decide (p.counter ≤ a)) x.conflict x.joined) := by
  simp only [Screen.merge, h, if_pos hk, Commit.peer]
  cases x.alternate with
  | none => rfl
  | some a =>
    by_cases ha : p.counter ≤ a
    · simp [Option.filter_some, ha, Nat.not_lt.mpr ha]
    · simp [Option.filter_some, ha, Nat.not_le.mp ha]

theorem Screen.merge_conflict (h : c.sightingOf p.card = some x) (hk : x.counter = p.counter) (hpurse : x.purse ≠ p.purse) :
    c.merge p station gate = c.putSighting { x with conflict := true } := by
  simp only [Screen.merge, h, hk, Nat.lt_irrefl, if_false, if_true, if_pos hpurse]

theorem Screen.merge_passage (h : c.sightingOf p.card = some x) (hk : x.counter = p.counter) (hpurse : x.purse = p.purse) :
    c.merge p station gate =
      if (p.station = station ∧ p.gate = gate) ∨ p.passage = .none ∨ (x.source = .local ∧ x.passage = .pending) then c
      else c.putSighting { x with passage := p.passage } := by
  simp only [Screen.merge, h, hk, hpurse, Nat.lt_irrefl, if_false, if_true, ne_eq, not_true]

theorem Screen.merge_older (h : c.sightingOf p.card = some x) (hk : p.counter < x.counter) : c.merge p station gate = c := by
  simp only [Screen.merge, h, if_neg (Nat.lt_asymm hk), if_neg (Nat.ne_of_gt hk)]

/-- A card's entry replaced by one of the same card. -/
theorem Screen.sightingOf_putSighting_own {y : Sighting} {card : CardId} (hy : y.card = card) :
    (c.putSighting y).sightingOf card = some y :=
  hy ▸ c.sightingOf_putSighting y

theorem Screen.sightingOf_merge_first (h : c.sightingOf p.card = none) :
    (c.merge p station gate).sightingOf p.card = some (p.peer none false c.nextJoin) := by
  rw [Screen.merge_first h]
  exact Screen.sightingOf_joinSighting (x := p.peer none false 0) h

theorem Screen.sightingOf_merge_newer (h : c.sightingOf p.card = some x) (hk : x.counter < p.counter) :
    (c.merge p station gate).sightingOf p.card =
      some (p.peer (x.alternate.filter fun a => decide (p.counter ≤ a)) x.conflict x.joined) := by
  rw [Screen.merge_newer h hk]
  exact Screen.sightingOf_putSighting_own rfl

theorem Screen.sightingOf_merge_conflict (h : c.sightingOf p.card = some x) (hk : x.counter = p.counter) (hpurse : x.purse ≠ p.purse) :
    (c.merge p station gate).sightingOf p.card = some { x with conflict := true } := by
  rw [Screen.merge_conflict h hk hpurse]
  exact Screen.sightingOf_putSighting_own (Screen.sightingOf_card h :)

theorem Screen.sightingOf_merge_passage (h : c.sightingOf p.card = some x) (hk : x.counter = p.counter) (hpurse : x.purse = p.purse) :
    (c.merge p station gate).sightingOf p.card =
      some (if (p.station = station ∧ p.gate = gate) ∨ p.passage = .none ∨ (x.source = .local ∧ x.passage = .pending) then x
        else { x with passage := p.passage }) := by
  rw [Screen.merge_passage h hk hpurse]
  split
  · exact h
  · exact Screen.sightingOf_putSighting_own (Screen.sightingOf_card h :)

/-- A merge touches no other card's entry, unless it is of a new card that finds the table full. -/
theorem Screen.sightingOf_merge_ne {card : CardId} (hroom : c.sightings.length < 512 ∨ c.sightingOf p.card ≠ none)
    (hcard : card ≠ p.card) : (c.merge p station gate).sightingOf card = c.sightingOf card := by
  cases h : c.sightingOf p.card with
  | none =>
    rw [Screen.merge_first h]
    exact Screen.sightingOf_joinSighting_ne (hroom.resolve_right fun hne => hne h) hcard
  | some x =>
    have hother : card ≠ x.card := by rwa [Screen.sightingOf_card h]
    rcases Nat.lt_trichotomy x.counter p.counter with hk | hk | hk
    · rw [Screen.merge_newer h hk]
      exact c.sightingOf_putSighting_ne _ hcard
    · by_cases hpurse : x.purse = p.purse
      · rw [Screen.merge_passage h hk hpurse]
        split
        · rfl
        · exact c.sightingOf_putSighting_ne _ hother
      · rw [Screen.merge_conflict h hk hpurse]
        exact c.sightingOf_putSighting_ne _ hother
    · rw [Screen.merge_older h hk]

theorem Screen.sightingOf_merge_full {card : CardId} {first : Sighting} {rest : List Sighting} (h : c.sightingOf p.card = none)
    (hs : c.sightings = first :: rest) (hfull : 512 ≤ c.sightings.length) (hcard : card ≠ p.card) :
    (c.merge p station gate).sightingOf card = rest.find? fun y => decide (y.card = card) := by
  rw [Screen.merge_first h]
  exact Screen.sightingOf_joinSighting_full hs hfull hcard

end Merge

/-! The request's fields (R109, R113). -/

section Fields

variable {f : SightingFields}

/-- The fields lie in the ranges of R109. -/
def sightingFits (f : SightingFields) : Prop :=
  f.counter ≤ 16777215 ∧ (-99999 ≤ f.purse ∧ f.purse ≤ 9999999) ∧ f.second ≤ 3155759999 ∧
    f.station ≤ 255 ∧ f.gate ≤ 255 ∧ (f.kind = 1 ∨ f.kind = 2) ∧ f.passage ≤ 3

/-- The record of a request, with what its kind and passage codes name. -/
def sightingRecord (f : SightingFields) (kind : TapKind) (passage : PassageState) : Commit :=
  { card := f.cardId, counter := f.counter, purse := f.purse, kind := kind, second := f.second, station := f.station, gate := f.gate
    passage := passage }

theorem tapKindOfCode_eq_some {n : Nat} {kind : TapKind} (h : tapKindOfCode n = some kind) :
    (n = 1 ∨ n = 2) ∧ kind = if n = 1 then .entry else .exit := by
  unfold tapKindOfCode at h
  split at h
  next hn => exact ⟨.inl hn, by rw [if_pos hn, Option.some.inj h]⟩
  next hn =>
    split at h
    next hn' => exact ⟨.inr hn', by rw [if_neg hn, Option.some.inj h]⟩
    · cases h

theorem passageOfCode_eq_some {n : Nat} {passage : PassageState} (h : passageOfCode n = some passage) :
    passage = if n = 0 then .none else if n = 1 then .pending else if n = 2 then .taken else .notTaken := by
  unfold passageOfCode at h
  repeat' split at h
  all_goals simp_all

theorem passageOfCode_isSome_iff (n : Nat) : (passageOfCode n).isSome = true ↔ n ≤ 3 := by
  unfold passageOfCode
  repeat' split
  all_goals simp only [Option.isSome_some, Option.isSome_none, true_iff, Bool.false_eq_true, false_iff]; omega

theorem judged_of_not_fits (h : ¬sightingFits f) : f.judged = none := by
  unfold SightingFields.judged
  split
  next hrange =>
    obtain ⟨hcounter, hpurse, hsecond, hstation, hgate⟩ := hrange
    split
    next kind passage hkind hpassage =>
      have hle := (passageOfCode_isSome_iff f.passage).mp (by rw [hpassage]; rfl)
      exact absurd ⟨hcounter, hpurse, hsecond, hstation, hgate, (tapKindOfCode_eq_some hkind).1, hle⟩ h
    · rfl
  · rfl

theorem judged_of_fits (h : sightingFits f) :
    ∃ kind passage, tapKindOfCode f.kind = some kind ∧ passageOfCode f.passage = some passage ∧
      f.judged = some (sightingRecord f kind passage) := by
  obtain ⟨hcounter, hpurse, hsecond, hstation, hgate, hkind, hle⟩ := h
  obtain ⟨kind, hkind⟩ : ∃ kind, tapKindOfCode f.kind = some kind := by
    rcases hkind with hk | hk <;> exact ⟨_, by rw [hk]; rfl⟩
  obtain ⟨passage, hpassage⟩ := Option.isSome_iff_exists.mp ((passageOfCode_isSome_iff f.passage).mpr hle)
  refine ⟨kind, passage, hkind, hpassage, ?_⟩
  unfold SightingFields.judged
  rw [if_pos ⟨hcounter, hpurse, hsecond, hstation, hgate⟩, hkind, hpassage]
  rfl

end Fields

/-! The request (R113). -/

section Request

variable {s : State} {f : SightingFields}

/-- The owner reads of the port this gate's identity alone, and writes nothing of it. -/
theorem State.sightingRequest_same (s : State) (f : SightingFields) {p : Port} (hstation : p.station = s.port.station)
    (hgate : p.gateNo = s.port.gateNo) : SameAnswer p (s.sightingRequest f) (State.sightingRequest { s with port := p } f) := by
  have hnow : State.now { s with port := p } = s.now := rfl
  unfold State.sightingRequest
  rw [hnow]
  split
  · exact .no
  split
  · exact .no
  · dsimp only
    rw [hstation, hgate]
    exact .ite .ok .ok

theorem exec_sighting (h : s.port.ready) (tag : Byte) (f : SightingFields) :
    exec (.sighting tag f) s = .next (State.replied (s.sightingRequest f) 0x1A tag) := by
  have hown := s.sightingRequest_same f (p := s.port) rfl rfl
  have howner := s.sightingRequest_same f (p := (s.atOwner tag (.sighting f)).port) s.port.pump_identity.1 s.port.pump_identity.2
  have hport : (s.sightingRequest f).1.port = s.port := (congrArg (·.1.port) hown.1 :)
  exact congrArg Host.Outcome.next (State.request_reply h rfl nofun hport hown.2 (congrArg answered howner.1))

theorem State.sightingRequest_old {p : Commit} {now : Nat} (hj : f.judged = some p) (hnow : s.tariff.clock = some now)
    (hage : p.second + s.screen.horizonInForce * 60 < now) : s.sightingRequest f = s.ok [] := by
  simp only [State.sightingRequest, hj, State.now, hnow, if_pos hage]

theorem State.sightingRequest_merged {p : Commit} {now : Nat} (hj : f.judged = some p) (hnow : s.tariff.clock = some now)
    (hage : now ≤ p.second + s.screen.horizonInForce * 60) :
    s.sightingRequest f = (s.setScreen (s.screen.merge p s.port.station s.port.gateNo)).ok [] := by
  simp only [State.sightingRequest, hj, State.now, hnow, if_neg (Nat.not_lt.mpr hage)]

end Request

/-- Settles O35: the owner's tests in their order, then the merge by the card's entry. -/
theorem sightingMerged : Obligations.SightingMerged := by
  intro s tag f h
  refine ⟨fun hnot => ?range, fun hfits hunset => ?unset, fun now hfits hnow => ⟨fun hold => ?old, fun hage => ?merged⟩⟩
  case range =>
    rw [exec_sighting h, State.sightingRequest, judged_of_not_fits hnot]
    rfl
  all_goals
    obtain ⟨kind, passage, hkind, hpassage, hj⟩ := judged_of_fits hfits
    rw [exec_sighting h]
  case unset =>
    simp only [State.sightingRequest, hj, State.now, hunset]
    rfl
  case old =>
    rw [State.sightingRequest_old hj hnow hold]
    rfl
  case merged =>
    rw [State.sightingRequest_merged hj hnow hage]
    refine ⟨_, rfl, ?_, fun hroom card hcard => Screen.sightingOf_merge_ne hroom hcard, fun first rest hs hlength hnone => ?_, ?_⟩
    · exact congrArg (fun c => ({ s with screen := c } : State).reply 0x1A tag .ok []) (Screen.merge_eq ..)
    · have hfull {card : CardId} := Screen.sightingOf_merge_full (p := sightingRecord f kind passage) (station := s.port.station)
        (gate := s.port.gateNo) (card := card) hnone hs hlength
      refine ⟨fun card hcard hfirst => (hfull hcard).trans ?_, fun hrest => (hfull ?_).trans ?_⟩
      · rw [Screen.sightingOf, hs, List.find?_cons_of_neg (by simpa using hfirst.symm)]
      · intro (hcard : first.card = f.cardId)
        rw [Screen.sightingOf, hs, List.find?_cons_of_pos (by simpa using hcard)] at hnone
        cases hnone
      · simpa using hrest
    · intro kind' passage' hkind' hpassage'
      obtain rfl : kind' = kind := hkind'.trans (tapKindOfCode_eq_some hkind).2.symm
      obtain rfl : passage' = passage := by
        have hcode := passageOfCode_eq_some hpassage
        rw [hpassage', hcode]
        split
        next hcode => rw [hcode]; rfl
        next hcode => rw [hcode]; rfl
        next hcode => rw [hcode]; rfl
        next hnone hpending htaken => rw [if_neg hnone, if_neg hpending, if_neg htaken]
      refine ⟨Screen.sightingOf_merge_first (p := sightingRecord f kind' passage'), fun x hx => ?_⟩
      have hown : s.screen.sightingOf (sightingRecord f kind' passage').card = some x := hx
      exact ⟨Screen.sightingOf_merge_newer hown, Screen.sightingOf_merge_conflict hown, Screen.sightingOf_merge_passage hown,
        fun hk => (congrArg (·.sightingOf f.cardId) (Screen.merge_older hown hk)).trans hown⟩

end Sys2Proof.Machine
end

section
/-! The screening of a card reads of the port this gate's identity alone, and of the other side's context whether it holds a version: two
states that differ in the port and in the other side's context alone are screened alike (R30, R31, R94, R106). -/

namespace Sys2Proof.Machine

/-! The relation. -/

/-- A state with another port and other contexts. -/
def State.over (s : State) (p : Port) (c : PerSide Context) : State :=
  { s with port := p, ctxs := c }

/-- The second state is the first one but for the port, whose identity is the same, and for the context of the side that is not `sd`, which
is `x` in the first and `y` in the second and holds the same versions. -/
inductive State.Alike (sd : Side) (x y : Context) (s : State) : State → Prop
  | over (p : Port) (c : PerSide Context) (hstation : p.station = s.port.station) (hgate : p.gateNo = s.port.gateNo)
      (hown : c.get sd = s.ctx sd) (hx : s.ctx sd.other = x) (hy : c.get sd.other = y)
      (hversion : ∀ v, x.holdsVersion v = y.holdsVersion v) : State.Alike sd x y s (s.over p c)

/-- A change that neither reads nor writes the port and the contexts. -/
def State.Bare (f : State → State) : Prop :=
  ∀ s p c, f (s.over p c) = (f s).over p c

section Over

variable (s : State) (p : Port) (c : PerSide Context)

@[simp] theorem State.over_fares : (s.over p c).fares = s.fares := rfl

@[simp] theorem State.over_screen : (s.over p c).screen = s.screen := rfl

@[simp] theorem State.over_gate : (s.over p c).gate = s.gate := rfl

end Over

section Relation

variable {sd : Side} {x y : Context} {s t u v u' v' : State}

theorem State.Alike.ctx_eq (h : s.Alike sd x y t) : t.ctx sd = s.ctx sd := by
  obtain ⟨_, _, -, -, hown, -, -, -⟩ := h
  exact hown

theorem State.Alike.other (h : s.Alike sd x y t) : s.ctx sd.other = x ∧ t.ctx sd.other = y := by
  obtain ⟨_, _, -, -, -, hx, hy, -⟩ := h
  exact ⟨hx, hy⟩

theorem State.Alike.frame (h : s.Alike sd x y t) : t = { s with port := t.port, ctxs := t.ctxs } := by
  obtain ⟨_, _, -, -, -, -, -, -⟩ := h
  rfl

theorem State.Alike.ite {c d : Prop} [Decidable c] [Decidable d] (hcd : c ↔ d) (h : u.Alike sd x y v) (k : u'.Alike sd x y v') :
    (if c then u else u').Alike sd x y (if d then v else v') := by
  by_cases hc : c
  · rwa [if_pos hc, if_pos (hcd.mp hc)]
  · rwa [if_neg hc, if_neg (mt hcd.mpr hc)]

/-- What leaves the port and the contexts as they are leaves states alike. -/
theorem State.Alike.bare {f : State → State} (h : s.Alike sd x y t) (hf : State.Bare f) : (f s).Alike sd x y (f t) := by
  obtain ⟨p, c, hstation, hgate, hown, hx, hy, hversion⟩ := h
  have hs : f s = (f s).over s.port s.ctxs := hf s s.port s.ctxs
  have hport : (f s).port = s.port := (congrArg State.port hs :)
  have hctxs : (f s).ctxs = s.ctxs := (congrArg State.ctxs hs :)
  rw [hf]
  refine .over p c (hport ▸ hstation) (hport ▸ hgate) ?_ ?_ hy hversion
  · rw [State.ctx, hctxs]
    exact hown
  · rw [State.ctx, hctxs]
    exact hx

theorem State.Bare.ite {c : State → Prop} [DecidablePred c] {f g : State → State} (hc : ∀ s p d, c (s.over p d) ↔ c s)
    (hf : State.Bare f) (hg : State.Bare g) : State.Bare fun s => if c s then f s else g s := by
  intro s p d
  exact (if_congr (hc s p d) (hf s p d) (hg s p d)).trans (apply_ite (State.over · p d) (c s) (f s) (g s)).symm

end Relation

/-! The barrier and the authorisation queues, the calculator and the link (R16, R49, R132, R136 to R141). -/

theorem State.beginOpening_bare (sd : Side) : State.Bare (·.beginOpening sd) :=
  .ite (c := fun s => (s.enterBarrier .opening none (some sd)).aisle.active .openLimit = true) (fun _ _ _ => Iff.rfl)
    (fun _ _ _ => rfl) (fun _ _ _ => rfl)

theorem State.selectOwner_bare : State.Bare State.selectOwner := by
  intro s p c
  unfold State.selectOwner
  rw [State.over_gate]
  cases s.gate.queues.a with
  | nil =>
    cases s.gate.queues.b with
    | nil => rfl
    | cons => exact State.beginOpening_bare .b s p c
  | cons =>
    cases s.gate.queues.b with
    | nil => exact State.beginOpening_bare .a s p c
    | cons => exact State.beginOpening_bare _ { s with gate := { s.gate with pointer := (s.gate.pointer + 1) % 16 } } p c

theorem State.beginDriving_bare : State.Bare State.beginDriving :=
  .ite (c := fun s => (s.enterBarrier .closing (some .driving) none).aisle.active .closedLimit = true) (fun _ _ _ => Iff.rfl)
    (fun s p c => State.selectOwner_bare (State.enterBarrier (s.enterBarrier .closing (some .driving) none) .closed none none) p c)
    (fun _ _ _ => rfl)

theorem State.delayExpires_bare : State.Bare State.delayExpires := by
  intro s p c
  unfold State.delayExpires
  rw [State.over_gate]
  split
  next sd _ _ =>
    exact State.Bare.ite (c := fun s => (s.gate.queues.get sd.other).isEmpty = true) (fun _ _ _ => Iff.rfl) State.beginDriving_bare
      (g := fun s => { s with gate := { s.gate with owner := some sd.other, closeDelay := none }.headDeadline }) (fun _ _ _ => rfl) s p c
  · exact State.beginDriving_bare s p c

theorem State.delayEval_bare : State.Bare State.delayEval := by
  intro s p c
  unfold State.delayEval
  rw [State.over_gate]
  split
  · cases s.gate.closeDelay with
    | some => rfl
    | none =>
      exact State.Bare.ite (c := fun s => s.gate.delayMs = 0) (fun _ _ _ => Iff.rfl) State.delayExpires_bare
        (g := fun s => { s with gate := { s.gate with closeDelay := some s.gate.delayMs } }) (fun _ _ _ => rfl) s p c
  · rfl

theorem State.authJoined_bare (sd : Side) : State.Bare (·.authJoined sd) := by
  intro s p c
  dsimp only [State.authJoined]
  rw [State.over_gate]
  cases s.gate.barrier with
  | closed => exact State.selectOwner_bare s p c
  | opened => exact State.delayEval_bare { s with gate := s.gate.headDeadline } p c
  | closing =>
    exact State.Bare.ite (c := fun s => s.gate.phase = some ClosingPhase.driving) (fun _ _ _ => Iff.rfl) (f := id) (fun _ _ _ => rfl)
      (State.beginOpening_bare sd) s p c
  | _ => rfl

/-- The grant depends on the side's reservation alone. -/
theorem State.fill_bare (s : State) (p : Port) (d : PerSide Context) (sd : Side) (origin : AuthOrigin) (card : CardId)
    (seq : Option Nat) :
    (s.over p d).fill sd origin card seq = (((s.fill sd origin card seq).1.over p d), (s.fill sd origin card seq).2) := by
  unfold State.fill
  rw [State.over_gate]
  split
  · rfl
  · rfl
  · rfl
  · exact Prod.ext (State.authJoined_bare sd (State.setQueue (s.setReservation sd .absent) sd _) p d) rfl

theorem State.takeWaiting_bare : State.Bare State.takeWaiting := by
  intro s p c
  unfold State.takeWaiting
  rw [State.over_fares]
  split <;> rfl

theorem State.askPricing_bare (sd : Side) : State.Bare (·.askPricing sd) :=
  fun s p c => State.takeWaiting_bare { s with fares := { s.fares with waiting := some sd } } p c

theorem State.withdrawPricing_bare (sd : Side) : State.Bare (·.withdrawPricing sd) := by
  intro s p c
  unfold State.withdrawPricing
  exact State.takeWaiting_bare { s with fares := _ } p c

/-! Notices and the journal (R155, R165, R169, R177). -/

theorem Port.notify_identity (p : Port) (n : Notice) : (p.notify n).station = p.station ∧ (p.notify n).gateNo = p.gateNo := by
  unfold Port.notify Port.push
  repeat' split
  all_goals exact ⟨rfl, rfl⟩

section Books

variable {sd : Side} {x y : Context} {s t : State}

theorem State.Alike.notify (h : s.Alike sd x y t) (n : Notice) : (s.notify n).Alike sd x y (t.notify n) := by
  obtain ⟨p, c, hstation, hgate, hown, hx, hy, hversion⟩ := h
  obtain ⟨hs, hg⟩ := s.port.notify_identity n
  obtain ⟨hs', hg'⟩ := p.notify_identity n
  exact .over (p.notify n) c (hs'.trans (hstation.trans hs.symm)) (hg'.trans (hgate.trans hg.symm)) hown hx hy hversion

theorem State.Alike.pump_right (h : s.Alike sd x y t) : s.Alike sd x y t.pump := by
  obtain ⟨p, c, hstation, hgate, hown, hx, hy, hversion⟩ := h
  exact .over p.pump c (p.pump_identity.1.trans hstation) (p.pump_identity.2.trans hgate) hown hx hy hversion

theorem State.Alike.lowCheck (h : s.Alike sd x y t) : s.lowCheck.Alike sd x y t.lowCheck := by
  obtain ⟨p, c, -⟩ := id h
  exact .ite Iff.rfl ((h.bare (f := fun s => { s with journal := { s.journal with armed := false } }) fun _ _ _ => rfl).notify _) h

theorem State.Alike.journalFaultNews (h : s.Alike sd x y t) (raised : Bool) :
    (s.journalFaultNews raised).Alike sd x y (t.journalFaultNews raised) := by
  obtain ⟨p, c, -⟩ := id h
  have happended := h.bare (f := fun s => s.appendRaw s.now none (.fault .journal raised .fixed)) fun _ _ _ => rfl
  exact (State.Alike.ite Iff.rfl happended.lowCheck h).notify _

theorem State.Alike.raiseJournal (h : s.Alike sd x y t) : s.raiseJournal.Alike sd x y t.raiseJournal := by
  obtain ⟨p, c, -⟩ := id h
  exact .ite Iff.rfl h ((h.bare (f := (·.setCond .journal true)) fun _ _ _ => rfl).journalFaultNews true)

theorem State.Alike.afterAppend (h : s.Alike sd x y t) : s.afterAppend.Alike sd x y t.afterAppend := by
  have hjournal : t.lowCheck.journal = s.lowCheck.journal := (congrArg State.journal h.lowCheck.frame :)
  exact .ite (by rw [State.free, State.free, hjournal]) h.lowCheck.raiseJournal h.lowCheck

theorem State.Alike.appendReserved (h : s.Alike sd x y t) (second : Option Nat) (side : Option Side) (body : RecordBody) :
    (s.appendReserved second side body).Alike sd x y (t.appendReserved second side body) :=
  State.Alike.afterAppend (h.bare
    (f := fun s => State.appendRaw { s with journal := { s.journal with reserved := s.journal.reserved - 1 } } second side body)
    fun _ _ _ => rfl)

end Books

/-! The hold list, the sightings table and the in-doubt table (R39, R43, R98, R112). -/

section Tables

variable {sd : Side} {x y : Context} {s t : State}

theorem State.Alike.captureHold (h : s.Alike sd x y t) (card : CardId) (instant : Nat) (capture : CaptureResult) :
    (s.captureHold card instant capture).Alike sd x y (t.captureHold card instant capture) := by
  obtain ⟨p, c, -⟩ := id h
  exact (h.bare (f := fun s => { s with screen := s.screen.addHold card (s.screen.holdUntil instant) }) fun _ _ _ => rfl).notify _

theorem State.Alike.repeatGranted (h : s.Alike sd x y t) (card : CardId) (expired : Bool) (counter : Nat) (purse : Int) :
    (s.repeatGranted card expired counter purse).Alike sd x y (t.repeatGranted card expired counter purse) := by
  obtain ⟨p, c, -⟩ := id h
  unfold State.repeatGranted
  rw [State.over_screen]
  cases s.screen.sightingOf card with
  | none => exact h
  | some z =>
    dsimp only
    generalize (if expired = true then _ else _ : Sighting) = z'
    have hput := h.bare (f := fun s => { s with screen := s.screen.putSighting z' }) fun _ _ _ => rfl
    exact .ite Iff.rfl (hput.notify _) hput

theorem State.Alike.expireEntry (h : s.Alike sd x y t) (e : InDoubt) : (s.expireEntry e).Alike sd x y (t.expireEntry e) := by
  obtain ⟨p, c, -⟩ := id h
  exact (h.bare (f := (·.removeEntry e.card)) fun _ _ _ => rfl).appendReserved _ _ _

theorem State.Alike.detach (h : s.Alike sd x y t) (card : CardId) : (s.detach card).Alike sd x y (t.detach card) := by
  obtain ⟨p, c, -⟩ := id h
  have hentry : (s.over p c).entryOf card = s.entryOf card := rfl
  unfold State.detach
  rw [hentry]
  cases s.entryOf card with
  | none => exact h
  | some e => exact .ite Iff.rfl (h.expireEntry e) (h.bare (f := (·.mapEntry card _)) fun _ _ _ => rfl)

theorem State.Alike.releaseTx (h : s.Alike sd x y t) (own : Side) (z : Transaction) :
    (s.releaseTx own z).Alike sd x y (t.releaseTx own z) := by
  have hreleased := h.bare (f := fun s => if z.journalHeld then (s.setReservation own .absent).unreserve else s.setReservation own .absent)
    (State.Bare.ite (c := fun _ => z.journalHeld = true) (fun _ _ _ => Iff.rfl) (fun _ _ _ => rfl) fun _ _ _ => rfl)
  unfold State.releaseTx
  cases z.attached with
  | none => exact hreleased
  | some card => exact hreleased.detach card

end Tables

/-! The side's own context (R22, R29 to R31, R37, R49, R81). -/

section Contexts

variable {sd : Side} {x y : Context} {s t : State}

theorem State.Alike.setCtx (h : s.Alike sd x y t) (z : Context) : (s.setCtx sd z).Alike sd x y (t.setCtx sd z) := by
  obtain ⟨p, c, hstation, hgate, hown, hx, hy, hversion⟩ := h
  exact .over p (c.set sd z) hstation hgate (by simp) (by simpa using hx) (by simpa using hy) hversion

theorem State.Alike.mapTx (h : s.Alike sd x y t) (f : Transaction → Transaction) : (s.mapTx sd f).Alike sd x y (t.mapTx sd f) := by
  rw [State.mapTx, State.mapTx, h.ctx_eq]
  exact h.setCtx _

theorem State.Alike.setCtxState (h : s.Alike sd x y t) (st : CtxState) : (s.setCtxState sd st).Alike sd x y (t.setCtxState sd st) := by
  rw [State.setCtxState, State.setCtxState, h.ctx_eq]
  exact h.setCtx _

theorem State.Alike.releasePin (h : s.Alike sd x y t) : s.releasePin.Alike sd x y t.releasePin := by
  obtain ⟨p, c, hstation, hgate, hown, hx, hy, hversion⟩ := id h
  have hholds : (s.ctxs.a.holdsVersion s.tariff.standby.version || s.ctxs.b.holdsVersion s.tariff.standby.version) =
      (c.a.holdsVersion s.tariff.standby.version || c.b.holdsVersion s.tariff.standby.version) := by
    have hother : (s.ctx sd.other).holdsVersion s.tariff.standby.version = (c.get sd.other).holdsVersion s.tariff.standby.version := by
      rw [hx, hy, hversion]
    cases sd with
    | a =>
      have hown : c.a = s.ctxs.a := hown
      rw [hown]
      exact congrArg _ hother
    | b =>
      have hown : c.b = s.ctxs.b := hown
      rw [hown]
      exact congrArg (· || _) hother
  exact .ite (by rw [hholds]; rfl) h (h.bare (f := fun s => { s with tariff := { s.tariff with pinned := false } }) fun _ _ _ => rfl)

theorem State.Alike.closeContext (h : s.Alike sd x y t) : (s.closeContext sd).Alike sd x y (t.closeContext sd) := by
  obtain ⟨p, c, -⟩ := id h
  exact ((h.setCtx _).bare (State.withdrawPricing_bare sd)).releasePin

theorem State.Alike.finishTx (h : s.Alike sd x y t) (f : Finish) : (s.finishTx sd f).Alike sd x y (t.finishTx sd f) := by
  cases hx : (s.ctx sd).tx with
  | none => simpa only [State.finishTx, h.ctx_eq, hx] using h
  | some z =>
    rw [State.finishTx_eq f hx, State.finishTx_eq f (h.ctx_eq ▸ hx)]
    have hparted := (h.releaseTx sd z).bare
      (f := fun s => { s with
        readers := s.readers.set sd ((s.reader sd).afterTap (s.sup.readerHold.get sd) z.card f.outcome)
        sup := { s.sup with
          refusal :=
            if f.outcome ∈ [TapOutcome.accepted, .repeated, .resolved, .retap] then s.sup.refusal
            else s.sup.refusal.set sd (some 2000) } })
      fun _ _ _ => rfl
    exact (hparted.notify _).closeContext

theorem State.Alike.finishMark (h : s.Alike sd x y t) (capture : CaptureResult) :
    (s.finishMark sd capture).Alike sd x y (t.finishMark sd capture) := by
  unfold State.finishMark
  rw [h.ctx_eq]
  cases (s.ctx sd).tx with
  | none => exact h
  | some z =>
    dsimp only
    cases z.verdict with
    | none => exact h
    | some v => exact (((h.appendReserved _ _ _).mapTx _).captureHold _ _ _).finishTx _

theorem State.Alike.cardLost (h : s.Alike sd x y t) : (s.cardLost sd).Alike sd x y (t.cardLost sd) := by
  unfold State.cardLost
  rw [h.ctx_eq]
  split
  · exact (h.detach _).finishTx _
  · exact h.finishMark _
  · exact h.finishTx _
  · exact h.finishTx _
  · exact h.finishTx _
  · exact h.finishTx _
  · exact h

theorem State.Alike.ask (h : s.Alike sd x y t) (f : LinkFrame) : (s.ask sd f).Alike sd x y (t.ask sd f) := by
  obtain ⟨p, c, -⟩ := id h
  exact .ite Iff.rfl (h.bare (f := fun s => s.setReader sd ((s.reader sd).send f)) fun _ _ _ => rfl) h.cardLost

theorem State.Alike.enterMarking (h : s.Alike sd x y t) (o : TapOutcome) (reason : Option CloneReason) :
    (s.enterMarking sd o reason).Alike sd x y (t.enterMarking sd o reason) := by
  have hfixed := h.mapTx fun z => { z with verdict := some (o, reason), mark := none, guard := none, waitsForSwap := false }
  have hmarking := (hfixed.setCtxState .marking).releasePin
  have hturn := congrArg State.readers hmarking.frame
  unfold State.enterMarking
  dsimp only
  rw [show State.reader _ sd = State.reader _ sd from congrArg (PerSide.get · sd) hturn]
  exact hmarking.ask _

theorem State.Alike.captureVerdict (h : s.Alike sd x y t) (o : TapOutcome) (reason : Option CloneReason) :
    (s.captureVerdict sd o reason).Alike sd x y (t.captureVerdict sd o reason) := by
  obtain ⟨p, c, -⟩ := id h
  exact .ite Iff.rfl (h.enterMarking o reason) (h.finishTx _)

theorem State.Alike.grantRepeat (h : s.Alike sd x y t) (expired : Bool) (r : CardRecord) :
    (s.grantRepeat sd expired r).Alike sd x y (t.grantRepeat sd expired r) := by
  obtain ⟨p, c, -⟩ := id h
  unfold State.grantRepeat
  rw [h.ctx_eq]
  cases (s.ctx sd).tx with
  | none => exact h
  | some z =>
    have hfilled := h.bare (f := fun s => (s.fill sd .repeat z.card none).1) fun s p c => congrArg Prod.fst (s.fill_bare p c sd _ _ _)
    simp only [s.fill_bare p c] at hfilled ⊢
    exact (State.Alike.ite Iff.rfl (hfilled.repeatGranted _ _ _ _) hfilled).finishTx _

theorem State.Alike.enterPricing (h : s.Alike sd x y t) : (s.enterPricing sd).Alike sd x y (t.enterPricing sd) :=
  ((h.mapTx _).setCtxState .pricing).bare (State.askPricing_bare sd)

theorem State.Alike.actOnVerdict (h : s.Alike sd x y t) (r : CardRecord) (v : Verdict) :
    (s.actOnVerdict sd r v).Alike sd x y (t.actOnVerdict sd r v) := by
  cases v with
  | serve => exact h.enterPricing
  | refuse o => exact h.finishTx _
  | capture o reason => exact h.captureVerdict o reason
  | repeated expired => exact h.grantRepeat expired r

theorem State.Alike.judgeCard (h : s.Alike sd x y t) (z : Transaction) (r : CardRecord) (m : DenyMark) :
    (s.judgeCard sd z r m).Alike sd x y (t.judgeCard sd z r m) := by
  obtain ⟨p, c, hstation, -⟩ := id h
  unfold State.judgeCard
  rw [show (s.over p c).port.station = s.port.station from hstation]
  exact (h.bare (f := fun s => { s with screen := s.screen.noteVerdict z.card _ }) fun _ _ _ => rfl).actOnVerdict r _

/-- The screening of a side's card in two states that are alike. -/
theorem State.Alike.screen1 (h : s.Alike sd x y t) : (s.screen1 sd).Alike sd x y (t.screen1 sd) := by
  obtain ⟨p, c, -⟩ := id h
  unfold State.screen1
  rw [h.ctx_eq]
  cases (s.ctx sd).tx with
  | none => exact h
  | some z =>
    dsimp only
    split
    · exact .ite Iff.rfl h.enterPricing (.ite Iff.rfl (h.mapTx _) (h.judgeCard z _ _))
    · exact h

end Contexts

end Sys2Proof.Machine
end

section
/-! A bulk replace: the requests, the conditions of the swap, and what the swap makes of the lookups that waited (R105, R106). -/

namespace Sys2Proof.Machine

/-! DENYLIST_BEGIN and DENYLIST_PAGE (R105). -/

section Builds

variable {s : State}

theorem State.denylistBegin_portFree (version : Nat) : State.PortFree (·.denylistBegin version) :=
  fun _ _ => .ite .no (.ite .no .ok)

theorem State.denylistPage_portFree (cards : List CardId) : State.PortFree (·.denylistPage cards) :=
  fun _ _ => .ite .no (.ite .no (.ite .no (.ite .no .ok)))

theorem exec_denylistBegin (h : s.port.ready) (tag : Byte) (version : Nat) :
    exec (.denylistBegin tag version) s = .next (State.replied (s.denylistBegin version) 0x14 tag) :=
  congrArg Host.Outcome.next (State.request_portFree h (State.denylistBegin_portFree version) (fun _ => rfl) rfl nofun)

theorem exec_denylistPage (h : s.port.ready) (tag : Byte) {cards : List CardId} (hl : cards.length ≤ 85) :
    exec (.denylistPage tag cards) s = .next (State.replied (s.denylistPage cards) 0x15 tag) :=
  congrArg Host.Outcome.next (State.request_portFree h (State.denylistPage_portFree cards) (fun _ => rfl) (if_pos hl) nofun)

theorem pageFollows_eq_false_iff (last : Option CardId) (cards : List CardId) :
    pageFollows last cards = false ↔ ¬cards.Pairwise (· < ·) ∨ pageBehind last cards = true := by
  unfold pageFollows pageBehind
  rw [Bool.and_eq_false_iff, ← ascending_iff, Bool.not_eq_true]
  cases last with
  | none => simp
  | some x =>
    cases cards with
    | nil => simp
    | cons y rest => simp only [decide_eq_false_iff_not, decide_eq_true_eq, BitVec.not_lt]

end Builds

/-! DENYLIST_END, which holds its reply (R106). -/

/-- A request that is not answered at once stays at the head of the queue. -/
theorem State.request_held {s v : State} {tag : Byte} {r : Request} (h : s.port.ready)
    (hc : (s.atOwner tag r).carry r.judged = (v, none)) (hp : v.port = (s.atOwner tag r).port) :
    s.request tag r =
      { v with port := { s.port.pump with requests := [{ tag := tag, request := r.judged }], headTaken := true } } := by
  rw [State.request_ready s tag r h]
  rw [State.atOwner] at hc hp
  simp only [hc, hp]
  rw [← s.port.pump_pump, ← Port.pump_withRequests, Port.pump_pump]

theorem exec_denylistEnd {s : State} (h : s.port.ready) (tag : Byte) :
    exec (.denylistEnd tag) s = .next (
      if s.screen.build = .building then
        { s with
          screen := { s.screen with build := .ending }
          port := { s.port.pump with requests := [{ tag := tag, request := .denylistEnd }], headTaken := true } }
      else s.reply 0x16 tag .notNow []) := by
  refine congrArg Host.Outcome.next ?_
  split
  next hbuild =>
    exact State.request_held (v := (s.atOwner tag .denylistEnd).setScreen { s.screen with build := .ending }) h (if_pos hbuild) rfl
  next hbuild =>
    exact State.request_reply (v := s) (a := { result := .notNow, fields := [] }) h rfl nofun rfl (.inr rfl) (if_neg hbuild)

/-! What a context's marks and its wait for the swap may be after it (R106). -/

/-- A context whose mark is not flagged, and whose lookup does not wait in SCREENING. -/
def Context.Settled (c : Context) : Prop :=
  (∀ m, c.mark = some m → m.afterSwap = false) ∧ ∀ x, c.state = .screening → c.tx = some x → x.waitsForSwap = false

theorem Context.Settled.of_closed {c : Context} (h : c.tx = none) : c.Settled :=
  ⟨fun m hm => by simp [Context.mark, h] at hm, fun x _ hx => by simp [h] at hx⟩

/-- A context whose mark has closed, in another state than SCREENING. -/
theorem Context.Settled.of_unmarked {st : CtxState} {o : Option Transaction} (h : ∀ x ∈ o, x.mark = none) (hst : st ≠ .screening) :
    Context.Settled { state := st, tx := o } := by
  refine ⟨fun m hm => ?_, fun x hs => absurd hs hst⟩
  obtain ⟨x, hx, hm⟩ := Option.bind_eq_some_iff.mp hm
  rw [h x hx] at hm
  cases hm

theorem Context.Settled.map {c : Context} (h : c.Settled) {f : Transaction → Transaction} (hmark : ∀ x, (f x).mark = x.mark)
    (hwaits : ∀ x, (f x).waitsForSwap = x.waitsForSwap) : Context.Settled { c with tx := c.tx.map f } := by
  obtain ⟨hordinary, hnow⟩ := h
  refine ⟨fun m hm => hordinary m ?_, fun x hs hx => ?_⟩
  · simpa [Context.mark, Option.bind_map, Function.comp_def, hmark] using hm
  · obtain ⟨y, hy, rfl⟩ := Option.map_eq_some_iff.mp hx
    rw [hwaits]
    exact hnow y hs hy

/-- The context of a side is settled. -/
def State.SettledAt (s : State) (sd : Side) : Prop :=
  (s.ctx sd).Settled

section Settled

variable {s t : State} {sd : Side}

theorem State.SettledAt.still (h : s.SettledAt sd) (hs : s.Still t) : t.SettledAt sd := by
  rw [State.SettledAt, State.ctx, hs.2]
  exact h

theorem State.SettledAt.finishTx (h : s.SettledAt sd) (f : Finish) : (s.finishTx sd f).SettledAt sd := by
  cases hx : (s.ctx sd).tx with
  | none => simpa only [State.finishTx, hx] using h
  | some x =>
    rw [State.finishTx_eq f hx]
    obtain ⟨fares, pin, hclose, -⟩ := (s.closing sd x f).closeContext_eq sd
    refine .of_closed ?_
    rw [hclose]
    exact (congrArg Context.tx (PerSide.get_set_self ..) :)

theorem State.SettledAt.finishMark (h : s.SettledAt sd) (capture : CaptureResult) : (s.finishMark sd capture).SettledAt sd := by
  unfold State.finishMark
  split
  · exact h
  split
  · exact h
  · refine State.SettledAt.finishTx (State.SettledAt.still ?_ (State.captureHold_still ..)) _
    rw [State.SettledAt, State.ctx_mapTx]
    exact (h.still (State.appendReserved_still ..)).map (fun _ => rfl) fun _ => rfl

theorem State.SettledAt.cardLost (h : s.SettledAt sd) : (s.cardLost sd).SettledAt sd := by
  unfold State.cardLost
  split
  · exact (h.still (State.detach_still ..)).finishTx _
  · exact h.finishMark _
  · exact h.finishTx _
  · exact h.finishTx _
  · exact h.finishTx _
  · exact h.finishTx _
  · exact h

theorem State.SettledAt.ask (h : s.SettledAt sd) (f : LinkFrame) : (s.ask sd f).SettledAt sd := by
  unfold State.ask
  split
  · exact h
  · exact h.cardLost

theorem State.settledAt_enterMarking (s : State) (sd : Side) (o : TapOutcome) (reason : Option CloneReason) :
    (s.enterMarking sd o reason).SettledAt sd := by
  refine State.SettledAt.ask (State.SettledAt.still ?_ (State.releasePin_still _)) _
  rw [State.SettledAt, State.ctx_setCtxState, State.ctx_mapTx]
  exact .of_unmarked (by simp) (by simp)

theorem State.SettledAt.captureVerdict (h : s.SettledAt sd) (o : TapOutcome) (reason : Option CloneReason) :
    (s.captureVerdict sd o reason).SettledAt sd := by
  unfold State.captureVerdict
  split
  · exact s.settledAt_enterMarking sd o reason
  · exact h.finishTx _

theorem State.settledAt_enterPricing (s : State) (sd : Side) : (s.enterPricing sd).SettledAt sd := by
  refine State.SettledAt.still ?_ (State.askPricing_still _ _)
  rw [State.SettledAt, State.ctx_setCtxState, State.ctx_mapTx]
  exact .of_unmarked (by simp) (by simp)

theorem State.SettledAt.grantRepeat (h : s.SettledAt sd) (expired : Bool) (r : CardRecord) : (s.grantRepeat sd expired r).SettledAt sd := by
  unfold State.grantRepeat
  split
  · exact h
  next x _ =>
    have hfilled := h.still (s.fill_still sd .repeat x.card none)
    dsimp only
    split
    · exact (hfilled.still (State.repeatGranted_still ..)).finishTx _
    · exact hfilled.finishTx _

theorem State.SettledAt.actOnVerdict (h : s.SettledAt sd) (r : CardRecord) (v : Verdict) : (s.actOnVerdict sd r v).SettledAt sd := by
  cases v with
  | serve => exact s.settledAt_enterPricing sd
  | refuse o => exact h.finishTx _
  | capture o reason => exact h.captureVerdict o reason
  | repeated expired => exact h.grantRepeat expired r

/-- A lookup made with a mark that is not flagged does not wait. -/
theorem State.SettledAt.screen1 (h : s.SettledAt sd) : (s.screen1 sd).SettledAt sd := by
  unfold State.screen1
  split
  · exact h
  next x hx =>
    split
    next product r mark hproduct hrecord hmark =>
      have hnow : ¬(mark.afterSwap = true ∧ s.screen.isHeld x.card x.instant = false) := by
        have hordinary := h.1 mark (by simp [Context.mark, hx, hmark])
        simp [hordinary]
      split
      · exact s.settledAt_enterPricing sd
      · unfold State.judgeCard
        exact State.SettledAt.actOnVerdict (by exact h) r _
    · exact h

end Settled

/-! The contexts at the swap (R106). -/

/-- A context with an ordinary mark. -/
def Context.unflagged (c : Context) : Context :=
  { c with tx := c.tx.map fun x => { x with mark := x.mark.map fun m => { m with afterSwap := false } } }

/-- A context with an ordinary mark, whose lookup in SCREENING does not wait. -/
def Context.ordinary (c : Context) : Context :=
  { c with
    tx := c.tx.map fun x =>
      { x with
        mark := x.mark.map fun m => { m with afterSwap := false }
        waitsForSwap := if c.state = .screening then false else x.waitsForSwap } }

/-- A context whose lookup waits for the swap. -/
def Context.Waits (c : Context) : Prop :=
  c.state = .screening ∧ ∃ x, c.tx = some x ∧ x.waitsForSwap = true

section Ordinary

variable {c : Context}

theorem Context.settled_ordinary (c : Context) : c.ordinary.Settled := by
  refine ⟨fun m hm => ?_, fun x hs hx => ?_⟩
  · obtain ⟨x, hx, hm⟩ := Option.bind_eq_some_iff.mp hm
    obtain ⟨y, -, rfl⟩ := Option.map_eq_some_iff.mp hx
    obtain ⟨n, -, rfl⟩ := Option.map_eq_some_iff.mp hm
    rfl
  · obtain ⟨y, -, rfl⟩ := Option.map_eq_some_iff.mp hx
    exact if_pos hs

/-- Where no lookup waits, the mark is all that changes. -/
theorem Context.ordinary_of_not_waits (h : ¬c.Waits) : c.ordinary = c.unflagged := by
  unfold Context.ordinary Context.unflagged
  congr 1
  refine Option.map_congr fun x hx => ?_
  split
  next hs =>
    have hw : x.waitsForSwap = false := by
      by_contra hw
      exact h ⟨hs, x, hx, by simpa using hw⟩
    rw [hw]
  · rfl

theorem Context.ordinary_of_waits (h : c.Waits) :
    c.ordinary = { c.unflagged with tx := c.unflagged.tx.map fun x => { x with waitsForSwap := false } } := by
  obtain ⟨hs, x, hx, -⟩ := h
  simp [Context.ordinary, Context.unflagged, hs, hx]

theorem Context.ordinary_screening (h : c.Waits) :
    c.ordinary.state = .screening ∧ ∃ x, c.ordinary.tx = some x ∧ x.waitsForSwap = false := by
  obtain ⟨hs, x, hx, -⟩ := h
  exact ⟨hs, _, congrArg (Option.map _) hx, if_pos hs⟩

theorem Context.holdsVersion_unflagged (c : Context) (v : Option Nat) : c.unflagged.holdsVersion v = c.ordinary.holdsVersion v := by
  unfold Context.unflagged Context.ordinary Context.holdsVersion
  cases c.tx <;> rfl

theorem Context.waits_unflagged : c.unflagged.Waits ↔ c.Waits := by
  simp [Context.Waits, Context.unflagged]

end Ordinary

/-! A lookup that waited is the side's SCREENING (R106). -/

section Lookups

variable {s t u v : State} {sd : Side} {c x y : Context}

theorem State.Alike.swap (h : s.Alike .a x y t) : (s.setCtx .b y).Alike .b (t.ctx .a) (t.ctx .a) t := by
  obtain ⟨p, d, hstation, hgate, hown, -, hy, -⟩ := h
  exact .over p d hstation hgate hy hown.symm rfl fun _ => rfl

theorem PerSide.eq_of_get {α : Type} {p q : PerSide α} {sd : Side} (h : p.get sd = q.get sd) (k : p.get sd.other = q.get sd.other) :
    p = q := by
  cases sd with
  | a => exact congr (congrArg PerSide.mk h) k
  | b => exact congr (congrArg PerSide.mk k) h

/-- States that are alike, and whose other contexts are the same, differ in the port alone. -/
theorem State.Alike.eq_of_same (h : s.Alike sd x x t) : s = { t with port := s.port } := by
  obtain ⟨p, d, -, -, hown, hx, hx', -⟩ := h
  rw [PerSide.eq_of_get hown (hx'.trans hx.symm)]
  rfl

theorem State.screenWaiting_of_waits (hu : u.ctx sd = c.unflagged) (h : c.Waits) :
    u.screenWaiting sd = (u.setCtx sd c.ordinary).screen1 sd := by
  rw [Context.ordinary_of_waits h, ← hu]
  have hwaits := hu ▸ Context.waits_unflagged.mpr h
  obtain ⟨hs, z, hz, hw⟩ := hwaits
  exact if_pos ⟨hs, by rw [hz]; exact hw⟩

theorem State.screenWaiting_of_not_waits (hu : u.ctx sd = c.unflagged) (h : ¬c.Waits) :
    u.screenWaiting sd = u.setCtx sd c.ordinary := by
  rw [Context.ordinary_of_not_waits h, ← hu, State.setCtx_ctx]
  refine if_neg fun hwaits => h (Context.waits_unflagged.mp (hu ▸ ?_))
  obtain ⟨hs, hany⟩ := hwaits
  exact ⟨hs, by simpa [Option.any_eq_true] using hany⟩

/-- The lookup that waited, where one did, is the SCREENING of a state that differs in the port and in the other side's context. -/
theorem State.screenWaiting_alike (hu : u.ctx sd = c.unflagged) (h : (u.setCtx sd c.ordinary).Alike sd x y v) :
    ∃ w, (c.Waits → exec (.screening sd) v = .next w) ∧ (¬c.Waits → w = v) ∧ (u.screenWaiting sd).Alike sd x y w := by
  by_cases hc : c.Waits
  · refine ⟨(v.screen1 sd).pump, fun _ => ?_, fun hnot => absurd hc hnot, ?_⟩
    · have hv : v.ctx sd = c.ordinary := by rw [h.ctx_eq, State.ctx_setCtx]
      obtain ⟨hs, z, hz, hw⟩ := Context.ordinary_screening hc
      rw [exec_screening, State.screenEvent_first (hv ▸ hs) (hv ▸ hz) hw]
    · rw [State.screenWaiting_of_waits hu hc]
      exact h.screen1.pump_right
  · refine ⟨v, fun hwaits => absurd hwaits hc, fun _ => rfl, ?_⟩
    rwa [State.screenWaiting_of_not_waits hu hc]

theorem State.screenWaiting_settledAt (hu : u.ctx sd = c.unflagged) : (u.screenWaiting sd).SettledAt sd := by
  have hordinary : (u.setCtx sd c.ordinary).SettledAt sd := by
    rw [State.SettledAt, State.ctx_setCtx]
    exact c.settled_ordinary
  by_cases hc : c.Waits
  · rw [State.screenWaiting_of_waits hu hc]
    exact hordinary.screen1
  · rwa [State.screenWaiting_of_not_waits hu hc]

end Lookups

end Sys2Proof.Machine
end

section
/-! The swap of a bulk replace: its conditions, its new list, the lookups that waited and the reply of DENYLIST_END (R105, R106). -/

namespace Sys2Proof.Machine

/-! The conditions (R106). -/

section Conditions

variable {s : State}

theorem holdsSwap_eq_false_iff (o : Option DenyMark) : holdsSwap o = false ↔ ∀ m, o = some m → m.afterSwap = true := by
  cases o <;> simp [holdsSwap]

theorem State.canSwapList_iff (s : State) :
    s.canSwapList = true ↔ s.screen.build = .ending ∧ s.screen.queue = [] ∧ s.screen.applying = false ∧
      ∀ sd m, (s.ctx sd).mark = some m → m.afterSwap = true := by
  have hsides : (∀ sd m, (s.ctx sd).mark = some m → m.afterSwap = true) ↔
      holdsSwap s.ctxs.a.mark = false ∧ holdsSwap s.ctxs.b.mark = false := by
    rw [holdsSwap_eq_false_iff, holdsSwap_eq_false_iff]
    exact ⟨fun h => ⟨h .a, h .b⟩, fun ⟨ha, hb⟩ sd => by cases sd <;> assumption⟩
  rw [hsides]
  simp only [State.canSwapList, Bool.and_eq_true, Bool.not_eq_true', decide_eq_true_eq, List.isEmpty_iff, and_assoc]

theorem exec_denylistSwap_held
    (h : s.screen.build ≠ .ending ∨ s.screen.queue ≠ [] ∨ s.screen.applying = true ∨
      ∃ sd m, (s.ctx sd).mark = some m ∧ m.afterSwap = false) :
    exec .denylistSwap s = .next { s with port := s.port.pump } := by
  refine congrArg Host.Outcome.next (if_neg fun hcan => ?_)
  obtain ⟨hbuild, hqueue, happlying, hmarks⟩ := s.canSwapList_iff.mp hcan
  rcases h with h | h | h | ⟨sd, m, hm, h⟩
  · exact h hbuild
  · exact h hqueue
  · simp [happlying] at h
  · simp [hmarks sd m hm] at h

end Conditions

/-! The state that the swap makes before its reply (R106). -/

/-- The new list in force, and ordinary marks. -/
def State.unflagged (s : State) : State :=
  { s with screen := s.screen.swapList, ctxs := { a := s.ctxs.a.unflagged, b := s.ctxs.b.unflagged } }

/-- The new list in force, ordinary marks, and no lookup in SCREENING that waits. -/
def State.ordinary (s : State) : State :=
  { s with screen := s.screen.swapList, ctxs := { a := s.ctxs.a.ordinary, b := s.ctxs.b.ordinary } }

/-- The lookups that waited are made, side A's before side B's. -/
def State.lookedUp (s : State) : State :=
  (s.unflagged.screenWaiting .a).screenWaiting .b

section Swap

variable (s : State)

theorem State.listSwap_eq (h : s.canSwapList = true) : s.listSwap = s.lookedUp.endReply.settlePort portTurns :=
  if_pos h

theorem State.lookedUp_same : Same s.unflagged s.lookedUp := by
  have hfirst := s.unflagged.screenWaiting_same .a
  have hsecond := (s.unflagged.screenWaiting .a).screenWaiting_same .b
  unfold State.lookedUp
  simp_all

theorem State.Alike.refl (sd : Side) : s.Alike sd (s.ctx sd.other) (s.ctx sd.other) s :=
  .over s.port s.ctxs rfl rfl rfl rfl rfl fun _ => rfl

theorem State.screenWaiting_other (sd : Side) : (s.screenWaiting sd).ctx sd.other = s.ctx sd.other := by
  unfold State.screenWaiting
  split
  · exact ((State.Alike.refl s sd).mapTx _).screen1.other.1
  · rfl

theorem State.lookedUp_settledAt (sd : Side) : s.lookedUp.SettledAt sd := by
  cases sd with
  | a =>
    have hfirst := s.unflagged.screenWaiting_settledAt (sd := .a) (c := s.ctxs.a) rfl
    rw [State.SettledAt] at *
    rwa [show s.lookedUp.ctx .a = _ from State.screenWaiting_other _ .b]
  | b => exact State.screenWaiting_settledAt (State.screenWaiting_other s.unflagged .a)

/-- But for the port, the lookups that waited are the SCREENING of their sides, in the same order. -/
theorem State.lookedUp_screenings :
    ∃ v w, (s.ctxs.a.Waits → exec (.screening .a) s.ordinary = .next v) ∧ (¬s.ctxs.a.Waits → v = s.ordinary) ∧
      (s.ctxs.b.Waits → exec (.screening .b) v = .next w) ∧ (¬s.ctxs.b.Waits → w = v) ∧
      s.lookedUp = { w with port := s.lookedUp.port } := by
  have hstart : (s.unflagged.setCtx .a s.ctxs.a.ordinary).Alike .a s.ctxs.b.unflagged s.ctxs.b.ordinary s.ordinary :=
    .over s.port s.ordinary.ctxs rfl rfl rfl rfl rfl s.ctxs.b.holdsVersion_unflagged
  obtain ⟨v, hscreened, hkept, hfirst⟩ := State.screenWaiting_alike (u := s.unflagged) (c := s.ctxs.a) rfl hstart
  obtain ⟨w, hscreened', hkept', hsecond⟩ := State.screenWaiting_alike hfirst.other.1 hfirst.swap
  exact ⟨v, w, hscreened, hkept, hscreened', hkept', hsecond.eq_of_same⟩

end Swap

/-- DENYLIST_END at the head of the queue is answered, and the queue is empty. -/
theorem State.endReply_settled {u : State} {tag : Byte} (n : Nat) (hq : u.port.requests = [{ tag := tag, request := .denylistEnd }])
    (ht : u.port.headTaken = true) :
    u.endReply.settlePort n =
      { u with port := (u.port.replyHead { kind := 0x96, tag := tag, result := .ok, fields := u.screen.endFields }).pump } := by
  have hreply : u.endReply =
      { u with port := u.port.replyHead { kind := 0x96, tag := tag, result := .ok, fields := u.screen.endFields } } := by
    unfold State.endReply
    rw [hq]
    exact if_pos ht
  have hempty : u.endReply.port.requests = [] := by
    rw [hreply]
    exact congrArg (List.drop 1) hq
  rw [State.settlePort_empty _ _ hempty, hreply]
  rfl

/-- Settles O34: the three requests by their owners' tests, the swap by the states that are alike but for the port. -/
theorem bulkReplace : Obligations.BulkReplace := by
  intro s tag
  refine ⟨fun h => ⟨fun version hversion => ?begins, fun cards hl => ?page, exec_denylistEnd h tag⟩, exec_denylistSwap_held,
    fun hbuild hqueue happlying hmarks hrequests htaken _ => ?swap⟩
  case begins =>
    rw [exec_denylistBegin h, State.denylistBegin, State.replied_ite, State.replied_ite]
    refine congrArg Host.Outcome.next (if_congr ?_ rfl rfl)
    simp only [Nat.not_lt.mpr hversion, or_false]
  case page =>
    rw [exec_denylistPage h tag hl, State.denylistPage, State.replied_ite, State.replied_ite, State.replied_ite, State.replied_ite]
    exact congrArg Host.Outcome.next
      (if_congr Iff.rfl rfl (if_congr Iff.rfl rfl (if_congr (pageFollows_eq_false_iff _ _) rfl (if_congr Iff.rfl rfl rfl))))
  case swap =>
    have hcan := s.canSwapList_iff.mpr ⟨hbuild, hqueue, happlying, hmarks⟩
    obtain ⟨-, -, -, -, -, -, -, -, hlist, hversion, -, -, -, hidle, hbuildList, -, hlast, -, -, -, -, -, -, -, -, -, -, -, -, hqueued,
      hhead, -⟩ := s.lookedUp_same
    obtain ⟨v, w, hscreened, hkept, hscreened', hkept', hlooked⟩ := s.lookedUp_screenings
    have hsettled := State.endReply_settled portTurns (hqueued.trans hrequests) (hhead.trans htaken)
    have hfields : s.lookedUp.screen.endFields = beBytes 2 s.screen.buildVersion ++ beBytes 2 s.screen.buildList.length := by
      rw [Screen.endFields, hlist, hversion]
      rfl
    rw [hfields] at hsettled
    refine ⟨_, congrArg Host.Outcome.next ((s.listSwap_eq hcan).trans hsettled), hlist, hversion, hidle, hbuildList, hlast, ?_, ?_,
      fun sd => (s.lookedUp_settledAt sd).1, fun sd => (s.lookedUp_settledAt sd).2, ?_, fun hnone => ?_⟩
    · rw [Port.pump_requests]
      exact congrArg (List.drop 1) (hqueued.trans hrequests)
    · exact Port.made_pump (List.mem_append_right _ (List.mem_singleton_self _))
    · exact ⟨v, w, hscreened, hkept, hscreened', hkept', by rw [hlooked]⟩
    · have hwaits (sd : Side) : ¬(s.ctx sd).Waits := fun ⟨_, x, hx, hw⟩ => by simp [hnone sd x hx] at hw
      rw [hlooked, hkept' (hwaits .b), hkept (hwaits .a)]
      exact ⟨rfl, rfl, rfl, rfl⟩

end Sys2Proof.Machine
end

section
/-! The tracker: its transitions test by test, and their mirror (R124 to R129). -/

namespace Sys2Proof.Machine

/-! The transition of each state (R125). -/

/-- Every state but EMPTY is that of a person who entered at a side (R124). -/
theorem TrackerState.of_side (st : TrackerState) :
    st = .empty ∨ ∃ sd, st = trackerFirst sd ∨ st = trackerSecond sd ∨ st = trackerThird sd := by
  cases st with
  | empty => exact .inl rfl
  | a1 => exact .inr ⟨.a, .inl rfl⟩
  | a2 => exact .inr ⟨.a, .inr (.inl rfl)⟩
  | a3 => exact .inr ⟨.a, .inr (.inr rfl)⟩
  | b1 => exact .inr ⟨.b, .inl rfl⟩
  | b2 => exact .inr ⟨.b, .inr (.inl rfl)⟩
  | b3 => exact .inr ⟨.b, .inr (.inr rfl)⟩

section Transition

variable {t : Tracker} (p : PerZone Bool)

theorem Tracker.patternChange_resync (h : t.resync = true) :
    t.patternChange p = ({ t with pattern := p, resync := !p.allClear }, []) := by
  simp only [Tracker.patternChange, h, if_true]

theorem Tracker.patternChange_empty (h : t.resync = false) (hs : t.state = .empty) :
    t.patternChange p = Tracker.fromEmpty { t with pattern := p } := by
  simp only [Tracker.patternChange, h, hs, Bool.false_eq_true, if_false]

theorem Tracker.patternChange_first {sd : Side} (h : t.resync = false) (hs : t.state = trackerFirst sd) :
    t.patternChange p = Tracker.fromFirst { t with pattern := p } sd t.pattern := by
  cases sd <;> simp only [Tracker.patternChange, h, hs, trackerFirst, Bool.false_eq_true, if_false]

theorem Tracker.patternChange_second {sd : Side} (h : t.resync = false) (hs : t.state = trackerSecond sd) :
    t.patternChange p = Tracker.fromSecond { t with pattern := p } sd t.pattern := by
  cases sd <;> simp only [Tracker.patternChange, h, hs, trackerSecond, Bool.false_eq_true, if_false]

theorem Tracker.patternChange_third {sd : Side} (h : t.resync = false) (hs : t.state = trackerThird sd) :
    t.patternChange p = Tracker.fromThird { t with pattern := p } sd t.pattern := by
  cases sd <;> simp only [Tracker.patternChange, h, hs, trackerThird, Bool.false_eq_true, if_false]

end Transition

/-! The same for a person who entered at the other side (R124). -/

/-- ZA and ZB exchanged. -/
def PerZone.mirror (p : PerZone Bool) : PerZone Bool :=
  { za := p.zb, zm := p.zm, zb := p.za }

/-- The A states and the B states exchanged. -/
def TrackerState.mirror : TrackerState → TrackerState
  | .empty => .empty
  | .a1 => .b1
  | .a2 => .b2
  | .a3 => .b3
  | .b1 => .a1
  | .b2 => .a2
  | .b3 => .a3

/-- The tracker with ZA and ZB, A and B exchanged. -/
def Tracker.mirror (t : Tracker) : Tracker :=
  { t with pattern := t.pattern.mirror, state := t.state.mirror }

/-- A report with the sides exchanged. -/
def Report.mirror : Report → Report
  | .passage sd follower behind => .passage sd.other follower behind
  | .backout sd => .backout sd.other
  | .counterflow sd => .counterflow (sd.map Side.other)

/-- A transition with ZA and ZB, A and B exchanged. -/
def mirrorStep (r : Tracker × List Report) : Tracker × List Report :=
  (r.1.mirror, r.2.map Report.mirror)

section Mirror

variable (p old : PerZone Bool) (t : Tracker) (sd : Side)

@[simp] theorem PerZone.near_mirror : p.mirror.near sd.other = p.near sd := by
  cases sd <;> rfl

@[simp] theorem PerZone.far_mirror : p.mirror.far sd.other = p.far sd := by
  cases sd <;> rfl

@[simp] theorem PerZone.zm_mirror : p.mirror.zm = p.zm := rfl

@[simp] theorem PerZone.allClear_mirror : p.mirror.allClear = p.allClear := by
  simp only [PerZone.allClear, PerZone.mirror]
  ac_rfl

@[simp] theorem Tracker.pattern_mirror : t.mirror.pattern = t.pattern.mirror := rfl

@[simp] theorem Tracker.behind_mirror : t.mirror.behind = t.behind := rfl

@[simp] theorem Tracker.byFollower_mirror : t.mirror.byFollower = t.byFollower := rfl

theorem trackerFirst_mirror : (trackerFirst sd).mirror = trackerFirst sd.other := by
  cases sd <;> rfl

theorem trackerSecond_mirror : (trackerSecond sd).mirror = trackerSecond sd.other := by
  cases sd <;> rfl

theorem trackerThird_mirror : (trackerThird sd).mirror = trackerThird sd.other := by
  cases sd <;> rfl

theorem mirrorStep_ite (c : Prop) [Decidable c] (x y : Tracker × List Report) :
    mirrorStep (if c then x else y) = if c then mirrorStep x else mirrorStep y :=
  apply_ite mirrorStep c x y

theorem Tracker.noteFollower_eq :
    t.noteFollower sd old = { t with behind := t.behind || (t.pattern.near sd && !old.near sd) } := by
  unfold Tracker.noteFollower
  split
  next h => rw [h, Bool.or_true]
  next h => rw [Bool.eq_false_iff.mpr h, Bool.or_false]

theorem Tracker.fromEmpty_mirror : t.mirror.fromEmpty = mirrorStep t.fromEmpty := by
  obtain ⟨state, resync, behind, byFollower, za, zm, zb⟩ := t
  cases za <;> cases zb <;> cases zm <;> rfl

theorem Tracker.fromFirst_mirror : t.mirror.fromFirst sd.other old.mirror = mirrorStep (t.fromFirst sd old) := by
  simp only [Tracker.fromFirst, mirrorStep_ite, pattern_mirror, byFollower_mirror, PerZone.near_mirror, PerZone.far_mirror,
    PerZone.zm_mirror, ← trackerSecond_mirror]
  rfl

theorem Tracker.fromSecond_mirror : t.mirror.fromSecond sd.other old.mirror = mirrorStep (t.fromSecond sd old) := by
  simp only [Tracker.fromSecond, mirrorStep_ite, noteFollower_eq, pattern_mirror, byFollower_mirror, behind_mirror,
    PerZone.near_mirror, PerZone.far_mirror, PerZone.zm_mirror, PerZone.allClear_mirror, ← trackerFirst_mirror,
    ← trackerThird_mirror]
  rfl

theorem Tracker.afterPassage_mirror : t.mirror.afterPassage sd.other = mirrorStep (t.afterPassage sd) := by
  simp only [Tracker.afterPassage, mirrorStep_ite, pattern_mirror, byFollower_mirror, behind_mirror, PerZone.near_mirror,
    PerZone.far_mirror, PerZone.zm_mirror, ← trackerSecond_mirror, ← trackerFirst_mirror]
  rfl

theorem Tracker.fromThird_mirror : t.mirror.fromThird sd.other old.mirror = mirrorStep (t.fromThird sd old) := by
  simp only [Tracker.fromThird, mirrorStep_ite, pattern_mirror, behind_mirror, PerZone.near_mirror,
    PerZone.far_mirror, PerZone.zm_mirror, afterPassage_mirror, noteFollower_eq, ← trackerSecond_mirror]
  rfl

/-- A step of the exchanged tracker on the exchanged pattern is the exchanged step (R124). -/
theorem Tracker.patternChange_mirror : t.mirror.patternChange p.mirror = mirrorStep (t.patternChange p) := by
  by_cases h : t.resync = true
  · rw [Tracker.patternChange_resync p h, Tracker.patternChange_resync (t := t.mirror) p.mirror h, PerZone.allClear_mirror]
    rfl
  have hr : t.resync = false := by simpa using h
  rcases t.state.of_side with hs | ⟨sd, hs | hs | hs⟩
  all_goals have hm : t.mirror.state = _ := congrArg TrackerState.mirror hs
  · rw [patternChange_empty p hr hs, patternChange_empty (t := t.mirror) p.mirror hr hm]
    exact fromEmpty_mirror { t with pattern := p }
  · rw [patternChange_first p hr hs, patternChange_first (t := t.mirror) p.mirror hr (hm.trans (trackerFirst_mirror sd))]
    exact fromFirst_mirror t.pattern { t with pattern := p } sd
  · rw [patternChange_second p hr hs, patternChange_second (t := t.mirror) p.mirror hr (hm.trans (trackerSecond_mirror sd))]
    exact fromSecond_mirror t.pattern { t with pattern := p } sd
  · rw [patternChange_third p hr hs, patternChange_third (t := t.mirror) p.mirror hr (hm.trans (trackerThird_mirror sd))]
    exact fromThird_mirror t.pattern { t with pattern := p } sd

end Mirror

/-- Settles O38: the tests of each state in their order, and the mirror of a step. -/
theorem trackerFollowsPerson : Obligations.TrackerFollowsPerson := by
  refine ⟨fun t p h => ?resync, fun t p h => ⟨fun hs => ?empty, fun hs => ?first, fun hs => ?second, fun hs => ?third⟩,
    fun t p => Tracker.patternChange_mirror p t⟩
  case resync =>
    rw [Tracker.patternChange_resync p h]
    simp [PerZone.allClear]
  case empty =>
    rw [Tracker.patternChange_empty p h hs]
    simp only [Tracker.fromEmpty]
    cases p.za <;> cases p.zb <;> rfl
  case first =>
    rw [Tracker.patternChange_first (sd := .a) p h hs]
    simp only [Tracker.fromFirst, Bool.and_eq_true, Bool.not_eq_true', and_assoc]
    rfl
  case second =>
    rw [Tracker.patternChange_second (sd := .a) p h hs]
    simp only [Tracker.fromSecond, Tracker.noteFollower, PerZone.far, PerZone.near, PerZone.allClear, Bool.and_eq_true,
      Bool.not_eq_true', and_assoc]
    by_cases hfollows : p.za = true ∧ t.pattern.za = false
    · simp only [if_pos hfollows]
      rfl
    · simp only [if_neg hfollows]
      rfl
  case third =>
    rw [Tracker.patternChange_third (sd := .a) p h hs]
    simp only [Tracker.fromThird, Tracker.afterPassage, Tracker.noteFollower, PerZone.far, PerZone.near, Bool.and_eq_true,
      Bool.not_eq_true']
    by_cases hleft : t.pattern.zb = true ∧ p.zb = false
    · cases hzm : p.zm with
      | false => simp [hleft, Tracker.toEmpty, trackerFirst]
      | true => cases t.pattern.zm <;> cases t.behind <;> simp [hleft, trackerSecond]
    · rw [if_neg hleft]
      exact (if_neg hleft).symm

end Sys2Proof.Machine
end

section
/-! The footing of aisle sensing: what sensing, the limits and the two ordered fault classes read, and what the events of the gate and of
the transactions leave of it (R119 to R123, R155, R156). -/

namespace Sys2Proof.Machine

/-- The aisle, the clock, the barrier hold, the BARRIER and SENSOR conditions, the fail-closed order, the free-open reasons, and the
pattern that the passage controller has seen last. -/
structure Footing where
  aisle : Aisle
  clock : Option Nat
  barrierHold : Bool
  barrier : FaultCond
  sensor : FaultCond
  failClosed : Bool
  reasons : FreeReasons
  seen : PerZone Bool

/-- The footing of a state. -/
def State.footing (s : State) : Footing where
  aisle := s.aisle
  clock := s.tariff.clock
  barrierHold := s.sup.barrierHold
  barrier := s.sup.conds.barrier
  sensor := s.sup.conds.sensor
  failClosed := s.gate.failClosedOrder
  reasons := s.gate.reasons
  seen := s.gate.seen

/-- A branch that leaves the footing either way leaves it. -/
theorem State.footing_of_ite {c : Prop} [Decidable c] {t u : State} {f : Footing} (ht : t.footing = f) (hu : u.footing = f) :
    (if c then t else u).footing = f := by
  split
  · exact ht
  · exact hu

/-! Notices, the journal and the news of a fault (R155, R165, R177). -/

section Books

variable (s : State)

@[simp] theorem State.withBooks_footing (b : State) : (s.withBooks b).footing = s.footing := rfl

@[simp] theorem State.notify_footing (n : Notice) : (s.notify n).footing = s.footing := rfl

@[simp] theorem State.appendUnreserved_footing (side : Option Side) (body : RecordBody) :
    (s.appendUnreserved side body).footing = s.footing := by
  rw [State.appendUnreserved_frame, State.withBooks_footing]

@[simp] theorem State.appendReserved_footing (second : Option Nat) (side : Option Side) (body : RecordBody) :
    (s.appendReserved second side body).footing = s.footing := by
  rw [State.appendReserved_frame, State.withBooks_footing]

@[simp] theorem State.faultNews_footing (c : FaultClass) (raised : Bool) : (s.faultNews c raised).footing = s.footing := by
  rw [State.faultNews_frame, State.withBooks_footing]

@[simp] theorem State.reportPassage_footing (card : CardId) (outcome : PassageState) :
    (s.reportPassage card outcome).footing = s.footing := by
  unfold State.reportPassage
  split
  · rfl
  · exact State.footing_of_ite rfl rfl

end Books

/-! The end of a transaction (R37, R45). -/

section Taps

variable (s : State) (sd : Side)

@[simp] theorem State.detach_footing (card : CardId) : (s.detach card).footing = s.footing := by
  unfold State.detach
  split
  · rfl
  · exact State.footing_of_ite (State.appendReserved_footing ..) rfl

@[simp] theorem State.releaseTx_footing (x : Transaction) : (s.releaseTx sd x).footing = s.footing := by
  have hreleased : (if x.journalHeld then (s.setReservation sd .absent).unreserve else s.setReservation sd .absent).footing = s.footing :=
    State.footing_of_ite rfl rfl
  dsimp only [State.releaseTx]
  split
  · rw [State.detach_footing, hreleased]
  · exact hreleased

@[simp] theorem State.finishTx_footing (f : Finish) : (s.finishTx sd f).footing = s.footing := by
  cases hx : (s.ctx sd).tx with
  | none => simp only [State.finishTx, hx]
  | some x =>
    obtain ⟨fares, pin, hclose, -⟩ := (s.closing sd x f).closeContext_eq sd
    rw [State.finishTx_eq f hx, hclose]
    exact s.releaseTx_footing sd x

@[simp] theorem State.abortBoth_footing (o : TapOutcome) : (s.abortBoth o).footing = s.footing := by
  have habort (u : State) (sd : Side) : (u.abortTx sd o).footing = u.footing :=
    State.footing_of_ite (u.finishTx_footing sd _) rfl
  rw [State.abortBoth, habort, habort]

end Taps

/-! The barrier (R136 to R142). -/

section Barrier

variable (s : State)

theorem State.headDeadline_footing (g : Gate) : State.footing { s with gate := g.headDeadline } = State.footing { s with gate := g } := by
  unfold Gate.headDeadline
  repeat' split
  all_goals rfl

@[simp] theorem State.reachOpen_footing (sd : Side) : (s.reachOpen sd).footing = s.footing :=
  s.headDeadline_footing (s.gate.enter .opened none (some sd))

@[simp] theorem State.beginOpening_footing (sd : Side) : (s.beginOpening sd).footing = s.footing :=
  State.footing_of_ite (State.reachOpen_footing _ sd) rfl

@[simp] theorem State.selectOwner_footing : s.selectOwner.footing = s.footing := by
  unfold State.selectOwner
  split
  · rfl
  · exact s.beginOpening_footing .a
  · exact s.beginOpening_footing .b
  · exact State.beginOpening_footing _ _

@[simp] theorem State.reachClosed_footing : s.reachClosed.footing = s.footing :=
  State.selectOwner_footing _

@[simp] theorem State.beginDriving_footing : s.beginDriving.footing = s.footing :=
  State.footing_of_ite (State.reachClosed_footing _) rfl

@[simp] theorem State.checkSucceeds_footing : s.checkSucceeds.footing = s.footing :=
  State.reachClosed_footing _

@[simp] theorem State.beginChecking_footing : s.beginChecking.footing = s.footing :=
  State.footing_of_ite (State.checkSucceeds_footing _) (State.footing_of_ite rfl rfl)

@[simp] theorem State.delayExpires_footing : s.delayExpires.footing = s.footing := by
  unfold State.delayExpires
  split
  · exact State.footing_of_ite s.beginDriving_footing (s.headDeadline_footing _)
  · exact s.beginDriving_footing

@[simp] theorem State.delayEval_footing : s.delayEval.footing = s.footing := by
  refine State.footing_of_ite ?_ rfl
  split
  · rfl
  · exact State.footing_of_ite s.delayExpires_footing rfl

/-- The pattern handed on is the pattern seen. -/
@[simp] theorem State.handPattern_footing (p : PerZone Bool) : (s.handPattern p).footing = { s.footing with seen := p } := by
  dsimp only [State.handPattern]
  rw [State.delayEval_footing]
  split
  · exact State.footing_of_ite rfl rfl
  · exact State.footing_of_ite rfl rfl
  · rfl
  · rfl

end Barrier

/-! Authorisations, passages and alarms (R131 to R133, R143 to R147). -/

section Passages

variable (s : State) (sd : Side)

@[simp] theorem State.endUnused_footing (x : Auth) (reason : NotTakenReason) : (s.endUnused sd x reason).footing = s.footing := by
  dsimp only [State.endUnused]
  rw [State.notify_footing, State.appendUnreserved_footing]
  split
  · exact State.reportPassage_footing ..
  · rfl

@[simp] theorem State.cancelList_footing (l : List Auth) : (s.cancelList sd l).footing = s.footing := by
  induction l generalizing s with
  | nil => rfl
  | cons x l ih => rw [State.cancelList, ih, State.endUnused_footing]

@[simp] theorem State.cancelAll_footing : s.cancelAll.footing = s.footing := by
  dsimp only [State.cancelAll]
  rw [State.cancelList_footing, State.cancelList_footing]
  rfl

@[simp] theorem State.raiseAlarm_footing (kind : AlarmKind) (a b : Bool) (direction : Option Side) :
    (s.raiseAlarm kind a b direction).footing = s.footing := by
  dsimp only [State.raiseAlarm]
  rw [State.notify_footing, State.appendUnreserved_footing]
  rfl

@[simp] theorem State.alarmAt_footing (kind : AlarmKind) (direction : Option Side) : (s.alarmAt kind sd direction).footing = s.footing :=
  s.raiseAlarm_footing ..

@[simp] theorem State.consume_footing (follower behind : Bool) : (s.consume sd follower behind).footing = s.footing := by
  unfold State.consume
  split
  · rfl
  next x xs _ =>
    have hreported : (match x.card with
        | some card => (s.setQueue sd xs).reportPassage card .taken
        | none => s.setQueue sd xs).footing = s.footing := by
      split
      · exact State.reportPassage_footing ..
      · rfl
    refine (State.headDeadline_footing _ _).trans ?_
    exact State.footing_of_ite ((State.appendUnreserved_footing ..).trans hreported) hreported

@[simp] theorem State.openPassage_footing (o : Side) (follower behind : Bool) :
    (s.openPassage o sd follower behind).footing = s.footing :=
  State.footing_of_ite (s.alarmAt_footing ..)
    (State.footing_of_ite (State.footing_of_ite (s.alarmAt_footing ..) (s.alarmAt_footing ..))
      (State.footing_of_ite ((State.alarmAt_footing ..).trans (s.consume_footing ..)) (s.consume_footing ..)))

@[simp] theorem State.takePassage_footing (follower behind : Bool) : (s.takePassage sd follower behind).footing = s.footing := by
  unfold State.takePassage
  split
  · exact s.openPassage_footing ..
  · exact s.openPassage_footing ..
  · exact s.alarmAt_footing ..
  · exact s.alarmAt_footing ..
  · rfl
  · rfl
  · rfl
  all_goals exact s.alarmAt_footing ..

@[simp] theorem State.takeCounterflow_footing (start : Option Side) : (s.takeCounterflow start).footing = s.footing := by
  refine State.footing_of_ite ?_ rfl
  split
  · exact s.alarmAt_footing ..
  · exact s.raiseAlarm_footing ..

@[simp] theorem State.takeReport_footing (r : Report) : (s.takeReport r).footing = s.footing := by
  cases r with
  | passage sd follower behind => exact s.takePassage_footing ..
  | backout sd => rfl
  | counterflow start => exact s.takeCounterflow_footing start

@[simp] theorem State.takeReports_footing (l : List Report) : (s.takeReports l).footing = s.footing := by
  induction l generalizing s with
  | nil => rfl
  | cons r l ih => rw [State.takeReports, ih, State.takeReport_footing]

end Passages

/-! Free-open and the orders from supervision (R148 to R151, R155, R156). -/

section Orders

variable (s : State)

@[simp] theorem State.openPeriod_footing : s.openPeriod.footing = s.footing := by
  unfold State.openPeriod
  split <;> rfl

@[simp] theorem State.enterFreeOpen_footing (reason : FreeReason) : (s.enterFreeOpen reason).footing = s.footing := by
  dsimp only [State.enterFreeOpen]
  rw [State.abortBoth_footing, State.notify_footing, State.appendUnreserved_footing, State.openPeriod_footing]
  exact s.cancelAll_footing

@[simp] theorem State.endFreeOpen_footing : s.endFreeOpen.footing = s.footing := by
  have hnoticed : ((s.appendUnreserved none (.freeOpenEnd s.gate.freeCount)).closePeriod.notify
      (.freeOpenEnd (s.appendUnreserved none (.freeOpenEnd s.gate.freeCount)).closePeriod.gate.freeCount)).footing = s.footing :=
    s.appendUnreserved_footing ..
  exact State.footing_of_ite hnoticed (State.footing_of_ite hnoticed (State.footing_of_ite
    ((State.beginChecking_footing _).trans hnoticed) ((State.delayEval_footing _).trans hnoticed)))

@[simp] theorem State.setReasons_footing (r : FreeReasons) (reason : FreeReason) :
    (s.setReasons r reason).footing = { s.footing with reasons := r } :=
  State.footing_of_ite (State.enterFreeOpen_footing _ reason) (State.footing_of_ite (State.endFreeOpen_footing _) rfl)

@[simp] theorem State.giveFailClosed_footing : s.giveFailClosed.footing = { s.footing with failClosed := true } := by
  have hcancelled : State.footing ((State.cancelAll { s with gate := { s.gate with failClosedOrder := true } }).withdrawAll
      .holdOrFailClosed) = { s.footing with failClosed := true } := State.cancelAll_footing _
  dsimp only [State.giveFailClosed]
  rw [State.abortBoth_footing]
  exact State.footing_of_ite hcancelled hcancelled

@[simp] theorem State.liftFailClosed_footing : s.liftFailClosed.footing = { s.footing with failClosed := false } :=
  State.footing_of_ite (State.beginChecking_footing _) rfl

/-- The order that is wanted is given where it is not in force yet (R156). -/
theorem State.giveOrder_footing (closed : Bool) :
    (if closed && !s.gate.failClosedOrder then s.giveFailClosed else s).footing =
      { s.footing with failClosed := closed || s.footing.failClosed } := by
  cases closed with
  | false => rfl
  | true =>
    cases h : s.gate.failClosedOrder with
    | false => exact s.giveFailClosed_footing
    | true => exact congrArg (fun b => { s.footing with failClosed := b }) h

/-- The order that is not wanted is lifted where it is in force (R156). -/
theorem State.liftOrder_footing (closed : Bool) :
    (if !closed && s.gate.failClosedOrder then s.liftFailClosed else s).footing =
      { s.footing with failClosed := closed && s.footing.failClosed } := by
  cases closed with
  | true => rfl
  | false =>
    cases h : s.gate.failClosedOrder with
    | true => exact s.liftFailClosed_footing
    | false => exact congrArg (fun b => { s.footing with failClosed := b }) h

/-- The FAULT reason that is wanted joins the set where it is not in it (R148, R156). -/
theorem State.joinFault_footing (free : Bool) :
    (if free && !s.gate.reasons.fault then s.joinReason .fault else s).footing =
      { s.footing with reasons := { s.footing.reasons with fault := free || s.footing.reasons.fault } } := by
  cases free with
  | false => rfl
  | true =>
    cases h : s.gate.reasons.fault with
    | false => exact s.setReasons_footing _ _
    | true => exact congrArg (fun b => { s.footing with reasons := { s.footing.reasons with fault := b } }) h

/-- The FAULT reason that is not wanted leaves the set where it is in it (R148, R156). -/
theorem State.leaveFault_footing (free : Bool) :
    (if !free && s.gate.reasons.fault then s.leaveReason .fault else s).footing =
      { s.footing with reasons := { s.footing.reasons with fault := free && s.footing.reasons.fault } } := by
  cases free with
  | true => rfl
  | false =>
    cases h : s.gate.reasons.fault with
    | true => exact s.setReasons_footing _ _
    | false => exact congrArg (fun b => { s.footing with reasons := { s.footing.reasons with fault := b } }) h

/-- After it each order is in force as the RAISED classes want it (R156). -/
theorem State.recompute_footing :
    s.recompute.footing =
      { s.footing with
        failClosed := s.wants .failClosed
        reasons := { s.footing.reasons with fault := s.wants .failFree } } := by
  dsimp only [State.recompute]
  rw [State.leaveFault_footing, State.liftOrder_footing, State.giveOrder_footing, State.joinFault_footing]
  have habsorbs (x y : Bool) : (x && (x || y)) = x := by cases x <;> rfl
  simp only [habsorbs]

/-- Orders that are in force as the RAISED classes want them stay as they are (R156). -/
theorem State.recompute_settled {s : State} (hfree : s.wants .failFree = s.gate.reasons.fault)
    (hclosed : s.wants .failClosed = s.gate.failClosedOrder) : s.recompute = s := by
  dsimp only [State.recompute]
  rw [hfree, hclosed]
  simp only [Bool.and_not_self, Bool.false_eq_true, if_false, Bool.not_and_self]

/-- A class that is CLEAR is raised with the clock's second, and the orders follow it (R155, R156). -/
theorem State.raiseOrdered_footing {c : FaultClass} (h : s.sup.conds.get c = .clear) :
    (s.raiseOrdered c).footing =
      { (s.setCond c true).footing with
        failClosed := (s.setCond c true).wants .failClosed
        reasons := { s.gate.reasons with fault := (s.setCond c true).wants .failFree } } := by
  have hclear : s.isRaised c = false := by simp [State.isRaised, h]
  rw [State.raiseOrdered, if_neg (by simp [hclear]), State.faultNews_footing, State.recompute_footing]
  rfl

theorem State.wants_raised {c : FaultClass} {r : FaultResponse} (hc : c ∈ [FaultClass.barrier, .sensor]) (hr : s.responseOf c = r) :
    (s.setCond c true).wants r = true := by
  have hraised : (s.setCond c true).isRaised c = true := by simp [State.isRaised, State.setCond]
  obtain rfl | rfl : c = .barrier ∨ c = .sensor := by simpa using hc
  · simp only [State.wants, hraised, Bool.true_and, Bool.or_eq_true, decide_eq_true_eq]
    exact .inl hr
  · simp only [State.wants, hraised, Bool.true_and, Bool.or_eq_true, decide_eq_true_eq]
    exact .inr hr

/-- The raise of a class keeps the aisle, and the class's response gives its order (R155, R156). -/
theorem State.raiseOrdered_orders {s : State} {c : FaultClass} (h : s.sup.conds.get c = .clear)
    (hc : c ∈ [FaultClass.barrier, .sensor]) :
    (s.raiseOrdered c).aisle = s.aisle ∧ (s.raiseOrdered c).sup.conds.get c = .raised s.tariff.clock ∧
      (s.responseOf c = .failClosed → (s.raiseOrdered c).gate.failClosedOrder = true) ∧
      (s.responseOf c = .failFree → (s.raiseOrdered c).gate.reasons.fault = true) := by
  have hfooting := s.raiseOrdered_footing h
  refine ⟨congrArg Footing.aisle hfooting, ?_, fun hr => ?_, fun hr => ?_⟩
  · obtain rfl | rfl : c = .barrier ∨ c = .sensor := by simpa using hc
    · exact congrArg Footing.barrier hfooting
    · exact congrArg Footing.sensor hfooting
  · exact (congrArg Footing.failClosed hfooting).trans (s.wants_raised hc hr)
  · exact (congrArg (·.reasons.fault) hfooting).trans (s.wants_raised hc hr)

theorem State.raiseOrdered_raised {c : FaultClass} (h : s.sup.conds.get c ≠ .clear) : s.raiseOrdered c = s :=
  if_pos (decide_eq_true h)

/-- A class that is CLEAR stays CLEAR. -/
theorem State.clearOrdered_clear {c : FaultClass} (h : s.sup.conds.get c = .clear) : s.clearOrdered c = s :=
  if_neg (by simp [State.isRaised, h])

theorem State.clearOrdered_footing {c : FaultClass} (h : s.sup.conds.get c ≠ .clear) :
    (s.clearOrdered c).footing =
      { (s.setCond c false).footing with
        failClosed := (s.setCond c false).wants .failClosed
        reasons := { s.gate.reasons with fault := (s.setCond c false).wants .failFree } } := by
  have hraised : s.isRaised c = true := decide_eq_true h
  rw [State.clearOrdered, if_pos hraised, State.faultNews_footing, State.recompute_footing]
  rfl

@[simp] theorem State.distrustBarrier_footing : s.distrustBarrier.footing = s.footing := by
  unfold State.distrustBarrier
  dsimp only
  split
  · rfl
  · exact State.footing_of_ite rfl rfl

end Orders

end Sys2Proof.Machine
end

section
/-! The filters of the inputs, the limits and the drive-fault line (R119, R121, R136 to R140, R155). -/

namespace Sys2Proof.Machine

/-! The filters (R119). -/

section Filters

variable (x : Aisle) (i : Input)

theorem PerInput.set_get (p : PerInput α) (i : Input) : p.set i (p.get i) = p := by
  cases i <;> rfl

/-- The debounce timer after a change of the raw level: it runs while the level differs from the filtered state. -/
theorem Aisle.refilter_filters :
    x.refilter i =
      { x with
        filters := x.filters.set i
          { x.filters.get i with
            debounce :=
              if x.level i = (x.filters.get i).filtered then none
              else some ((x.filters.get i).debounce.getD (x.params.get i).debounceMs) } } := by
  dsimp only [Aisle.refilter]
  split
  · rfl
  split
  next n hn =>
    rw [hn, Option.getD_some, ← hn, PerInput.set_get]
  next hn => rw [hn, Option.getD_none]

theorem Aisle.settle_running (h : (x.filters.get i).debounce.isSome) :
    x.settle i = { x with filters := x.filters.set i { filtered := x.level i, debounce := none } } := by
  obtain ⟨n, hn⟩ := Option.isSome_iff_exists.mp h
  simp only [Aisle.settle, hn]

theorem Aisle.active_settle (h : (x.filters.get i).debounce.isSome) : (x.settle i).active i = x.level i := by
  rw [Aisle.settle_running x i h, Aisle.active, PerInput.get_set_self]

theorem Aisle.active_settle_ne {j : Input} (h : j ≠ i) : (x.settle i).active j = x.active j := by
  unfold Aisle.settle
  split
  · rfl
  · rw [Aisle.active, PerInput.get_set, if_neg h, Aisle.active]

end Filters

/-! The events (R119, R121). -/

theorem exec_rawInputChange (i : Input) (high : Bool) (s : State) :
    exec (.rawInputChange i high) s = .next (s.rawChange i high).pump := rfl

theorem exec_debounceExpiry (g : DebounceGroup) (s : State) : exec (.debounceExpiry g) s = .next (s.debounced g).pump := rfl

/-- The filtered state of an input has taken the raw level. -/
def State.filtered (s : State) (i : Input) : State :=
  { s with aisle := s.aisle.settle i }

section Equipment

variable {s : State} {i : Input}

@[simp] theorem State.filtered_gate : (s.filtered i).gate = s.gate := rfl

@[simp] theorem State.filtered_sup : (s.filtered i).sup = s.sup := rfl

theorem State.filtered_active (h : (s.aisle.filters.get i).debounce.isSome) : (s.filtered i).aisle.active i = s.aisle.level i :=
  Aisle.active_settle _ _ h

theorem State.filtered_active_ne {j : Input} (h : j ≠ i) : (s.filtered i).aisle.active j = s.aisle.active j :=
  Aisle.active_settle_ne _ _ h

theorem State.debounced_openLimit (h : (s.aisle.filters.get .openLimit).debounce.isSome) :
    s.debounced (.single .openLimit) = (s.filtered .openLimit).openLimitChanged := by
  change s.equipmentSettles .openLimit = _
  unfold State.equipmentSettles
  split
  next hn => simp [hn] at h
  next => rfl

theorem State.debounced_closedLimit (h : (s.aisle.filters.get .closedLimit).debounce.isSome) :
    s.debounced (.single .closedLimit) = (s.filtered .closedLimit).closedLimitChanged := by
  change s.equipmentSettles .closedLimit = _
  unfold State.equipmentSettles
  split
  next hn => simp [hn] at h
  next => rfl

theorem State.debounced_driveFault (h : (s.aisle.filters.get .driveFault).debounce.isSome) :
    s.debounced (.single .driveFault) =
      if s.aisle.level .driveFault then (s.filtered .driveFault).driveFaultActive else s.filtered .driveFault := by
  rw [← State.filtered_active h]
  change s.equipmentSettles .driveFault = _
  unfold State.equipmentSettles
  split
  next hn => simp [hn] at h
  next => rfl

end Equipment

/-! The limits at the barrier (R136, R137, R139, R140). -/

section Limits

variable {s : State} {sd : Side}

/-- The head of the owner's queue has its deadline while the barrier is OPEN (R137). -/
theorem Gate.headDeadline_cons {g : Gate} {x : Auth} {xs : List Auth} (hb : g.barrier = .opened) (ho : g.owner = some sd)
    (hq : g.queues.get sd = x :: xs) :
    g.headDeadline =
      { g with queues := g.queues.set sd ({ x with deadline := some (x.deadline.getD (g.windowS * secondMs)) } :: xs) } := by
  unfold Gate.headDeadline
  split
  next sd' _ ho' =>
    obtain rfl : sd' = sd := Option.some.inj (ho'.symm.trans ho)
    simp only [hq]
    split
    next n hn =>
      have hhead : { x with deadline := some (x.deadline.getD (g.windowS * secondMs)) } = x := by
        rw [hn, Option.getD_some, ← hn]
      rw [hhead, ← hq, PerSide.set_get]
    next hn => rw [hn, Option.getD_none]
  next h => exact (h sd hb ho).elim

/-- The close delay does not run while an authorisation of the owner waits (R138). -/
theorem State.delayEval_waiting (ho : s.gate.owner = some sd) (hb : s.gate.barrier = .opened) (hq : s.gate.queues.get sd ≠ []) :
    s.delayEval = { s with gate := { s.gate with closeDelay := none } } := by
  refine State.delayEval_stops s ?_
  simp only [Gate.delayRuns, hb, ho, List.isEmpty_eq_false_iff.mpr hq, Bool.false_and]

/-- An OPENING that reaches its limit is OPEN, and the head of the owner's queue has its deadline (R136, R137). -/
theorem State.openLimitChanged_opens {x : Auth} {xs : List Auth} (hb : s.gate.barrier = .opening) (ho : s.gate.owner = some sd)
    (ht : s.gate.travel.isSome) (hl : s.aisle.active .openLimit = true) (hq : s.gate.queues.get sd = x :: xs) :
    s.openLimitChanged =
      { s with gate := { s.gate with
        barrier := .opened, phase := none, owner := some sd, drive := .open_, travel := none, closeDelay := none
        queues := s.gate.queues.set sd ({ x with deadline := some (x.deadline.getD (s.gate.windowS * secondMs)) } :: xs) } } := by
  have hreach : s.reachOpen sd =
      { s with gate := { s.gate with
        barrier := .opened, phase := none, owner := some sd, drive := .open_, travel := none, closeDelay := none
        queues := s.gate.queues.set sd ({ x with deadline := some (x.deadline.getD (s.gate.windowS * secondMs)) } :: xs) } } := by
    rw [State.reachOpen, Gate.headDeadline_cons (g := s.gate.enter _ _ _) rfl rfl hq]
    rfl
  simp only [State.openLimitChanged, hb, ho]
  rw [if_pos ⟨hl, ht⟩, hreach]
  exact State.delayEval_waiting (sd := sd) rfl rfl (by simp)

/-- CLOSED with nobody waiting stays CLOSED (R141). -/
theorem State.reachClosed_empty (ha : s.gate.queues.a = []) (hb : s.gate.queues.b = []) :
    s.reachClosed =
      { s with gate := { s.gate with
        barrier := .closed, phase := none, owner := none, drive := .close, travel := none, closeDelay := none } } := by
  simp only [State.reachClosed, State.selectOwner, State.enterBarrier, Gate.enter, ha, hb]
  rfl

theorem State.checkSucceeds_empty (ha : s.gate.queues.a = []) (hb : s.gate.queues.b = []) :
    s.checkSucceeds =
      { s with gate := { s.gate with
        barrier := .closed, phase := none, owner := none, drive := .close, travel := none, closeDelay := none
        unverified := false } } :=
  State.reachClosed_empty (s := { s with gate := { s.gate with unverified := false } }) ha hb

theorem State.closedLimitChanged_closes (hb : s.gate.barrier = .closing) (hp : s.gate.phase = some .driving)
    (ht : s.gate.travel.isSome) (hl : s.aisle.active .closedLimit = true) : s.closedLimitChanged = s.reachClosed := by
  simp only [State.closedLimitChanged, hb]
  exact if_pos ⟨hp, hl, ht⟩

theorem State.closedLimitChanged_proves (hb : s.gate.barrier = .checking) (hok : s.aisle.checkOk = true)
    (ht : s.gate.travel.isSome ∨ s.gate.seen.zm = true) : s.closedLimitChanged = s.checkSucceeds := by
  simp only [State.closedLimitChanged, hb]
  exact if_pos ⟨hok, ht⟩

theorem State.openLimitChanged_proves (hb : s.gate.barrier = .checking) (hok : s.aisle.checkOk = true)
    (ht : s.gate.travel.isSome ∨ s.gate.seen.zm = true) : s.openLimitChanged = s.checkSucceeds := by
  simp only [State.openLimitChanged, hb]
  exact if_pos ⟨hok, ht⟩

theorem Aisle.checkOk_iff (x : Aisle) : x.checkOk = true ↔ x.active .closedLimit = true ∧ x.active .openLimit = false := by
  rw [Aisle.checkOk, Bool.and_eq_true, Bool.not_eq_true']

/-- A barrier that neither opens, closes nor is checked takes no limit (R136). -/
theorem State.openLimitChanged_ignored (h : s.gate.barrier ∉ [BarrierState.opening, .closing, .checking]) :
    s.openLimitChanged = s := by
  unfold State.openLimitChanged
  split
  next hb _ => simp [hb] at h
  next hb => simp [hb] at h
  · rfl

theorem State.closedLimitChanged_ignored (h : s.gate.barrier ∉ [BarrierState.opening, .closing, .checking]) :
    s.closedLimitChanged = s := by
  unfold State.closedLimitChanged
  split
  next hb => simp [hb] at h
  next hb => simp [hb] at h
  · rfl

end Limits

/-! The drive-fault line (R155, R160). -/

section DriveFault

variable {s : State}

theorem State.driveFaultActive_ignored (h : s.sup.barrierHold = true ∨ s.sup.conds.barrier ≠ .clear) : s.driveFaultActive = s := by
  refine if_pos ?_
  rw [Bool.or_eq_true]
  exact h.imp id fun hr => decide_eq_true hr

theorem State.driveFaultActive_raises (hh : s.sup.barrierHold = false) (hc : s.sup.conds.barrier = .clear) :
    s.driveFaultActive = s.distrustBarrier.raiseOrdered .barrier := by
  refine if_neg ?_
  simp [hh, State.isRaised, FaultConds.get, hc]

/-- The raise by the drive-fault line, and the orders of BARRIER's response (R155, R156). -/
theorem State.driveFaultActive_orders (hh : s.sup.barrierHold = false) (hc : s.sup.conds.barrier = .clear) :
    s.driveFaultActive.aisle = s.aisle ∧ s.driveFaultActive.sup.conds.barrier = .raised s.tariff.clock ∧
      (s.sup.barrierResponse = .failClosed → s.driveFaultActive.gate.failClosedOrder = true) ∧
      (s.sup.barrierResponse = .failFree → s.driveFaultActive.gate.reasons.fault = true) := by
  have hfooting := s.distrustBarrier_footing
  have hclock : s.distrustBarrier.tariff.clock = s.tariff.clock := congrArg Footing.clock hfooting
  have hresponse : s.distrustBarrier.sup.barrierResponse = s.sup.barrierResponse := by simp
  obtain ⟨haisle, hraised, hclosed, hfree⟩ :=
    State.raiseOrdered_orders (c := .barrier) ((congrArg Footing.barrier hfooting).trans hc) (by decide)
  rw [State.driveFaultActive_raises hh hc, ← hclock, ← hresponse]
  exact ⟨haisle.trans (congrArg Footing.aisle hfooting), hraised, hclosed, hfree⟩

end DriveFault

/-- Settles O36: the debounce timer of a raw change, the two limits in each barrier state, and the drive-fault line. -/
theorem inputsSettle : Obligations.InputsSettle := by
  refine ⟨fun s i high => ?raw, fun s i hruns => ?filtered⟩
  case raw =>
    rw [exec_rawInputChange, State.rawChange, Aisle.refilter_filters]
    simp only [Aisle.level, PerInput.get_set_self]
    rfl
  intro level aisle
  have hsettle : s.aisle.settle i = aisle := Aisle.settle_running _ _ hruns
  simp only [exec_debounceExpiry]
  refine ⟨?opens, ?closes, ?ignored, ?closedProves, ?openProves, ?quiet, ?raises⟩
  case opens =>
    rintro rfl sd hb ho ht hlevel hq
    obtain ⟨x, xs, hx⟩ := List.exists_cons_of_ne_nil hq
    rw [State.debounced_openLimit hruns,
      State.openLimitChanged_opens (s := s.filtered _) hb ho ht ((State.filtered_active hruns).trans hlevel) hx]
    refine ⟨_, rfl, hsettle, rfl, rfl, rfl, rfl, fun y ys hy hd => ?_⟩
    obtain ⟨rfl, rfl⟩ : x = y ∧ xs = ys := by simpa [hx] using hy
    simp [State.pump, hd, secondMs]
  case closes =>
    rintro rfl hb hp ht hlevel hqa hqb
    rw [State.debounced_closedLimit hruns, State.closedLimitChanged_closes (s := s.filtered _) hb hp ht
      ((State.filtered_active hruns).trans hlevel), State.reachClosed_empty (s := s.filtered _) hqa hqb]
    exact ⟨_, rfl, hsettle, rfl, rfl, rfl, rfl, rfl⟩
  case ignored =>
    rintro (rfl | rfl) hb
    · rw [State.debounced_openLimit hruns, State.openLimitChanged_ignored (s := s.filtered _) hb, State.filtered, hsettle]
      rfl
    · rw [State.debounced_closedLimit hruns, State.closedLimitChanged_ignored (s := s.filtered _) hb, State.filtered, hsettle]
      rfl
  case closedProves =>
    rintro rfl hb ht hlevel hopen hqa hqb
    have hok : (s.filtered .closedLimit).aisle.checkOk = true := by
      rw [Aisle.checkOk_iff, State.filtered_active hruns, State.filtered_active_ne (by decide)]
      exact ⟨hlevel, hopen⟩
    rw [State.debounced_closedLimit hruns, State.closedLimitChanged_proves (s := s.filtered _) hb hok (.inl ht),
      State.checkSucceeds_empty (s := s.filtered _) hqa hqb]
    exact ⟨_, rfl, hsettle, rfl, rfl, rfl, rfl⟩
  case openProves =>
    rintro rfl hb ht hlevel hclosed hqa hqb
    have hok : (s.filtered .openLimit).aisle.checkOk = true := by
      rw [Aisle.checkOk_iff, State.filtered_active hruns, State.filtered_active_ne (by decide)]
      exact ⟨hclosed, hlevel⟩
    rw [State.debounced_openLimit hruns, State.openLimitChanged_proves (s := s.filtered _) hb hok ht,
      State.checkSucceeds_empty (s := s.filtered _) hqa hqb]
    exact ⟨_, rfl, hsettle, rfl, rfl, rfl, rfl⟩
  case quiet =>
    rintro rfl hquiet
    have hsame : s.debounced (.single .driveFault) = s.filtered .driveFault := by
      rw [State.debounced_driveFault hruns]
      rcases hquiet with hlevel | hquiet
      · exact if_neg (Bool.eq_false_iff.mp hlevel)
      · rw [State.driveFaultActive_ignored (s := s.filtered _) hquiet, ite_self]
    rw [hsame, State.filtered, hsettle]
    rfl
  case raises =>
    rintro rfl hlevel hh hc
    rw [State.debounced_driveFault hruns, if_pos (show s.aisle.level .driveFault = true from hlevel)]
    obtain ⟨haisle, horders⟩ := State.driveFaultActive_orders (s := s.filtered .driveFault) hh hc
    exact ⟨_, rfl, haisle.trans hsettle, horders⟩

end Sys2Proof.Machine
end

section
/-! The zones: their filters and stuck monitors, one pattern change, and the stuck timer (R119, R122, R123, R125, R130). -/

namespace Sys2Proof.Machine

theorem exec_stuckTimerExpiry (z : Zone) (s : State) : exec (.stuckTimerExpiry z) s = .next (s.stuckExpires z).pump := rfl

/-! What one event makes of the zones of the aisle. -/

section Zones

variable (x : Aisle) (hold : Bool) (z : Zone) (flag : Bool)

/-- Whether the expiry of a zone's debounce timer is named and the timer runs. -/
def Aisle.runs : Bool :=
  flag && (x.filters.get z.input).debounce.isSome

/-- A zone's filter after the event (R119). -/
def Aisle.filterAfter : Filter :=
  if x.runs z flag then { filtered := x.level z.input, debounce := none } else x.filters.get z.input

/-- A zone's stuck monitor after the event: an occupied zone's timer starts unless a barrier hold is in force, and a clear zone is FREE
(R122, R123). -/
def Aisle.stuckAfter : StuckMonitor :=
  if x.runs z flag then
    if x.level z.input then { timer := if hold then none else some stuckMs, stuck := (x.stuck.get z).stuck }
    else { timer := none, stuck := false }
  else x.stuck.get z

/-- The aisle with one zone's change. -/
def Aisle.zoneAfter : Aisle :=
  { x with filters := x.filters.set z.input (x.filterAfter z flag), stuck := x.stuck.set z (x.stuckAfter hold z flag) }

theorem PerZone.set_get (p : PerZone α) : p.set z (p.get z) = p := by
  cases z <;> rfl

/-- Whether a STUCK zone has become clear (R122). -/
def Aisle.freed : Bool :=
  x.runs z flag && !x.level z.input && (x.stuck.get z).stuck

theorem Aisle.zoneAfter_idle (h : x.runs z flag = false) : x.zoneAfter hold z flag = x := by
  simp only [Aisle.zoneAfter, Aisle.filterAfter, Aisle.stuckAfter, h, Bool.false_eq_true, if_false, PerInput.set_get, PerZone.set_get]

/-- The mark of a zone goes when the zone is freed, and no other way (R122). -/
theorem Aisle.stuckAfter_stuck : (x.stuckAfter hold z flag).stuck = ((x.stuck.get z).stuck && !x.freed z flag) := by
  unfold Aisle.stuckAfter Aisle.freed
  cases x.runs z flag with
  | false => simp
  | true => cases x.level z.input <;> simp

/-- A zone's monitor changed with its mark as it was changes no mark. -/
theorem Aisle.anyStuck_set {x y : Aisle} {z : Zone} {m : StuckMonitor} (h : y.stuck = x.stuck.set z m)
    (hm : m.stuck = (x.stuck.get z).stuck) : y.anyStuck = x.anyStuck := by
  simp only [Aisle.anyStuck, h]
  cases z <;> simp only [PerZone.set, hm, PerZone.get]

theorem Aisle.anyStuck_zoneAfter (h : x.freed z flag = false) : (x.zoneAfter hold z flag).anyStuck = x.anyStuck :=
  Aisle.anyStuck_set rfl (by rw [Aisle.stuckAfter_stuck, h, Bool.not_false, Bool.and_true])

/-- Where no zone is STUCK none is freed. -/
theorem Aisle.freed_of_free (h : x.anyStuck = false) : x.freed z flag = false := by
  have hfree : (x.stuck.get z).stuck = false := by
    simp only [Aisle.anyStuck, Bool.or_eq_false_iff] at h
    obtain ⟨⟨hza, hzm⟩, hzb⟩ := h
    cases z <;> assumption
  rw [Aisle.freed, hfree, Bool.and_false]

end Zones

/-! One zone that settles (R119, R122). -/

section Settles

variable (s : State) (z : Zone) (flag : Bool)

/-- The zone's filter settles and its stuck monitor is told, where its debounce timer runs. -/
def State.settleZone : State :=
  if s.aisle.runs z flag then (s.filtered z.input).stuckChange z else s

theorem State.settleZones_append (l l' : List Zone) : s.settleZones (l ++ l') = (s.settleZones l).settleZones l' := by
  induction l generalizing s with
  | nil => rfl
  | cons z l ih =>
    rw [List.cons_append, State.settleZones, State.settleZones]
    split
    · exact ih s
    · exact ih _

theorem State.settleZones_flag : s.settleZones (if flag then [z] else []) = s.settleZone z flag := by
  unfold State.settleZone Aisle.runs
  cases flag with
  | false => rfl
  | true =>
    simp only [if_true, State.settleZones, Bool.true_and]
    split
    next hn => rw [hn]; rfl
    next hn => rw [hn]; rfl

/-- The zones of a group settle in the order ZA, ZM, ZB. -/
theorem State.settleZones_zoneList (za zm zb : Bool) :
    s.settleZones (zoneList za zm zb) = ((s.settleZone .za za).settleZone .zm zm).settleZone .zb zb := by
  rw [zoneList, State.settleZones_append, State.settleZones_append, State.settleZones_flag, State.settleZones_flag,
    State.settleZones_flag]

theorem Aisle.debouncing_zoneList (x : Aisle) (za zm zb : Bool) :
    x.debouncing (zoneList za zm zb) = (x.runs .za za || x.runs .zm zm || x.runs .zb zb) := by
  have hflag (z : Zone) (flag : Bool) : x.debouncing (if flag then [z] else []) = x.runs z flag := by
    cases flag <;> simp [Aisle.debouncing, Aisle.runs]
  simp only [← hflag, Aisle.debouncing, zoneList, List.any_append]

/-- The aisle has taken a zone's change. -/
def State.zoneTaken : State :=
  { s with aisle := s.aisle.zoneAfter s.sup.barrierHold z flag }

theorem State.zoneTaken_idle {s : State} {z : Zone} {flag : Bool} (h : s.aisle.runs z flag = false) : s.zoneTaken z flag = s := by
  rw [State.zoneTaken, Aisle.zoneAfter_idle _ _ _ _ h]

theorem State.zoneTaken_runs {s : State} {z : Zone} {flag : Bool} (h : s.aisle.runs z flag = true) :
    s.zoneTaken z flag = (s.filtered z.input).setStuck z (s.aisle.stuckAfter s.sup.barrierHold z flag) := by
  rw [State.setStuck, State.filtered, Aisle.settle_running _ _ (Bool.and_eq_true_iff.mp h).2, State.zoneTaken, Aisle.zoneAfter,
    Aisle.filterAfter, if_pos h]

/-- A zone's change in the aisle clears SENSOR where it frees the last STUCK zone (R119, R122). -/
theorem State.settleZone_eq :
    s.settleZone z flag =
      if s.aisle.freed z flag && !(s.zoneTaken z flag).aisle.anyStuck then (s.zoneTaken z flag).clearOrdered .sensor
      else s.zoneTaken z flag := by
  cases hruns : s.aisle.runs z flag with
  | false => simp [State.settleZone, Aisle.freed, hruns, State.zoneTaken_idle hruns]
  | true =>
    have hisSome := (Bool.and_eq_true_iff.mp hruns).2
    have hactive := State.filtered_active hisSome
    have hstuck : (s.filtered z.input).aisle.stuck = s.aisle.stuck := by rw [State.filtered, Aisle.settle_running _ _ hisSome]
    rw [State.zoneTaken_runs hruns, State.settleZone, if_pos hruns]
    cases hlevel : s.aisle.level z.input with
    | false => simp [State.stuckChange, hactive, hlevel, hstuck, Aisle.freed, Aisle.stuckAfter, hruns]
    | true =>
      have hkept : s.aisle.freed z flag = false := by simp [Aisle.freed, hlevel]
      dsimp only [State.stuckChange]
      rw [if_pos (hactive.trans hlevel), hkept, Bool.false_and, if_neg Bool.false_ne_true, hstuck, State.filtered_sup,
        Aisle.stuckAfter, if_pos hruns, if_pos hlevel]

/-! What the change of one zone leaves (R122). -/

theorem State.clearOrdered_keeps (c : FaultClass) :
    (s.clearOrdered c).aisle = s.aisle ∧ (s.clearOrdered c).sup.barrierHold = s.sup.barrierHold := by
  by_cases h : s.sup.conds.get c = .clear
  · rw [State.clearOrdered_clear s h]
    exact ⟨rfl, rfl⟩
  · have hfooting := s.clearOrdered_footing h
    exact ⟨congrArg Footing.aisle hfooting, congrArg Footing.barrierHold hfooting⟩

theorem State.clearOrdered_sensor : (s.clearOrdered .sensor).sup.conds.sensor = .clear := by
  by_cases h : s.sup.conds.sensor = .clear
  · rw [State.clearOrdered_clear s (c := .sensor) h]
    exact h
  · exact congrArg Footing.sensor (s.clearOrdered_footing (c := .sensor) h)

theorem State.settleZone_keeps :
    (s.settleZone z flag).aisle = s.aisle.zoneAfter s.sup.barrierHold z flag ∧
      (s.settleZone z flag).sup.barrierHold = s.sup.barrierHold := by
  rw [State.settleZone_eq]
  split
  · exact State.clearOrdered_keeps (s.zoneTaken z flag) .sensor
  · exact ⟨rfl, rfl⟩

/-- A zone that was not STUCK settles in the aisle alone. -/
theorem State.settleZone_free (h : s.aisle.anyStuck = false) : s.settleZone z flag = s.zoneTaken z flag := by
  rw [State.settleZone_eq, Aisle.freed_of_free _ _ _ h, Bool.false_and]
  exact if_neg Bool.false_ne_true

/-- A zone is STUCK, or SENSOR is CLEAR. -/
def State.SensorCovered (s : State) : Prop :=
  s.aisle.anyStuck = false → s.sup.conds.sensor = .clear

/-- The zone that is freed last clears SENSOR (R122). -/
theorem State.SensorCovered.settleZone {s : State} (h : s.SensorCovered) : (s.settleZone z flag).SensorCovered := by
  rw [State.settleZone_eq]
  split
  · exact fun _ => State.clearOrdered_sensor _
  next hlast =>
    intro hfree
    have hfreed : s.aisle.freed z flag = false := by simpa [hfree] using hlast
    exact h ((s.aisle.anyStuck_zoneAfter s.sup.barrierHold z flag hfreed).symm.trans hfree)

/-- The aisle in which the zones of a group have settled. -/
def Aisle.zonesAfter (x : Aisle) (hold za zm zb : Bool) : Aisle :=
  ((x.zoneAfter hold .za za).zoneAfter hold .zm zm).zoneAfter hold .zb zb

section Group

variable (za zm zb : Bool)

theorem State.settleZones_aisle :
    (s.settleZones (zoneList za zm zb)).aisle = s.aisle.zonesAfter s.sup.barrierHold za zm zb := by
  simp only [State.settleZones_zoneList, (State.settleZone_keeps _ _ _).1, (State.settleZone_keeps _ _ _).2, Aisle.zonesAfter]

theorem State.settleZones_free (h : s.aisle.anyStuck = false) :
    s.settleZones (zoneList za zm zb) = { s with aisle := s.aisle.zonesAfter s.sup.barrierHold za zm zb } := by
  have hkeeps {x : Aisle} (hx : x.anyStuck = false) (z : Zone) (flag : Bool) :
      (x.zoneAfter s.sup.barrierHold z flag).anyStuck = false :=
    (x.anyStuck_zoneAfter _ z flag (x.freed_of_free z flag hx)).trans hx
  rw [State.settleZones_zoneList, State.settleZone_free s .za za h, State.settleZone_free (s.zoneTaken .za za) .zm zm (hkeeps h _ _),
    State.settleZone_free ((s.zoneTaken .za za).zoneTaken .zm zm) .zb zb (hkeeps (hkeeps h _ _) _ _)]
  rfl

theorem State.SensorCovered.settleZones {s : State} (h : s.SensorCovered) : (s.settleZones (zoneList za zm zb)).SensorCovered := by
  rw [State.settleZones_zoneList]
  exact ((h.settleZone .za za).settleZone .zm zm).settleZone .zb zb

end Group

end Settles

/-! One pattern change (R125, R130). -/

section Pattern

variable (s : State)

theorem State.takeReports_eq_foldl (l : List Report) : s.takeReports l = l.foldl State.takeReport s := by
  induction l generalizing s with
  | nil => rfl
  | cons r l ih => rw [List.foldl_cons, ← ih, State.takeReports]

theorem State.patternChange_footing :
    s.patternChange.footing =
      { s.footing with
        aisle := { s.aisle with tracker := (s.aisle.tracker.patternChange s.aisle.zones).1 }
        seen := s.aisle.zones } := by
  dsimp only [State.patternChange]
  rw [State.handPattern_footing, State.takeReports_footing]
  rfl

theorem State.zonesSettle_eq {s : State} {zs : List Zone} (h : s.aisle.debouncing zs = true) :
    s.zonesSettle zs = (s.settleZones zs).patternChange :=
  if_pos h

end Pattern

/-! The stuck timer (R122). -/

section Stuck

variable {s : State} {z : Zone}

theorem State.stuckExpires_none (h : (s.aisle.stuck.get z).timer = none) : s.stuckExpires z = s := by
  simp only [State.stuckExpires, h]

/-- The zone is marked STUCK and the tracker waits for a clear aisle (R122). -/
def State.markedStuck (s : State) (z : Zone) : State :=
  { s with
    aisle := { s.aisle with stuck := s.aisle.stuck.set z { timer := none, stuck := true }, tracker := s.aisle.tracker.toEmpty true } }

theorem State.stuckExpires_some (h : (s.aisle.stuck.get z).timer.isSome) :
    s.stuckExpires z = if s.sup.barrierHold then s.markedStuck z else (s.markedStuck z).raiseOrdered .sensor := by
  unfold State.stuckExpires
  split
  next hn => simp [hn] at h
  next => rfl

theorem State.raiseOrdered_aisle (s : State) (c : FaultClass) : (s.raiseOrdered c).aisle = s.aisle := by
  by_cases h : s.sup.conds.get c = .clear
  · exact congrArg Footing.aisle (s.raiseOrdered_footing h)
  · rw [s.raiseOrdered_raised h]

/-- A raise that changes no order leaves the passage controller (R155, R156). -/
theorem State.raiseOrdered_gate {c : FaultClass} (hfree : (s.setCond c true).wants .failFree = s.gate.reasons.fault)
    (hclosed : (s.setCond c true).wants .failClosed = s.gate.failClosedOrder) : (s.raiseOrdered c).gate = s.gate := by
  unfold State.raiseOrdered
  split
  · rfl
  · rw [State.recompute_settled hfree hclosed, State.faultNews_frame]
    rfl

/-- SENSOR with the response CONTINUE wants no order (R156). -/
theorem State.wants_sensor_continue {r : FaultResponse} (hs : s.sup.sensorResponse = .continue_) (hb : s.sup.conds.barrier = .clear)
    (hr : r ≠ .continue_) : (s.setCond .sensor true).wants r = false := by
  have hbarrier : (s.setCond .sensor true).isRaised .barrier = false := by
    simp [State.isRaised, State.setCond, FaultConds.get, FaultConds.set, hb]
  have hsensor : decide ((s.setCond .sensor true).sup.sensorResponse = r) = false :=
    decide_eq_false fun h => hr (h.symm.trans hs)
  rw [State.wants, hbarrier, hsensor, Bool.false_and, Bool.and_false, Bool.or_self]

theorem State.raiseOrdered_sensor_continue (hs : s.sup.sensorResponse = .continue_) (hb : s.sup.conds.barrier = .clear)
    (hclosed : s.gate.failClosedOrder = false) (hfree : s.gate.reasons.fault = false) : (s.raiseOrdered .sensor).gate = s.gate :=
  State.raiseOrdered_gate ((State.wants_sensor_continue hs hb (by decide)).trans hfree.symm)
    ((State.wants_sensor_continue hs hb (by decide)).trans hclosed.symm)

theorem State.stuckExpires_aisle (h : (s.aisle.stuck.get z).timer.isSome) : (s.stuckExpires z).aisle = (s.markedStuck z).aisle := by
  rw [State.stuckExpires_some h]
  split
  · rfl
  · exact State.raiseOrdered_aisle (s.markedStuck z) .sensor

/-- A barrier hold, and a SENSOR that is RAISED already, leave it at the mark (R122, R160). -/
theorem State.stuckExpires_marks (h : (s.aisle.stuck.get z).timer.isSome)
    (hk : s.sup.barrierHold = true ∨ s.sup.conds.sensor ≠ .clear) :
    s.stuckExpires z = s.markedStuck z := by
  rw [State.stuckExpires_some h]
  rcases hk with hh | hc
  · exact if_pos hh
  · rw [State.raiseOrdered_raised (s.markedStuck z) (c := .sensor) hc, ite_self]

theorem State.stuckExpires_raises (h : (s.aisle.stuck.get z).timer.isSome) (hh : s.sup.barrierHold = false) :
    s.stuckExpires z = (s.markedStuck z).raiseOrdered .sensor := by
  rw [State.stuckExpires_some h, if_neg (Bool.eq_false_iff.mp hh)]

end Stuck

/-! The pattern at the barrier (R134, R138 to R140). -/

section Barrier

variable {s : State}

/-- A close: a timed travel, or CLOSED at once at the limit, where a side that waits has the barrier opened (R136, R139, R141). -/
def State.Driven (s t : State) : Prop :=
  (s.aisle.active .closedLimit = false →
    t = { s with gate := { s.gate with
      barrier := .closing, phase := some .driving, owner := none, drive := .close, closeDelay := none
      travel := some s.gate.travelMs } }) ∧
  (s.aisle.active .closedLimit = true → s.gate.queues.a = [] → s.gate.queues.b = [] →
    t = { s with gate := { s.gate with
      barrier := .closed, phase := none, owner := none, drive := .close, closeDelay := none, travel := none } }) ∧
  (s.aisle.active .closedLimit = true → ∀ sd, s.gate.queues.get sd ≠ [] →
    s.gate.queues.get sd.other = [] ∨ s.gate.directions[s.gate.pointer]? = some sd →
    t.gate.owner = some sd ∧ t.gate.barrier = if s.aisle.active .openLimit then .opened else .opening)

theorem State.beginDriving_driven (s : State) : s.Driven s.beginDriving :=
  ⟨s.beginDriving_timed, s.beginDriving_closed, s.beginDriving_opens⟩

/-- The close-delay timer runs while its condition holds, and its end is at once where it waits for nothing (R138, R139). -/
def State.Delayed (s t : State) (holds : Bool) (wait : Nat) (ends : Prop) : Prop :=
  (holds = false → t = { s with gate := { s.gate with closeDelay := none } }) ∧
  (holds = true → s.gate.closeDelay.isSome → t = s) ∧
  (holds = true → s.gate.closeDelay = none → wait ≠ 0 → t = { s with gate := { s.gate with closeDelay := some wait } }) ∧
  (holds = true → s.gate.closeDelay = none → wait = 0 → ends)

theorem State.delayEval_delayed {t : State} {holds : Bool} {wait : Nat} {ends : Prop} (ht : t = s.delayEval)
    (hr : s.gate.delayRuns = holds) (hd : s.gate.delayMs = wait) (h : t = s.delayExpires → ends) : s.Delayed t holds wait ends := by
  subst ht hr hd
  exact ⟨s.delayEval_stops, s.delayEval_runs_on, s.delayEval_starts, fun hr hc hd => h (s.delayEval_ends hr hc hd)⟩

/-- The pattern is recorded. -/
def State.saw (s : State) (p : PerZone Bool) : State :=
  { s with gate := { s.gate with seen := p } }

@[simp] theorem State.saw_gate (s : State) (p : PerZone Bool) : (s.saw p).gate = { s.gate with seen := p } := rfl

variable {p : PerZone Bool}

/-- What the pattern does at the barrier, before the close delay follows it: an obstruction makes DRIVING yield, and CHECKING and
FAULT_CLOSED stop and drive with ZM (R134, R139, R140). -/
theorem State.handPattern_eq (s : State) (p : PerZone Bool) :
    s.handPattern p =
      (if s.gate.barrier = .closing ∧ s.gate.phase = some .driving ∧ p.zm = true ∧ s.gate.seen.zm = false then
        (s.saw p).enterBarrier .closing (some (.yielding false)) none
      else if s.gate.barrier = .checking ∧ p.zm ≠ s.gate.seen.zm then
        { s with gate := { s.gate with
          seen := p, drive := if p.zm then .stop else .close, travel := if p.zm then none else some s.gate.travelMs } }
      else if s.gate.barrier = .faultClosed then
        { s with gate := { s.gate with seen := p, drive := if p.zm then .stop else .close } }
      else s.saw p).delayEval := by
  dsimp only [State.handPattern]
  congr 1
  split
  next hb => simp [hb, State.saw]
  next hb => simp [hb, State.saw]
  next hb => simp [hb]
  next hc hk hf =>
    rw [if_neg fun h => hc h.1, if_neg fun h => hk h.1, if_neg hf]
    rfl

/-- No close delay runs in a barrier that is neither OPEN nor CLOSING (R138, R139). -/
theorem State.delayEval_elsewhere (hb : s.gate.barrier ∉ [BarrierState.opened, .closing]) :
    s.delayEval = { s with gate := { s.gate with closeDelay := none } } := by
  refine s.delayEval_stops ?_
  unfold Gate.delayRuns
  split
  next h => simp [h] at hb
  next h => simp [h] at hb
  · rfl

/-- From CLOSING the close delay ends in DRIVING (R139). -/
theorem State.delayExpires_closing (hb : s.gate.barrier = .closing) : s.delayExpires = s.beginDriving := by
  simp only [State.delayExpires, hb]

/-- From OPEN it ends in DRIVING where the other side has nobody waiting, and in a hand-over otherwise (R138). -/
theorem State.delayExpires_drives_away {sd : Side} (hb : s.gate.barrier = .opened) (ho : s.gate.owner = some sd)
    (hq : s.gate.queues.get sd.other = []) : s.delayExpires = s.beginDriving := by
  simp only [State.delayExpires, hb, ho, hq, List.isEmpty_nil, if_true]

theorem State.delayExpires_hands_over {sd : Side} {x : Auth} {xs : List Auth} (hb : s.gate.barrier = .opened)
    (ho : s.gate.owner = some sd) (hq : s.gate.queues.get sd.other = x :: xs) :
    s.delayExpires =
      { s with gate := { s.gate with
        owner := some sd.other, closeDelay := none
        queues := s.gate.queues.set sd.other ({ x with deadline := some (x.deadline.getD (s.gate.windowS * secondMs)) } :: xs) } } := by
  unfold State.delayExpires
  split
  next sd' _ ho' =>
    obtain rfl : sd' = sd := Option.some.inj (ho'.symm.trans ho)
    rw [hq, if_neg (by simp)]
    rw [Gate.headDeadline_cons (g := { s.gate with owner := some sd'.other, closeDelay := none }) hb rfl hq]
  next h => exact (h sd hb ho).elim

/-! The pattern, state by state. -/

theorem State.handPattern_obstructed (hb : s.gate.barrier = .closing) (hp : s.gate.phase = some .driving) (hz : p.zm = true)
    (hw : s.gate.seen.zm = false) :
    s.handPattern p =
      { s with gate := { s.gate with
        seen := p, phase := some (.yielding false), owner := none, drive := .open_, closeDelay := none, travel := none } } := by
  have hstops : ((s.saw p).enterBarrier .closing (some (.yielding false)) none).gate.delayRuns = false := by
    simp [State.enterBarrier, Gate.enter, Gate.delayRuns, hz]
  rw [State.handPattern_eq, if_pos ⟨hb, hp, hz, hw⟩, State.delayEval_stops _ hstops]
  simp only [State.enterBarrier, Gate.enter, State.saw, driveOf, ← hb]

/-- A state in which neither an obstruction, nor CHECKING or FAULT_CLOSED, answers the pattern. -/
theorem State.handPattern_saw
    (hd : ¬(s.gate.phase = some .driving ∧ p.zm = true ∧ s.gate.seen.zm = false) ∨ s.gate.barrier ≠ .closing)
    (hk : s.gate.barrier = .checking → p.zm = s.gate.seen.zm) (hf : s.gate.barrier ≠ .faultClosed) :
    s.handPattern p = (s.saw p).delayEval := by
  rw [State.handPattern_eq, if_neg fun h => hd.elim (· h.2) (· h.1), if_neg fun h => h.2 (hk h.1), if_neg hf]

theorem State.handPattern_driving (hb : s.gate.barrier = .closing) (hp : s.gate.phase = some .driving)
    (h : p.zm = false ∨ s.gate.seen.zm = true) :
    s.handPattern p = { s with gate := { s.gate with seen := p, closeDelay := none } } := by
  have hfree : ¬(s.gate.phase = some .driving ∧ p.zm = true ∧ s.gate.seen.zm = false) := by
    rintro ⟨-, hz, hw⟩
    simp [hz, hw] at h
  rw [State.handPattern_saw (.inl hfree) (by simp [hb]) (by simp [hb]), State.delayEval_stops _ (by simp [Gate.delayRuns, hb, hp])]
  rfl

theorem State.handPattern_yielding {zeroWait : Bool} (hb : s.gate.barrier = .closing)
    (hp : s.gate.phase = some (.yielding zeroWait)) :
    (s.saw p).Delayed (s.handPattern p) (!p.zm) (if zeroWait then 0 else s.gate.closeDelayMs) ((s.saw p).Driven (s.handPattern p)) := by
  refine State.delayEval_delayed (State.handPattern_saw (.inl (by simp [hp])) (by simp [hb]) (by simp [hb])) ?_ ?_ fun h => ?_
  · simp only [Gate.delayRuns, State.saw_gate, hb, hp]
  · cases zeroWait <;> simp [Gate.delayMs, hp]
  · rw [h, State.delayExpires_closing (s := s.saw p) hb]
    exact State.beginDriving_driven _

theorem State.handPattern_clearing (hb : s.gate.barrier = .closing) (hp : s.gate.phase = some .clearing) :
    (s.saw p).Delayed (s.handPattern p) p.allClear s.gate.closeDelayMs ((s.saw p).Driven (s.handPattern p)) := by
  refine State.delayEval_delayed (State.handPattern_saw (.inl (by simp [hp])) (by simp [hb]) (by simp [hb])) ?_ ?_ fun h => ?_
  · simp only [Gate.delayRuns, State.saw_gate, hb, hp]
  · simp only [Gate.delayMs, State.saw_gate, hp]
  · rw [h, State.delayExpires_closing (s := s.saw p) hb]
    exact State.beginDriving_driven _

theorem State.handPattern_opened {sd : Side} (hb : s.gate.barrier = .opened) (ho : s.gate.owner = some sd)
    (hp : s.gate.phase = none) :
    (s.saw p).Delayed (s.handPattern p) ((s.gate.queues.get sd).isEmpty && p.allClear) s.gate.closeDelayMs
      ((s.gate.queues.get sd.other = [] → (s.saw p).Driven (s.handPattern p)) ∧
        ∀ x xs, s.gate.queues.get sd.other = x :: xs →
          s.handPattern p = { s with gate := { s.gate with
            seen := p, owner := some sd.other, closeDelay := none
            queues := s.gate.queues.set sd.other
              ({ x with deadline := some (x.deadline.getD (s.gate.windowS * secondMs)) } :: xs) } }) := by
  refine State.delayEval_delayed (State.handPattern_saw (.inl (by simp [hp])) (by simp [hb]) (by simp [hb])) ?_ ?_
    fun h => ⟨fun hq => ?_, fun x xs hq => ?_⟩
  · simp only [Gate.delayRuns, State.saw_gate, hb, ho]
  · simp only [Gate.delayMs, State.saw_gate, hp]
  · rw [h, State.delayExpires_drives_away (s := s.saw p) hb ho hq]
    exact State.beginDriving_driven _
  · rw [h, State.delayExpires_hands_over (s := s.saw p) hb ho hq]
    rfl

theorem State.handPattern_checking_same (hb : s.gate.barrier = .checking) (h : p.zm = s.gate.seen.zm) :
    s.handPattern p = { s with gate := { s.gate with seen := p, closeDelay := none } } := by
  rw [State.handPattern_saw (.inr (by simp [hb])) (fun _ => h) (by simp [hb]), State.delayEval_elsewhere (by simp [hb])]
  rfl

theorem State.handPattern_checking_changed (hb : s.gate.barrier = .checking) (h : p.zm ≠ s.gate.seen.zm) :
    s.handPattern p =
      { s with gate := { s.gate with
        seen := p, drive := if p.zm then .stop else .close, closeDelay := none
        travel := if p.zm then none else some s.gate.travelMs } } := by
  rw [State.handPattern_eq, if_neg (by simp [hb]), if_pos ⟨hb, h⟩, State.delayEval_elsewhere (by simp [hb])]

theorem State.handPattern_faultClosed (hb : s.gate.barrier = .faultClosed) :
    s.handPattern p =
      { s with gate := { s.gate with seen := p, drive := if p.zm then .stop else .close, closeDelay := none } } := by
  rw [State.handPattern_eq, if_neg (by simp [hb]), if_neg (by simp [hb]), if_pos hb, State.delayEval_elsewhere (by simp [hb])]

theorem State.handPattern_elsewhere
    (hb : s.gate.barrier ∈ [BarrierState.closed, .opening, .freeOpen, .faultOpen, .held]) :
    s.handPattern p = { s with gate := { s.gate with seen := p, closeDelay := none } } := by
  have hne (b : BarrierState) (h : b ∉ [BarrierState.closed, .opening, .freeOpen, .faultOpen, .held]) : s.gate.barrier ≠ b :=
    fun heq => h (heq ▸ hb)
  rw [State.handPattern_saw (.inr (hne _ (by decide))) (fun h => absurd h (hne _ (by decide))) (hne _ (by decide)),
    State.delayEval_elsewhere (by simp [hne .opened (by decide), hne .closing (by decide)])]
  rfl

end Barrier

/-- Settles O37: the zones of a group settle one after another and are one pattern change, the stuck timer raises SENSOR by its response,
and the pattern meets each barrier state. -/
theorem zonesSettle : Obligations.ZonesSettle := by
  refine ⟨fun s za zm zb => ?group, fun s z => ⟨fun h => ?idle, fun h => ?stuck⟩, fun s p => ?pattern⟩
  case group =>
    intro f runs level filter stuck pattern aisle hruns
    have hsettle : s.debounced (.zones za zm zb) = (s.settleZones (zoneList za zm zb)).patternChange :=
      State.zonesSettle_eq ((s.aisle.debouncing_zoneList za zm zb).trans hruns)
    have hfooting := (s.settleZones (zoneList za zm zb)).patternChange_footing
    have hzones := hfooting
    rw [s.settleZones_aisle za zm zb] at hzones
    simp only [exec_debounceExpiry, hsettle]
    refine ⟨fun ha hm hb => ?free, _, rfl, congrArg Footing.aisle hzones, congrArg Footing.seen hzones, fun hany hnone => ?freed⟩
    case free =>
      have hfree : s.aisle.anyStuck = false := by simp [Aisle.anyStuck, ha, hm, hb]
      rw [State.settleZones_free _ _ _ _ hfree, ← State.takeReports_eq_foldl]
      rfl
    case freed =>
      have hcovered : s.SensorCovered := fun hfree => by
        simp only [Aisle.anyStuck, Bool.or_eq_false_iff] at hfree
        simp [hfree] at hany
      exact (congrArg Footing.sensor hfooting).trans
        (hcovered.settleZones za zm zb ((congrArg (·.aisle.anyStuck) hfooting).symm.trans hnone))
  case idle =>
    rw [exec_stuckTimerExpiry, State.stuckExpires_none h]
    rfl
  case stuck =>
    rw [exec_stuckTimerExpiry]
    refine ⟨_, rfl, State.stuckExpires_aisle h, fun hkept => ?marks, fun hh hc => ?raises⟩
    case marks =>
      rw [State.stuckExpires_marks h hkept]
      exact ⟨rfl, rfl, rfl⟩
    case raises =>
      rw [State.stuckExpires_raises h hh]
      obtain ⟨-, hraised, hclosed, hfree⟩ := State.raiseOrdered_orders (s := s.markedStuck z) (c := .sensor) hc (by decide)
      exact ⟨hraised, hclosed, hfree, State.raiseOrdered_sensor_continue (s := s.markedStuck z)⟩
  case pattern =>
    intro g clear t driven delayed
    refine ⟨State.handPattern_obstructed, State.handPattern_driving, fun _ => State.handPattern_yielding, State.handPattern_clearing,
      fun _ => State.handPattern_opened,
      fun hb => ⟨State.handPattern_checking_same hb, fun hz hw => ?occupied, fun hz hw => ?cleared⟩,
      State.handPattern_faultClosed, State.handPattern_elsewhere⟩
    case occupied =>
      have hchanged := State.handPattern_checking_changed (p := p) hb (by simp [hz, hw])
      rwa [hz] at hchanged
    case cleared =>
      have hchanged := State.handPattern_checking_changed (p := p) hb (by simp [hz, hw])
      rwa [hz] at hchanged

end Sys2Proof.Machine
end

section
/-! The laws of the authorisation queues and of the barrier: what they read of the gate, and what an event that eases the load of the queues
without moving the barrier leaves of them (R131, R134 to R141, R148, R151). -/

namespace Sys2Proof.Machine

/-! The line of R135 that governs, and the law of the barrier by it. -/

/-- The barrier states in which nothing but the authorisations governs the barrier: the last line of R135. -/
def servingStates : List BarrierState :=
  [.closed, .opening, .opened, .closing, .checking]

/-- The barrier states of the line of R135 that governs. -/
def Gate.line (g : Gate) : List BarrierState :=
  if g.reasons.any then [if g.unverified then .faultOpen else .freeOpen]
  else if g.holdOrder then [.held]
  else if g.failClosedOrder then [.faultClosed]
  else servingStates

/-- The barrier is in a state of the line that governs, with the owner, phase, timers and drive of that state. -/
def Gate.Lawful (g : Gate) : Prop :=
  g.barrierLaw ∧ g.barrier ∈ g.line

/-- No reason for free-open and no order is in force. -/
def Gate.Unordered (g : Gate) : Prop :=
  g.reasons.any = false ∧ g.holdOrder = false ∧ g.failClosedOrder = false

theorem State.barrierLaw_iff (s : State) :
    s.barrierLaw ↔ s.gate.Lawful ∧ s.sup.barrierHold = s.gate.holdOrder := by
  have hline : (if s.inFreeOpen then s.gate.barrier = if s.gate.unverified then .faultOpen else .freeOpen
      else if s.gate.holdOrder then s.gate.barrier = .held
      else if s.gate.failClosedOrder then s.gate.barrier = .faultClosed
      else s.gate.barrier ∈ [BarrierState.closed, .opening, .opened, .closing, .checking]) ↔ s.gate.barrier ∈ s.gate.line := by
    have hany : s.inFreeOpen = s.gate.reasons.any := rfl
    rw [Gate.line, hany]
    repeat' split
    all_goals simp [servingStates]
  rw [State.barrierLaw, hline, Gate.Lawful]
  tauto

section Line

variable {g : Gate}

theorem Gate.line_unordered (h : g.Unordered) : g.line = servingStates := by
  obtain ⟨hfree, hhold, hclosed⟩ := h
  simp [Gate.line, hfree, hhold, hclosed]

theorem Gate.line_free (h : g.reasons.any = true) : g.line = [if g.unverified then .faultOpen else .freeOpen] :=
  if_pos h

/-- A barrier that is not open to all stands under no reason for free-open (R148). -/
theorem Gate.Lawful.reasons_none (h : g.Lawful) (hb : g.barrier ∉ [BarrierState.freeOpen, .faultOpen]) : g.reasons.any = false := by
  by_contra hany
  have hline := h.2
  rw [Gate.line_free (Bool.eq_true_of_not_eq_false hany)] at hline
  split at hline <;> simp_all

/-- A barrier in a state of the last line is under no order (R135). -/
theorem Gate.Lawful.unordered (h : g.Lawful) (hb : g.barrier ∈ servingStates) : g.Unordered := by
  obtain ⟨-, hline⟩ := h
  simp only [servingStates, List.mem_cons, List.not_mem_nil, or_false] at hb
  unfold Gate.line at hline
  split at hline
  · split at hline <;> simp_all
  split at hline
  · simp_all
  split at hline
  · simp_all
  next hfree hhold hclosed => exact ⟨by simpa using hfree, by simpa using hhold, by simpa using hclosed⟩

end Line

/-- All that the law of the barrier reads of the gate: everything but the queues, reservations, alarm timers and counts. -/
def Gate.posture (g : Gate) : Gate :=
  { g with
    queues := { a := [], b := [] }, reservations := { a := .absent, b := .absent }, alarms := { a := none, b := none }, freeCount := 0
    pointer := 0 }

theorem Gate.Lawful.congr {g h : Gate} (hg : g.Lawful) (hp : h.posture = g.posture) : h.Lawful :=
  have hposture : h.posture.Lawful := hp ▸ hg
  hposture

/-! The relations. -/

/-- The barrier stands as it stood, and no side's authorisations and reservations have become more. -/
structure State.Eases (s t : State) : Prop where
  posture : t.gate.posture = s.gate.posture
  hold : t.sup.barrierHold = s.sup.barrierHold
  load : ∀ sd, t.gate.load sd ≤ s.gate.load sd

/-- The laws of the queues and of the barrier that hold in the first state hold in the second, and so does, beside the law of the barrier,
the agreement of supervision's hold with the passage controller's order. -/
structure State.Ruled (s t : State) : Prop where
  queues : s.gate.queueLaw → t.gate.queueLaw
  barrier : s.gate.Lawful → t.gate.Lawful
  hold : s.gate.Lawful → s.sup.barrierHold = s.gate.holdOrder → t.sup.barrierHold = t.gate.holdOrder

/-- The gate is lawful after the event, and supervision's hold and the passage controller's order are as before. -/
structure State.Settles (s t : State) : Prop where
  hold : t.sup.barrierHold = s.sup.barrierHold
  order : t.gate.holdOrder = s.gate.holdOrder
  lawful : t.gate.Lawful

/-- What the relations read: the gate and the barrier hold. -/
def State.standing (s : State) : Gate × Bool :=
  (s.gate, s.sup.barrierHold)

section Relations

variable {s t u v : State}

theorem State.Eases.refl (s : State) : s.Eases s :=
  ⟨rfl, rfl, fun _ => Nat.le_refl _⟩

theorem State.Eases.trans (h : s.Eases u) (k : u.Eases v) : s.Eases v :=
  ⟨k.posture.trans h.posture, k.hold.trans h.hold, fun sd => (k.load sd).trans (h.load sd)⟩

theorem State.Eases.ite {c : Prop} [Decidable c] (h : s.Eases u) (k : s.Eases v) : s.Eases (if c then u else v) := by
  split
  · exact h
  · exact k

theorem State.Eases.frame (h : s.Eases u) (hsame : t.standing = u.standing) : s.Eases t := by
  obtain ⟨hgate, hhold⟩ := Prod.mk.inj hsame
  exact h.trans ⟨congrArg Gate.posture hgate, hhold, fun sd => (congrArg (·.load sd) hgate).le⟩

theorem Gate.queueLaw.of_load {g h : Gate} (hg : g.queueLaw) (hl : ∀ sd, h.load sd ≤ g.load sd) : h.queueLaw :=
  ⟨(hl .a).trans hg.1, (hl .b).trans hg.2⟩

theorem State.Ruled.refl (s : State) : s.Ruled s :=
  ⟨id, id, fun _ => id⟩

theorem State.Ruled.trans (h : s.Ruled u) (k : u.Ruled v) : s.Ruled v :=
  ⟨k.queues ∘ h.queues, k.barrier ∘ h.barrier, fun hs => k.hold (h.barrier hs) ∘ h.hold hs⟩

theorem State.Ruled.ite {c : Prop} [Decidable c] (h : s.Ruled u) (k : s.Ruled v) : s.Ruled (if c then u else v) := by
  split
  · exact h
  · exact k

theorem State.Eases.ruled (h : s.Eases u) : s.Ruled u where
  queues hs := hs.of_load h.load
  barrier hs := hs.congr h.posture
  hold _ hs := h.hold.trans (hs.trans (congrArg Gate.holdOrder h.posture).symm)

theorem State.Ruled.eased (h : s.Ruled u) (k : u.Eases v) : s.Ruled v :=
  h.trans k.ruled

theorem State.Ruled.frame (h : s.Ruled u) (hsame : t.standing = u.standing) : s.Ruled t :=
  h.eased (State.Eases.frame (.refl u) hsame)

theorem State.Eases.settles (h : s.Eases u) (k : u.Settles t) : s.Settles t :=
  ⟨k.hold.trans h.hold, k.order.trans (congrArg Gate.holdOrder h.posture :), k.lawful⟩

theorem State.Settles.eased (h : s.Settles u) (k : u.Eases t) : s.Settles t :=
  ⟨k.hold.trans h.hold, (congrArg Gate.holdOrder k.posture :).trans h.order, h.lawful.congr k.posture⟩

theorem State.Ruled.settled (h : s.Ruled u) (hload : ∀ sd, t.gate.load sd ≤ u.gate.load sd) (k : u.gate.Lawful → u.Settles t) :
    s.Ruled t :=
  h.trans ⟨fun hq => hq.of_load hload, fun hl => (k hl).lawful, fun hl heq => (k hl).hold.trans (heq.trans (k hl).order.symm)⟩

/-- A change of the gate that leaves the queues, the reservations and the orders, and keeps its law. -/
theorem State.Ruled.setGate {g : Gate} (h : s.Ruled u) (hload : ∀ sd, g.load sd ≤ u.gate.load sd) (hhold : g.holdOrder = u.gate.holdOrder)
    (hlaw : u.gate.Lawful → g.Lawful) : s.Ruled { u with gate := g } :=
  h.settled hload fun hl => ⟨rfl, hhold, hlaw hl⟩

theorem State.Ruled.barrierLaw (h : s.Ruled t) (hs : s.barrierLaw) : t.barrierLaw := by
  rw [State.barrierLaw_iff] at *
  exact ⟨h.barrier hs.1, h.hold hs.1 hs.2⟩

end Relations

end Sys2Proof.Machine
end

section
/-! What leaves the barrier and eases the load of the queues: the books, screening, the end of a transaction, cancellations and alarms (R37,
R45, R131 to R133, R147, R155). -/

namespace Sys2Proof.Machine

/-! Notices, the journal and the fault classes (R155, R165, R177). -/

section Books

variable {s u : State}

theorem State.Eases.notify {n : Notice} (h : s.Eases u) : s.Eases (u.notify n) :=
  h.frame rfl

theorem State.Eases.appendReserved {second : Option Nat} {side : Option Side} {body : RecordBody} (h : s.Eases u) :
    s.Eases (u.appendReserved second side body) :=
  h.frame (by rw [State.appendReserved_frame]; rfl)

theorem State.Eases.appendUnreserved {side : Option Side} {body : RecordBody} (h : s.Eases u) :
    s.Eases (u.appendUnreserved side body) :=
  h.frame (by rw [State.appendUnreserved_frame]; rfl)

theorem State.Eases.faultNews {c : FaultClass} {raised : Bool} (h : s.Eases u) : s.Eases (u.faultNews c raised) :=
  h.appendUnreserved.notify

theorem State.Eases.raisePlain {c : FaultClass} (h : s.Eases u) : s.Eases (u.raisePlain c) :=
  .ite h (State.Eases.faultNews (u := u.setCond c true) (h.frame rfl))

theorem State.Eases.clearPlain {c : FaultClass} (h : s.Eases u) : s.Eases (u.clearPlain c) :=
  .ite (State.Eases.faultNews (u := u.setCond c false) (h.frame rfl)) h

theorem State.Eases.lowCheck (h : s.Eases u) : s.Eases u.lowCheck :=
  .ite (h.frame rfl) h

theorem State.Eases.journalFaultNews {raised : Bool} (h : s.Eases u) : s.Eases (u.journalFaultNews raised) :=
  have happended : s.Eases (u.appendRaw u.now none (.fault .journal raised .fixed)) := h.frame rfl
  (State.Eases.ite happended.lowCheck h).notify

theorem State.Eases.raiseJournal (h : s.Eases u) : s.Eases u.raiseJournal :=
  .ite h (State.Eases.journalFaultNews (u := u.setCond .journal true) (h.frame rfl))

theorem State.Eases.clearJournal (h : s.Eases u) : s.Eases u.clearJournal :=
  have hcleared := State.Eases.journalFaultNews (raised := false) (u := u.setCond .journal false) (h.frame rfl)
  .ite (.ite hcleared.raiseJournal hcleared) h

theorem State.Eases.freeRecords {n : Nat} (h : s.Eases u) : s.Eases (u.freeRecords n) :=
  have harmed {c : Prop} [Decidable c] {x y : Journal} : s.Eases (if c then { u with journal := x } else { u with journal := y }) :=
    .ite (h.frame rfl) (h.frame rfl)
  .ite (State.Eases.clearJournal harmed) harmed

theorem State.Eases.unmaskFrom {old : PerClass Bool} {c : NoticeClass} (h : s.Eases u) : s.Eases (u.unmaskFrom old c) := by
  refine .ite ?_ h
  unfold State.unmask
  split
  · exact h
  · exact .ite (h.frame rfl) h

end Books

/-! The screening unit (R98, R99, R109 to R116). -/

section Screening

variable {s u : State} {card : CardId}

theorem State.Eases.captureHold {instant : Nat} {capture : CaptureResult} (h : s.Eases u) :
    s.Eases (u.captureHold card instant capture) :=
  h.frame rfl

theorem State.Eases.setAlternate {n : Nat} (h : s.Eases u) : s.Eases (u.setAlternate card n) := by
  unfold State.setAlternate
  split
  · exact h
  · exact h.frame rfl

theorem State.Eases.reportPassage {outcome : PassageState} (h : s.Eases u) : s.Eases (u.reportPassage card outcome) := by
  unfold State.reportPassage
  split
  · exact h
  · exact .ite (h.frame rfl) h

theorem State.Eases.repeatGranted {expired : Bool} {counter : Nat} {purse : Int} (h : s.Eases u) :
    s.Eases (u.repeatGranted card expired counter purse) := by
  unfold State.repeatGranted
  split
  · exact h
  · exact .ite (h.frame rfl) (h.frame rfl)

end Screening

/-! The calculator, the in-doubt table and the end of a transaction (R37, R39, R43, R45, R49, R81). -/

section Taps

variable {s u : State} {sd : Side}

theorem State.Eases.releasePin (h : s.Eases u) : s.Eases u.releasePin :=
  .ite h (h.frame rfl)

theorem State.Eases.takeWaiting (h : s.Eases u) : s.Eases u.takeWaiting := by
  obtain ⟨fares, hfares⟩ := u.takeWaiting_frame
  exact h.frame (by rw [hfares]; rfl)

theorem State.Eases.askPricing (h : s.Eases u) : s.Eases (u.askPricing sd) :=
  State.Eases.takeWaiting (h.frame rfl)

theorem State.Eases.expireEntry {e : InDoubt} (h : s.Eases u) : s.Eases (u.expireEntry e) :=
  State.Eases.appendReserved (u := u.removeEntry e.card) (h.frame rfl)

theorem State.Eases.detach {card : CardId} (h : s.Eases u) : s.Eases (u.detach card) := by
  obtain ⟨d, b, hdetach⟩ := u.detach_frame card
  exact h.frame (by rw [hdetach]; rfl)

theorem State.Eases.deadlinePasses {card : CardId} (h : s.Eases u) : s.Eases (u.deadlinePasses card) := by
  unfold State.deadlinePasses
  split
  · exact h
  split
  · exact h
  · exact .ite (h.frame rfl) h.expireEntry

/-- A reservation that is given up counts no more (R131). -/
theorem State.Eases.giveUp (h : s.Eases u) : s.Eases (u.setReservation sd .absent) := by
  refine h.trans ⟨rfl, rfl, fun sd' => ?_⟩
  simp only [Gate.load, State.setReservation, PerSide.get_set]
  split
  · exact Nat.add_le_add_left (Nat.zero_le _) _
  · exact Nat.le_refl _

theorem State.Eases.finishTx {f : Finish} (h : s.Eases u) : s.Eases (u.finishTx sd f) := by
  cases hx : (u.ctx sd).tx with
  | none => simpa only [State.finishTx, hx] using h
  | some x =>
    obtain ⟨fares, pin, hclose, -⟩ := (u.closing sd x f).closeContext_eq sd
    obtain ⟨d, b, hrelease⟩ := u.releaseTx_frame sd x
    rw [State.finishTx_eq f hx, hclose, State.closing, hrelease]
    exact (h.giveUp (sd := sd)).frame rfl

theorem State.Eases.abortTx {o : TapOutcome} (h : s.Eases u) : s.Eases (u.abortTx sd o) :=
  .ite h.finishTx h

theorem State.Eases.abortBoth {o : TapOutcome} (h : s.Eases u) : s.Eases (u.abortBoth o) :=
  h.abortTx.abortTx

theorem State.Eases.linkDown (h : s.Eases u) : s.Eases (u.linkDown sd) :=
  .ite (h.frame rfl) (h.frame rfl)

theorem State.Eases.linkSearching (h : s.Eases u) : s.Eases (u.linkSearching sd) :=
  .ite (h.frame rfl) (h.frame rfl)

end Taps

/-! Authorisations that end, and alarms (R131 to R133, R144, R147, R149). -/

section Passages

variable {s u : State} {sd : Side}

/-- A queue that has not become longer (R131). -/
theorem State.Eases.setQueue {q : List Auth} (h : s.Eases u) (hq : q.length ≤ (u.gate.queues.get sd).length) :
    s.Eases (u.setQueue sd q) := by
  refine h.trans ⟨rfl, rfl, fun sd' => Nat.add_le_add_right ?_ _⟩
  simp only [State.setQueue, PerSide.get_set]
  split
  next hsd => exact hsd ▸ hq
  · exact Nat.le_refl _

theorem State.Eases.endUnused {x : Auth} {reason : NotTakenReason} (h : s.Eases u) : s.Eases (u.endUnused sd x reason) := by
  refine State.Eases.notify (State.Eases.appendUnreserved ?_)
  split
  · exact h.reportPassage
  · exact h

theorem State.Eases.cancelList {l : List Auth} (h : s.Eases u) : s.Eases (u.cancelList sd l) := by
  induction l generalizing u with
  | nil => exact h
  | cons x l ih => exact ih h.endUnused

theorem State.Eases.cancelAll (h : s.Eases u) : s.Eases u.cancelAll := by
  refine State.Eases.cancelList (State.Eases.cancelList (h.trans ⟨rfl, rfl, fun sd => ?_⟩))
  cases sd <;> exact Nat.add_le_add_right (Nat.zero_le _) _

/-- A WITHDRAWN reservation counts as a HELD one does (R131). -/
theorem Reservation.count_withdraw (r : Reservation) (c : WithdrawCause) : (r.withdraw c).count = r.count := by
  cases r <;> rfl

theorem State.Eases.withdrawAll {c : WithdrawCause} (h : s.Eases u) : s.Eases (u.withdrawAll c) := by
  refine h.trans ⟨rfl, rfl, fun sd => Nat.add_le_add_left ?_ _⟩
  cases sd <;> exact (Reservation.count_withdraw _ _).le

theorem State.Eases.raiseAlarm {kind : AlarmKind} {a b : Bool} {direction : Option Side} (h : s.Eases u) :
    s.Eases (u.raiseAlarm kind a b direction) :=
  State.Eases.notify (State.Eases.appendUnreserved (h.trans ⟨rfl, rfl, fun _ => Nat.le_refl _⟩))

theorem State.Eases.alarmAt {kind : AlarmKind} {direction : Option Side} (h : s.Eases u) : s.Eases (u.alarmAt kind sd direction) :=
  h.raiseAlarm

theorem Gate.load_of_moved {g h : Gate} (k : g.Moved h) (sd : Side) : h.load sd = g.load sd := by
  have hlength := congrArg List.length (k.queues sd)
  rw [List.length_map, List.length_map] at hlength
  rw [Gate.load, Gate.load, hlength, k.reservations]

theorem Gate.headDeadline_posture (g : Gate) : g.headDeadline.posture = g.posture := by
  unfold Gate.headDeadline
  repeat' split
  all_goals rfl

/-- A head that takes its deadline is no further authorisation (R137). -/
theorem State.Eases.headDeadline (h : s.Eases u) : s.Eases { u with gate := u.gate.headDeadline } :=
  h.trans ⟨u.gate.headDeadline_posture, rfl, fun sd => (Gate.load_of_moved u.gate.headDeadline_moved sd).le⟩

theorem State.Eases.consume {follower behind : Bool} (h : s.Eases u) : s.Eases (u.consume sd follower behind) := by
  unfold State.consume
  split
  · exact h
  next x xs hq =>
    have hconsumed : s.Eases (u.setQueue sd xs) := h.setQueue (by rw [hq]; exact Nat.le_succ _)
    have hreported : s.Eases (match x.card with
        | some card => (u.setQueue sd xs).reportPassage card .taken
        | none => u.setQueue sd xs) := by
      split
      · exact hconsumed.reportPassage
      · exact hconsumed
    exact State.Eases.headDeadline (State.Eases.notify (.ite hreported.appendUnreserved hreported))

theorem State.Eases.openPeriod (h : s.Eases u) : s.Eases u.openPeriod := by
  unfold State.openPeriod
  split
  · exact h.frame rfl
  · exact h

end Passages

/-! The clock and the reader holds (R8, R78, R79, R85, R88, R161). -/

section Holds

variable {s u : State} {sd : Side}

theorem State.Eases.swapTest (h : s.Eases u) : s.Eases u.swapTest := by
  unfold State.swapTest
  split
  · exact h
  next version day _ =>
    have hnoted := State.Eases.appendUnreserved (side := none) (body := .tariffActivated version u.activeVersion day)
      (u := u.exchangeBanks) (h.frame rfl)
    exact .ite (.ite hnoted hnoted.clearPlain) h

theorem State.Eases.minuteStep {now : Nat} (h : s.Eases u) : s.Eases (u.minuteStep now) :=
  h.swapTest.frame rfl

theorem State.Eases.advanceClock (h : s.Eases u) : s.Eases u.advanceClock := by
  have hset {t : Option Nat} : s.Eases (u.setClock t) := h.frame rfl
  unfold State.advanceClock
  split
  · exact h
  · exact .ite hset.raisePlain (.ite hset.minuteStep hset)

theorem State.Eases.takeSetting {t : Nat} {forced : Bool} (h : s.Eases u) : s.Eases (u.takeSetting t forced) := by
  have hset {c : Prop} [Decidable c] {x : Screen} :
      s.Eases (if c then { u.setClock (some t) with screen := x } else u.setClock (some t)) := .ite (h.frame rfl) (h.frame rfl)
  have hnoted := State.Eases.appendUnreserved (side := none) (body := .clockSet u.now t forced) (State.Eases.minuteStep (now := t)
    (hset (c := forced = true) (x := { (u.setClock (some t)).screen with sightings := [] })))
  exact .ite hnoted hnoted.clearPlain

theorem State.Eases.enterReaderHold (h : s.Eases u) : s.Eases (u.enterReaderHold sd) :=
  have hheld : s.Eases (State.setReader { u with sup := { u.sup with readerHold := u.sup.readerHold.set sd true } } sd
      { u.reader sd with needsSettle := decide ((u.reader sd).link = .settling) || !(u.reader sd).carrier }) := h.frame rfl
  State.Eases.abortTx (.ite hheld.linkDown hheld)

theorem State.Eases.leaveReaderHold (h : s.Eases u) : s.Eases (u.leaveReaderHold sd) :=
  .ite (.ite (h.frame rfl) (State.Eases.linkSearching (h.frame rfl))) (h.frame rfl)

end Holds

end Sys2Proof.Machine
end

section
/-! The barrier under its law: its moves, the close delay, the limits, the pattern and the passages (R134 to R147). -/

namespace Sys2Proof.Machine

/-! A state that the barrier takes (R134 to R141). -/

/-- The barrier takes a state with the owner, phase and travel of that state; the drive follows and no close delay runs (R134). -/
theorem Gate.enter_barrierLaw (g : Gate) {b : BarrierState} {phase : Option ClosingPhase} {owner : Option Side} {travel : Timer}
    (howner : owner.isSome = true ↔ b = .opening ∨ b = .opened) (hphase : phase.isSome = true ↔ b = .closing)
    (htravel : travel.isSome = true →
      b = .opening ∨ (b = .closing ∧ phase = some .driving) ∨ (b = .checking ∧ g.seen.zm = false)) :
    ({ g.enter b phase owner with travel := travel } : Gate).barrierLaw := by
  refine ⟨howner, hphase, htravel, nofun, ?_⟩
  cases b with
  | held => exact .inl rfl
  | closing =>
    refine .inr (.inl ?_)
    rcases phase with _ | _ | _ | _ <;> rfl
  | _ => exact .inr (.inl rfl)

/-- What the orders of the gate are: the free-open reasons, the hold and the fail-closed order. -/
def Gate.orders (g : Gate) : FreeReasons × Bool × Bool :=
  (g.reasons, g.holdOrder, g.failClosedOrder)

/-- The barrier alone has moved, to a state of the last line of R135 under its law, and no order has changed. -/
structure State.Moves (s t : State) : Prop where
  drives : s.Drives t
  law : t.gate.barrierLaw
  serving : t.gate.barrier ∈ servingStates
  orders : t.gate.orders = s.gate.orders

section Moves

variable {s t u : State}

theorem State.Drives.sup (h : s.Drives t) : t.sup = s.sup := by
  rw [h.1]

theorem State.Drives.load (h : s.Drives t) (sd : Side) : t.gate.load sd = s.gate.load sd :=
  Gate.load_of_moved h.2 sd

theorem State.Moves.after (h : t.Moves u) (hd : s.Drives t) (ho : t.gate.orders = s.gate.orders) : s.Moves u :=
  ⟨hd.trans h.drives, h.law, h.serving, h.orders.trans ho⟩

theorem Gate.Unordered.of_orders (h : s.gate.Unordered) (ho : t.gate.orders = s.gate.orders) : t.gate.Unordered := by
  obtain ⟨hreasons, hhold, hclosed⟩ := by simpa only [Gate.orders, Prod.mk.injEq] using ho
  rwa [Gate.Unordered, hreasons, hhold, hclosed]

/-- A move under no order ends in a lawful gate (R135). -/
theorem State.Moves.lawful (h : s.Moves t) (hs : s.gate.Unordered) : t.gate.Lawful := by
  refine ⟨h.law, ?_⟩
  rw [Gate.line_unordered (hs.of_orders h.orders)]
  exact h.serving

theorem State.Moves.settles (h : s.Moves t) (hs : s.gate.Unordered) : s.Settles t :=
  ⟨congrArg Supervision.barrierHold h.drives.sup, congrArg (·.2.1) h.orders, h.lawful hs⟩

/-- A move that a lawful gate makes under no order keeps the laws. -/
theorem State.Drives.ruled (hd : s.Drives t) (h : s.gate.Lawful → s.gate.Unordered ∧ s.Moves t) : s.Ruled t :=
  State.Ruled.settled (.refl s) (fun sd => (hd.load sd).le) fun hl => (h hl).2.settles (h hl).1

/-- A barrier in a state of the last line is under no order in a lawful gate (R135). -/
theorem State.Moves.ruled (h : s.Moves t) (hb : s.gate.barrier ∈ servingStates) : s.Ruled t :=
  h.drives.ruled fun hl => ⟨hl.unordered hb, h⟩

/-- A barrier that enters the state of the line of free-open or of an order (R135). -/
theorem State.enterBarrier_settles (s : State) {b : BarrierState} (hb : b ∉ [BarrierState.opening, .opened, .closing])
    (hline : b ∈ s.gate.line) : s.Settles (s.enterBarrier b none none) := by
  simp only [List.mem_cons, List.not_mem_nil, or_false, not_or] at hb
  refine ⟨rfl, rfl, s.gate.enter_barrierLaw (travel := none) ?_ ?_ nofun, hline⟩ <;> simp [hb]

theorem State.enterBarrier_moves (s : State) {b : BarrierState} {phase : Option ClosingPhase} {owner : Option Side}
    (hb : b ∈ servingStates) (howner : owner.isSome = true ↔ b = .opening ∨ b = .opened) (hphase : phase.isSome = true ↔ b = .closing) :
    s.Moves (s.enterBarrier b phase owner) :=
  ⟨s.enterBarrier_drives b phase owner, s.gate.enter_barrierLaw (travel := none) howner hphase nofun, hb, rfl⟩

theorem State.Moves.headDeadline (h : s.Moves u) : s.Moves { u with gate := u.gate.headDeadline } := by
  have hposture := u.gate.headDeadline_posture
  refine ⟨h.drives.trans u.headDeadline_drives, ?_, ?_, ?_⟩
  · have hlaw : u.gate.headDeadline.posture.barrierLaw := hposture ▸ h.law
    exact hlaw
  · have hserving : u.gate.headDeadline.posture.barrier ∈ servingStates := hposture ▸ h.serving
    exact hserving
  · have horders : u.gate.headDeadline.posture.orders = u.gate.posture.orders := congrArg Gate.orders hposture
    exact Eq.trans horders h.orders

theorem State.reachOpen_moves (s : State) (sd : Side) : s.Moves (s.reachOpen sd) :=
  (s.enterBarrier_moves (b := .opened) (phase := none) (owner := some sd) (by decide) (by simp) (by simp)).headDeadline

theorem State.beginOpening_moves (s : State) (sd : Side) : s.Moves (s.beginOpening sd) := by
  have henter := s.enterBarrier_moves (b := .opening) (phase := none) (owner := some sd) (by decide) (by simp) (by simp)
  dsimp only [State.beginOpening]
  split
  · exact (State.reachOpen_moves _ sd).after henter.drives henter.orders
  · exact ⟨henter.drives.trans (State.travel_drives _ _), s.gate.enter_barrierLaw (by simp) (by simp) fun _ => .inl rfl,
      henter.serving, rfl⟩

/-- Owner selection in CLOSED leaves it CLOSED or opens (R141). -/
theorem State.selectOwner_moves (hb : s.gate.barrier = .closed) (hl : s.gate.barrierLaw) : s.Moves s.selectOwner := by
  unfold State.selectOwner
  split
  · exact ⟨.refl s, hl, by simp [hb, servingStates], rfl⟩
  · exact s.beginOpening_moves .a
  · exact s.beginOpening_moves .b
  · exact (State.beginOpening_moves { s with gate := { s.gate with pointer := (s.gate.pointer + 1) % 16 } } _).after
      ⟨rfl, rfl, fun _ => rfl⟩ rfl

theorem State.reachClosed_moves (s : State) : s.Moves s.reachClosed := by
  have henter := s.enterBarrier_moves (b := .closed) (phase := none) (owner := none) (by decide) (by simp) (by simp)
  exact (State.selectOwner_moves rfl henter.law).after henter.drives henter.orders

theorem State.beginDriving_moves (s : State) : s.Moves s.beginDriving := by
  have henter := s.enterBarrier_moves (b := .closing) (phase := some .driving) (owner := none) (by decide) (by simp) (by simp)
  dsimp only [State.beginDriving]
  split
  · exact (State.reachClosed_moves _).after henter.drives henter.orders
  · exact ⟨henter.drives.trans (State.travel_drives _ _), s.gate.enter_barrierLaw (by simp) (by simp) fun _ => .inr (.inl ⟨rfl, rfl⟩),
      henter.serving, rfl⟩

theorem State.checkSucceeds_moves (s : State) : s.Moves s.checkSucceeds :=
  (State.reachClosed_moves _).after ⟨rfl, rfl, fun _ => rfl⟩ rfl

theorem State.beginChecking_moves (s : State) : s.Moves s.beginChecking := by
  have henter := s.enterBarrier_moves (b := .checking) (phase := none) (owner := none) (by decide) (by simp) (by simp)
  dsimp only [State.beginChecking]
  split
  · exact (State.checkSucceeds_moves _).after henter.drives henter.orders
  split
  · exact henter
  next hzm =>
    exact ⟨henter.drives.trans (State.travel_drives _ _),
      s.gate.enter_barrierLaw (by simp) (by simp) fun _ => .inr (.inr ⟨rfl, Bool.eq_false_iff.mpr hzm⟩), henter.serving, rfl⟩

end Moves

/-! The close delay (R138, R139). -/

section Delay

variable {s u : State}

/-- A close delay that stops leaves a lawful gate. -/
theorem Gate.barrierLaw.stopDelay {g : Gate} (h : g.barrierLaw) : ({ g with closeDelay := none } : Gate).barrierLaw := by
  obtain ⟨howner, hphase, htravel, -, hdrive⟩ := h
  exact ⟨howner, hphase, htravel, nofun, hdrive⟩

/-- The condition of the close delay holds in OPEN and in CLOSING before DRIVING alone (R138, R139). -/
theorem Gate.delayRuns_state {g : Gate} (h : g.delayRuns = true) :
    g.barrier = .opened ∨ (g.barrier = .closing ∧ g.phase ≠ some .driving) := by
  unfold Gate.delayRuns at h
  split at h
  next hb => exact .inl hb
  next hb =>
    refine .inr ⟨hb, ?_⟩
    split at h
    next hp => simp [hp]
    next hp => simp [hp]
    · cases h
  · cases h

/-- A close delay that ends hands an OPEN barrier over or drives it closed (R138, R139). -/
theorem State.delayExpires_moves (hl : s.gate.barrierLaw) : s.Moves s.delayExpires := by
  unfold State.delayExpires
  split
  next sd hb ho =>
    split
    · exact s.beginDriving_moves
    · refine State.Moves.headDeadline (u := { s with gate := { s.gate with owner := some sd.other, closeDelay := none } }) ?_
      obtain ⟨howner, hphase, htravel, -, hdrive⟩ := hl
      refine ⟨⟨rfl, rfl, fun _ => rfl⟩, ⟨?_, hphase, htravel, nofun, hdrive⟩, by simp [hb, servingStates], rfl⟩
      simp [hb]
  · exact s.beginDriving_moves

theorem State.delayEval_settles (hl : s.gate.Lawful) : s.Settles s.delayEval := by
  unfold State.delayEval
  split
  next hruns =>
    have hstate := Gate.delayRuns_state hruns
    have hserving : s.gate.barrier ∈ servingStates := by rcases hstate with hb | ⟨hb, -⟩ <;> simp [hb, servingStates]
    obtain ⟨howner, hphase, htravel, -, hdrive⟩ := hl.1
    split
    · exact ⟨rfl, rfl, hl⟩
    split
    · exact (State.delayExpires_moves hl.1).settles (hl.unordered hserving)
    · exact ⟨rfl, rfl, ⟨howner, hphase, htravel, fun _ => hstate, hdrive⟩, hl.2⟩
  · exact ⟨rfl, rfl, hl.1.stopDelay, hl.2⟩

theorem State.Ruled.delayEval (h : s.Ruled u) : s.Ruled u.delayEval :=
  h.settled (fun sd => (u.delayEval_drives.load sd).le) State.delayEval_settles

end Delay

/-! Authorisations that join (R131, R132, R137 to R141). -/

section Joins

variable {s u : State} {sd : Side}

/-- The first authorisation opens a barrier that is CLOSED or still yields or clears; an OPEN one judges its close delay again. -/
theorem State.Ruled.authJoined (h : s.Ruled u) : s.Ruled (u.authJoined sd) := by
  unfold State.authJoined
  split
  next hb =>
    have hserving : u.gate.barrier ∈ servingStates := by simp [hb, servingStates]
    exact h.trans (u.selectOwner_drives.ruled fun hl => ⟨hl.unordered hserving, State.selectOwner_moves hb hl.1⟩)
  · exact State.Ruled.delayEval (h.eased (State.Eases.headDeadline (.refl u)))
  next hb => exact .ite h (h.trans ((u.beginOpening_moves sd).ruled (by simp [hb, servingStates])))
  · exact h

theorem State.load_setQueue_append (s : State) (sd sd' : Side) (x : Auth) :
    (s.setQueue sd (s.gate.queues.get sd ++ [x])).gate.load sd' = s.gate.load sd' + if sd' = sd then 1 else 0 := by
  simp only [Gate.load, State.setQueue, PerSide.get_set]
  split
  next hsd => rw [hsd, List.length_append, List.length_singleton, Nat.add_right_comm]
  · rfl

theorem Gate.queueLaw_iff (g : Gate) : g.queueLaw ↔ ∀ sd, g.load sd ≤ 4 :=
  ⟨fun h sd => by cases sd with | a => exact h.1 | b => exact h.2, fun h => ⟨h .a, h .b⟩⟩

/-- An authorisation that joins where its side has room for one more (R131). -/
theorem State.Ruled.join {x : Auth} (h : s.Ruled u) (hroom : s.gate.queueLaw → u.gate.load sd < 4) : s.Ruled (u.join sd x) := by
  refine State.Ruled.authJoined ⟨fun hq => ?_, fun hl => (h.barrier hl).congr rfl, h.hold⟩
  rw [Gate.queueLaw_iff]
  intro sd'
  rw [State.load_setQueue_append]
  split
  next hsd => exact hsd ▸ hroom hq
  · exact (Gate.queueLaw_iff _).mp (h.queues hq) sd'

/-- A HELD reservation leaves its place to the authorisation that it becomes (R131, R132). -/
theorem State.Ruled.fill {origin : AuthOrigin} {card : CardId} {seq : Option Nat} (h : s.Ruled u) :
    s.Ruled (u.fill sd origin card seq).1 := by
  have hgiven : s.Ruled (u.setReservation sd .absent) := h.eased (State.Eases.giveUp (.refl u))
  unfold State.fill
  split
  · exact h
  · exact hgiven
  · exact hgiven
  next hheld =>
    refine hgiven.join fun hq => ?_
    have hload := (Gate.queueLaw_iff _).mp (h.queues hq) sd
    rw [Gate.load, hheld] at hload
    rw [Gate.load, State.setReservation, PerSide.get_set_self]
    exact hload

end Joins

/-! The limits and the pattern (R134, R136, R138 to R140). -/

section Limits

variable {s u : State}

theorem State.Ruled.openLimitChanged (h : s.Ruled u) : s.Ruled u.openLimitChanged := by
  unfold State.openLimitChanged
  split
  next sd hb _ => exact .ite (State.Ruled.delayEval (h.trans ((u.reachOpen_moves sd).ruled (by simp [hb, servingStates])))) h
  next hb => exact .ite (h.trans (u.checkSucceeds_moves.ruled (by simp [hb, servingStates]))) h
  · exact h

theorem State.Ruled.closedLimitChanged (h : s.Ruled u) : s.Ruled u.closedLimitChanged := by
  unfold State.closedLimitChanged
  split
  next hb => exact .ite (h.trans (u.reachClosed_moves.ruled (by simp [hb, servingStates]))) h
  next hb => exact .ite (h.trans (u.checkSucceeds_moves.ruled (by simp [hb, servingStates]))) h
  · exact h

/-- A pattern is all the same to a gate whose drive and travel do not follow ZM, or to which ZM is as before. -/
theorem Gate.Lawful.saw {g : Gate} (h : g.Lawful) {p : PerZone Bool} (hf : g.barrier ≠ .faultClosed)
    (hk : g.barrier = .checking → p.zm = g.seen.zm) : ({ g with seen := p } : Gate).Lawful := by
  obtain ⟨⟨howner, hphase, htravel, hdelay, hdrive⟩, hline⟩ := h
  refine ⟨⟨howner, hphase, fun ht => ?_, hdelay, hdrive.imp_right (Or.imp_left fun hd => ?_)⟩, hline⟩
  · exact (htravel ht).imp_right (Or.imp_right fun hc => ⟨hc.1, (hk hc.1).trans hc.2⟩)
  · refine hd.trans ?_
    cases hb : g.barrier with
    | checking => simp only [hk hb]
    | faultClosed => exact absurd hb hf
    | _ => rfl

/-- In CHECKING the drive and the travel follow ZM, and in FAULT_CLOSED the drive (R134, R140). -/
theorem Gate.Lawful.driven {g : Gate} (h : g.Lawful) {p : PerZone Bool} {travel : Timer}
    (hb : g.barrier = .checking ∧ travel = (if p.zm then none else some g.travelMs) ∨ g.barrier = .faultClosed ∧ travel = g.travel) :
    ({ g with seen := p, drive := if p.zm then .stop else .close, travel := travel } : Gate).Lawful := by
  obtain ⟨⟨howner, hphase, htravel, hdelay, -⟩, hline⟩ := h
  refine ⟨⟨howner, hphase, fun ht => ?_, hdelay, .inr (.inl ?_)⟩, hline⟩
  · rcases hb with ⟨hb, rfl⟩ | ⟨hb, rfl⟩
    · have hclear : p.zm = false := by
        by_contra hz
        simp [hz] at ht
      exact .inr (.inr ⟨hb, hclear⟩)
    · simpa [hb] using htravel ht
  · rcases hb with ⟨hb, -⟩ | ⟨hb, -⟩ <;> simp only [hb]

theorem State.Ruled.handPattern {p : PerZone Bool} (h : s.Ruled u) : s.Ruled (u.handPattern p) := by
  rw [State.handPattern_eq]
  refine State.Ruled.delayEval ?_
  split
  next hyields =>
    have hsaw : s.Ruled (u.saw p) := h.setGate (fun _ => Nat.le_refl _) rfl (·.saw (by simp [hyields.1]) (by simp [hyields.1]))
    exact hsaw.trans ((State.enterBarrier_moves _ (by decide) (by simp) (by simp)).ruled (by simp [hyields.1, servingStates]))
  split
  next hchanged => exact h.setGate (fun _ => Nat.le_refl _) rfl (·.driven (.inl ⟨hchanged.1, rfl⟩))
  split
  next hb => exact h.setGate (fun _ => Nat.le_refl _) rfl (·.driven (travel := u.gate.travel) (.inr ⟨hb, rfl⟩))
  next hchecking hfault =>
    exact h.setGate (fun _ => Nat.le_refl _) rfl (·.saw hfault fun hb => not_not.mp fun hne => hchecking ⟨hb, hne⟩)

end Limits

/-! Passages and the passage deadline (R137, R143 to R146). -/

section Passages

variable {s u : State} {sd : Side}

theorem State.Ruled.alarmAt {kind : AlarmKind} {direction : Option Side} (h : s.Ruled u) : s.Ruled (u.alarmAt kind sd direction) :=
  h.eased (State.Eases.alarmAt (.refl u))

/-- A tailgate closes an OPEN or OPENING barrier (R145). -/
theorem State.Ruled.tailgate (h : s.Ruled u) (hb : u.gate.barrier = .opening ∨ u.gate.barrier = .opened) : s.Ruled (u.tailgate sd) := by
  have halarm : u.Eases (u.alarmAt .tailgate sd (some sd)) := State.Eases.alarmAt (.refl u)
  have hbarrier : (u.alarmAt .tailgate sd (some sd)).gate.posture.barrier = u.gate.posture.barrier := congrArg Gate.barrier halarm.posture
  refine (h.eased halarm).trans ((State.enterBarrier_moves _ (by decide) (by simp) (by simp)).ruled ?_)
  have hserving : u.gate.posture.barrier ∈ servingStates := by rcases hb with hb | hb <;> simp [Gate.posture, hb, servingStates]
  exact hbarrier ▸ hserving

theorem State.Ruled.openPassage {o : Side} {follower behind : Bool} (h : s.Ruled u)
    (hb : u.gate.barrier = .opening ∨ u.gate.barrier = .opened) : s.Ruled (u.openPassage o sd follower behind) :=
  have hconsumed := h.eased (State.Eases.consume (sd := o) (follower := follower) (behind := behind) (.refl u))
  .ite h.alarmAt (.ite (.ite (h.tailgate hb) h.alarmAt) (.ite hconsumed.alarmAt hconsumed))

theorem State.Ruled.takePassage {follower behind : Bool} (h : s.Ruled u) : s.Ruled (u.takePassage sd follower behind) := by
  have hcounted : s.Ruled { u with gate := { u.gate with freeCount := min 65535 (u.gate.freeCount + 1) } } :=
    h.eased ⟨rfl, rfl, fun _ => Nat.le_refl _⟩
  unfold State.takePassage
  split
  next hb _ => exact h.openPassage (.inr hb)
  next hb _ => exact h.openPassage (.inl hb)
  · exact h.alarmAt
  · exact h.alarmAt
  · exact hcounted
  · exact hcounted
  · exact h
  all_goals exact h.alarmAt

theorem State.Ruled.takeCounterflow {start : Option Side} (h : s.Ruled u) : s.Ruled (u.takeCounterflow start) := by
  refine .ite ?_ h
  split
  · exact h.alarmAt
  · exact h.eased (State.Eases.raiseAlarm (.refl u))

theorem State.Ruled.takeReports {l : List Report} (h : s.Ruled u) : s.Ruled (u.takeReports l) := by
  induction l generalizing u with
  | nil => exact h
  | cons r l ih =>
    cases r with
    | passage sd follower behind => exact ih h.takePassage
    | backout sd => exact ih h
    | counterflow start => exact ih h.takeCounterflow

theorem State.Ruled.passageExpires (h : s.Ruled u) : s.Ruled u.passageExpires := by
  unfold State.passageExpires
  split
  next sd _ _ =>
    split
    · exact h
    next x xs hq =>
      split
      · exact h
      · have hshorter : u.Eases (u.setQueue sd xs) := State.Eases.setQueue (.refl u) (by rw [hq]; exact Nat.le_succ _)
        exact State.Ruled.delayEval (h.eased hshorter.endUnused.headDeadline)
  · exact h

/-- A close delay runs in OPEN and CLOSING alone (R138, R139). -/
theorem State.Ruled.closeDelayExpires (h : s.Ruled u) : s.Ruled u.closeDelayExpires := by
  unfold State.closeDelayExpires
  split
  · exact h
  next n hn =>
    refine h.trans (u.delayExpires_drives.ruled fun hl => ⟨hl.unordered ?_, State.delayExpires_moves hl.1⟩)
    obtain ⟨-, -, -, hdelay, -⟩ := hl.1
    rcases hdelay (by rw [hn]; rfl) with hb | ⟨hb, -⟩ <;> simp [hb, servingStates]

end Passages

end Sys2Proof.Machine
end

section
/-! The barrier under its law: free-open, the orders from supervision, the fault classes and aisle sensing (R119 to R125, R148 to R156,
R160). -/

namespace Sys2Proof.Machine

/-! Free-open (R148 to R150). -/

section FreeOpen

variable {s u : State}

/-- The authorisations cancelled, the reservations withdrawn and the barrier open, before the record of free-open (R149). -/
def State.swungOpen (s : State) : State :=
  let u := s.cancelAll.withdrawAll .freeOpen
  { u with
    gate := { u.gate.enter (if u.gate.unverified then .faultOpen else .freeOpen) none none with freeCount := 0 } }

theorem State.Eases.withdrawn (h : s.Eases u) (c : WithdrawCause) : s.Eases (u.cancelAll.withdrawAll c) :=
  h.cancelAll.withdrawAll

theorem State.enterFreeOpen_eases (s : State) (reason : FreeReason) : s.swungOpen.Eases (s.enterFreeOpen reason) := by
  dsimp only [State.enterFreeOpen]
  exact State.Eases.abortBoth (State.Eases.notify (State.Eases.appendUnreserved (State.Eases.openPeriod (.refl s.swungOpen))))

theorem State.enterFreeOpen_load (s : State) (reason : FreeReason) (sd : Side) :
    (s.enterFreeOpen reason).gate.load sd ≤ s.gate.load sd :=
  ((s.enterFreeOpen_eases reason).load sd).trans ((State.Eases.withdrawn (.refl s) .freeOpen).load sd)

theorem State.enterFreeOpen_settles (reason : FreeReason) (h : s.gate.reasons.any = true) : s.Settles (s.enterFreeOpen reason) := by
  have hcancelled := State.Eases.withdrawn (.refl s) .freeOpen
  refine (hcancelled.settles ?_).eased (s.enterFreeOpen_eases reason)
  generalize hu : s.cancelAll.withdrawAll .freeOpen = u at hcancelled
  have hany : u.gate.posture.reasons.any = true := hcancelled.posture ▸ h
  have hentered : u.Settles (u.enterBarrier (if u.gate.unverified then .faultOpen else .freeOpen) none none) := by
    refine u.enterBarrier_settles ?_ ?_
    · split <;> decide
    · exact (Gate.line_free hany).symm ▸ List.mem_singleton_self _
  refine hentered.eased ?_
  rw [State.swungOpen, hu]
  exact ⟨rfl, rfl, fun _ => Nat.le_refl _⟩

/-- The record and the notice of the end of free-open, and the end of its period (R150). -/
def State.toldEnd (s : State) : State :=
  let u := (s.appendUnreserved none (.freeOpenEnd s.gate.freeCount)).closePeriod
  u.notify (.freeOpenEnd u.gate.freeCount)

theorem State.toldEnd_eases (s : State) : s.Eases s.toldEnd :=
  State.Eases.notify (State.Eases.frame (u := s.appendUnreserved none (.freeOpenEnd s.gate.freeCount))
    (State.Eases.appendUnreserved (.refl s)) rfl)

theorem State.endFreeOpen_eq (s : State) :
    s.endFreeOpen =
      if s.toldEnd.gate.holdOrder then s.toldEnd.enterBarrier .held none none
      else if s.toldEnd.gate.failClosedOrder then s.toldEnd.enterBarrier .faultClosed none none
      else if s.toldEnd.gate.barrier = .faultOpen then s.toldEnd.beginChecking
      else (s.toldEnd.enterBarrier .closing (some .clearing) none).delayEval := rfl

theorem State.endFreeOpen_load (s : State) (sd : Side) : s.endFreeOpen.gate.load sd ≤ s.gate.load sd := by
  refine Nat.le_trans ?_ (s.toldEnd_eases.load sd)
  rw [State.endFreeOpen_eq]
  repeat' split
  · exact Nat.le_refl _
  · exact Nat.le_refl _
  · exact (s.toldEnd.beginChecking_moves.drives.load sd).le
  · exact (State.Drives.load (State.delayEval_drives (s.toldEnd.enterBarrier .closing (some .clearing) none)) sd).le

theorem State.endFreeOpen_settles (h : s.gate.reasons.any = false) : s.Settles s.endFreeOpen := by
  refine s.toldEnd_eases.settles ?_
  have hposture := s.toldEnd_eases.posture
  rw [State.endFreeOpen_eq]
  generalize s.toldEnd = u at hposture
  have hany : u.gate.posture.reasons.any = false := hposture ▸ h
  have hline : u.gate.line = if u.gate.holdOrder then [.held] else if u.gate.failClosedOrder then [.faultClosed] else servingStates :=
    if_neg (Bool.eq_false_iff.mp hany)
  split
  next hhold => exact u.enterBarrier_settles (by decide) (by simp [hline, hhold])
  split
  next hhold hclosed => exact u.enterBarrier_settles (by decide) (by simp [hline, hhold, hclosed])
  next hhold hclosed =>
    have hunordered : u.gate.Unordered := ⟨hany, Bool.eq_false_iff.mpr hhold, Bool.eq_false_iff.mpr hclosed⟩
    split
    · exact u.beginChecking_moves.settles hunordered
    · have hentered := (u.enterBarrier_moves (b := .closing) (phase := some .clearing) (owner := none) (by decide) (by simp)
        (by simp)).settles hunordered
      have hdelay := State.delayEval_settles hentered.lawful
      exact ⟨hdelay.hold, hdelay.order, hdelay.lawful⟩

/-- The set of reasons that becomes empty or not empty moves the barrier, and any other change of it does not (R148). -/
theorem State.Ruled.setReasons {r : FreeReasons} {reason : FreeReason} (h : s.Ruled u) : s.Ruled (u.setReasons r reason) := by
  have hline (hany : r.any = u.gate.reasons.any) : ({ u.gate with reasons := r } : Gate).line = u.gate.line := by
    simp only [Gate.line, hany]
  dsimp only [State.setReasons]
  split
  next hopens =>
    refine h.settled (State.enterFreeOpen_load _ _) fun _ => ?_
    have hset := State.enterFreeOpen_settles (s := { u with gate := { u.gate with reasons := r } }) reason (by simp_all)
    exact ⟨hset.hold, hset.order, hset.lawful⟩
  split
  next hends =>
    refine h.settled (State.endFreeOpen_load _) fun _ => ?_
    have hset := State.endFreeOpen_settles (s := { u with gate := { u.gate with reasons := r } }) (by simp_all)
    exact ⟨hset.hold, hset.order, hset.lawful⟩
  next hopens hends =>
    refine h.setGate (fun _ => Nat.le_refl _) rfl fun hl => ⟨hl.1, ?_⟩
    rw [hline (by cases hr : r.any <;> simp_all)]
    exact hl.2

theorem State.Ruled.joinReason {r : FreeReason} (h : s.Ruled u) : s.Ruled (u.joinReason r) :=
  h.setReasons

theorem State.Ruled.leaveReason {r : FreeReason} (h : s.Ruled u) : s.Ruled (u.leaveReason r) :=
  h.setReasons

theorem State.Ruled.emergencyChanged (h : s.Ruled u) : s.Ruled u.emergencyChanged :=
  .ite h.joinReason (.ite (.ite h.leaveReason h.setReasons) h)

end FreeOpen

/-! The orders from supervision (R151, R160). -/

section Orders

variable {s u : State}

/-- A fail-closed order that is given leaves a barrier under free-open or a hold where it is, and takes any other to FAULT_CLOSED (R151). -/
theorem State.Ruled.giveFailClosed (h : s.Ruled u) : s.Ruled u.giveFailClosed := by
  have hcancelled := State.Eases.withdrawn (.refl { u with gate := { u.gate with failClosedOrder := true } }) .holdOrFailClosed
  dsimp only [State.giveFailClosed]
  generalize State.withdrawAll _ _ = v at hcancelled
  have hposture := hcancelled.posture
  have hload (sd : Side) : v.gate.load sd ≤ u.gate.load sd := hcancelled.load sd
  have hreasons : v.inFreeOpen = u.gate.reasons.any := congrArg (·.reasons.any) hposture
  have horder : v.gate.holdOrder = u.gate.holdOrder := (congrArg Gate.holdOrder hposture :)
  refine State.Ruled.eased (u := if v.inFreeOpen ∨ v.gate.holdOrder then v else v.enterBarrier .faultClosed none none) ?_
    (State.Eases.abortBoth (.refl _))
  refine h.settled (fun sd => ?_) fun hl => ?_
  · split <;> exact hload sd
  split
  next hgoverned =>
    rw [hreasons, horder] at hgoverned
    have hlawful : ({ u.gate with failClosedOrder := true } : Gate).Lawful := by
      refine ⟨hl.1, ?_⟩
      have hline : ({ u.gate with failClosedOrder := true } : Gate).line = u.gate.line := by
        rcases hgoverned with hany | hhold <;> simp [Gate.line, *]
      exact hline.symm ▸ hl.2
    exact ⟨hcancelled.hold, horder, hlawful.congr hposture⟩
  next hfree =>
    rw [not_or] at hfree
    have hclosed : v.gate.failClosedOrder = true := (congrArg Gate.failClosedOrder hposture :)
    have hany : ¬v.gate.reasons.any = true := hfree.1
    have hset := v.enterBarrier_settles (b := .faultClosed) (by decide) (by simp [Gate.line, hany, hfree.2, hclosed])
    exact ⟨hset.hold.trans hcancelled.hold, hset.order.trans horder, hset.lawful⟩

/-- A gate under a line above the fail-closed order does not see it lifted (R135). -/
theorem Gate.Lawful.liftFailClosed {g : Gate} (h : g.Lawful) (hb : g.barrier ≠ .faultClosed) :
    ({ g with failClosedOrder := false } : Gate).Lawful := by
  refine ⟨h.1, ?_⟩
  have hline := h.2
  unfold Gate.line at *
  split
  next hany => rwa [if_pos hany] at hline
  next hany =>
    rw [if_neg hany] at hline
    split
    next hhold => rwa [if_pos hhold] at hline
    next hhold =>
      rw [if_neg hhold] at hline
      split at hline
      · exact absurd (List.mem_singleton.mp hline) hb
      · exact hline

theorem State.Ruled.liftFailClosed (h : s.Ruled u) : s.Ruled u.liftFailClosed := by
  dsimp only [State.liftFailClosed]
  split
  next hb =>
    have hmoves := State.beginChecking_moves { u with gate := { u.gate with failClosedOrder := false } }
    refine h.settled (fun sd => (hmoves.drives.load sd).le) fun hl => ?_
    have hany := hl.reasons_none (by simp [hb])
    have hhold : ¬u.gate.holdOrder = true := fun hhold => by
      have hline := hl.2
      simp [Gate.line, hany, hhold, hb] at hline
    have hunordered : ({ u.gate with failClosedOrder := false } : Gate).Unordered := ⟨hany, Bool.eq_false_iff.mpr hhold, rfl⟩
    have hset := hmoves.settles hunordered
    exact ⟨hset.hold, hset.order, hset.lawful⟩
  next hb => exact h.setGate (fun _ => Nat.le_refl _) rfl fun hl => hl.liftFailClosed hb

/-- A hold that is given freezes any barrier but one in free-open (R151, R160). -/
theorem State.giveHold_settles (s : State) (hl : s.gate.Lawful) :
    State.Settles { s with gate := { s.gate with holdOrder := true } } s.giveHold := by
  have hcancelled := State.Eases.withdrawn (.refl { s with gate := { s.gate with holdOrder := true } }) .holdOrFailClosed
  dsimp only [State.giveHold]
  generalize State.withdrawAll _ _ = v at hcancelled
  have hreasons : v.inFreeOpen = s.gate.reasons.any := congrArg (·.reasons.any) hcancelled.posture
  have horder : v.gate.holdOrder = true := (congrArg Gate.holdOrder hcancelled.posture :)
  refine hcancelled.settles (State.Settles.eased (u := if v.inFreeOpen then v else v.enterBarrier .held none none) ?_
    (State.Eases.abortBoth (.refl _)))
  split
  next hfree =>
    have hlawful : ({ s.gate with holdOrder := true } : Gate).Lawful := by
      refine ⟨hl.1, ?_⟩
      have hline : ({ s.gate with holdOrder := true } : Gate).line = s.gate.line := by simp [Gate.line, ← hreasons, hfree]
      exact hline.symm ▸ hl.2
    exact ⟨rfl, rfl, hlawful.congr hcancelled.posture⟩
  next hfree =>
    have hany : ¬v.gate.reasons.any = true := hfree
    exact v.enterBarrier_settles (by decide) (by simp [Gate.line, hany, horder])

theorem State.giveHold_load (s : State) (sd : Side) : s.giveHold.gate.load sd ≤ s.gate.load sd := by
  have hcancelled := State.Eases.withdrawn (.refl { s with gate := { s.gate with holdOrder := true } }) .holdOrFailClosed
  dsimp only [State.giveHold]
  generalize State.withdrawAll _ _ = v at hcancelled
  have hentered : (if v.inFreeOpen then v else v.enterBarrier .held none none).gate.load sd ≤ s.gate.load sd := by
    split <;> exact hcancelled.load sd
  exact ((State.Eases.abortBoth (.refl _)).load sd).trans hentered

/-- A hold that is lifted lets the next line govern (R135, R151). -/
theorem State.liftHold_settles (s : State) (hl : s.gate.Lawful) :
    State.Settles { s with gate := { s.gate with holdOrder := false } } s.liftHold := by
  have hline := hl.2
  dsimp only [State.liftHold]
  split
  next hb =>
    have hany := hl.reasons_none (by simp [hb])
    split
    next hclosed => exact State.enterBarrier_settles _ (by decide) (by simp [Gate.line, hany, hclosed])
    next hclosed =>
      exact (State.beginChecking_moves { s with gate := { s.gate with holdOrder := false } }).settles
        ⟨hany, rfl, Bool.eq_false_iff.mpr hclosed⟩
  next hb =>
    refine ⟨rfl, rfl, hl.1, ?_⟩
    unfold Gate.line at *
    split
    next hany => rwa [if_pos hany] at hline
    next hany =>
      rw [if_neg hany] at hline
      split at hline
      · exact absurd (List.mem_singleton.mp hline) hb
      · exact hline

theorem State.liftHold_load (s : State) (sd : Side) : s.liftHold.gate.load sd ≤ s.gate.load sd := by
  dsimp only [State.liftHold]
  repeat' split
  · exact Nat.le_refl _
  · exact ((State.beginChecking_moves { s with gate := { s.gate with holdOrder := false } }).drives.load sd).le
  · exact Nat.le_refl _

end Orders

/-! The fault classes (R136, R155, R156). -/

section Faults

variable {s u : State}

theorem State.Ruled.recompute (h : s.Ruled u) : s.Ruled u.recompute := by
  have hjoined := State.Ruled.ite (c := (u.wants .failFree && !u.gate.reasons.fault) = true) (h.joinReason (r := .fault)) h
  have hgiven := fun {c : Prop} [Decidable c] => State.Ruled.ite (c := c) hjoined.giveFailClosed hjoined
  have hlifted := fun {c d : Prop} [Decidable c] [Decidable d] =>
    State.Ruled.ite (c := c) (hgiven (c := d)).liftFailClosed (hgiven (c := d))
  exact .ite hlifted.leaveReason hlifted

theorem State.Ruled.reordered {c : FaultClass} {raised : Bool} (h : s.Ruled u) :
    s.Ruled (((u.setCond c raised).recompute).faultNews c raised) :=
  (State.Ruled.recompute (u := u.setCond c raised) (h.frame rfl)).eased (State.Eases.faultNews (.refl _))

theorem State.Ruled.raiseOrdered {c : FaultClass} (h : s.Ruled u) : s.Ruled (u.raiseOrdered c) :=
  .ite h h.reordered

theorem State.Ruled.clearOrdered {c : FaultClass} (h : s.Ruled u) : s.Ruled (u.clearOrdered c) :=
  .ite h.reordered h

/-- A barrier that is distrusted keeps to its line: only free-open looks at it (R135). -/
theorem Gate.Lawful.distrusted {g : Gate} (h : g.Lawful) (hb : g.barrier ≠ .freeOpen) : ({ g with unverified := true } : Gate).Lawful := by
  refine ⟨h.1, ?_⟩
  have hline := h.2
  unfold Gate.line at *
  split
  next hany =>
    rw [if_pos hany] at hline
    split at hline
    · simpa using hline
    · exact absurd (List.mem_singleton.mp hline) hb
  next hany => rwa [if_neg hany] at hline

/-- A travel that a fault stops leaves the barrier where it is, stopped (R136, R155). -/
theorem Gate.Lawful.stopped {g : Gate} (h : g.Lawful) (ht : g.travel.isSome = true) :
    ({ g with unverified := true, drive := .stop, travel := none } : Gate).Lawful := by
  have hmoving := h.1.2.2.1 ht
  have hfree : g.barrier ≠ .freeOpen := fun hb => by simp [hb] at hmoving
  obtain ⟨⟨howner, hphase, -, hdelay, -⟩, hline⟩ := h.distrusted hfree
  exact ⟨⟨howner, hphase, nofun, hdelay, .inr (.inr ⟨rfl, rfl, hmoving.imp_right (Or.imp_right And.left)⟩)⟩, hline⟩

theorem State.Ruled.distrustBarrier (h : s.Ruled u) : s.Ruled u.distrustBarrier := by
  unfold State.distrustBarrier
  dsimp only
  split
  next n hn => exact h.setGate (fun _ => Nat.le_refl _) rfl fun hl => hl.stopped (by rw [hn]; rfl)
  split
  next hb =>
    refine h.settled (fun _ => Nat.le_refl _) fun hl => ?_
    have hany : u.gate.reasons.any = true := by
      by_contra hany
      have hline := hl.2
      rw [Gate.line, if_neg hany, hb] at hline
      repeat' split at hline
      all_goals simp [servingStates] at hline
    have hset := State.enterBarrier_settles { u with gate := { u.gate with unverified := true } } (b := .faultOpen) (by decide)
      (by simp [Gate.line, hany])
    exact ⟨hset.hold, hset.order, hset.lawful⟩
  next hb => exact h.setGate (fun _ => Nat.le_refl _) rfl fun hl => hl.distrusted hb

theorem State.Ruled.driveFaultActive (h : s.Ruled u) : s.Ruled u.driveFaultActive :=
  .ite h h.distrustBarrier.raiseOrdered

theorem State.Ruled.travelFails (h : s.Ruled u) : s.Ruled u.travelFails := by
  unfold State.travelFails
  split
  · exact h.distrustBarrier.raiseOrdered
  · exact h

end Faults

/-! Aisle sensing (R119 to R125). -/

section Inputs

variable {s u : State}

theorem State.Ruled.stuckExpires {z : Zone} (h : s.Ruled u) : s.Ruled (u.stuckExpires z) := by
  unfold State.stuckExpires
  split
  · exact h
  · have hmarked : s.Ruled (u.markedStuck z) := h.frame rfl
    exact .ite hmarked hmarked.raiseOrdered

theorem State.Ruled.settleZones {zs : List Zone} (h : s.Ruled u) : s.Ruled (u.settleZones zs) := by
  induction zs generalizing u with
  | nil => exact h
  | cons z zs ih =>
    unfold State.settleZones
    split
    · exact ih h
    · have hsettled : s.Ruled { u with aisle := u.aisle.settle z.input } := h.frame rfl
      exact ih (.ite (hsettled.frame rfl) (.ite (State.Ruled.clearOrdered (hsettled.frame rfl)) (hsettled.frame rfl)))

theorem State.Ruled.zonesSettle {zs : List Zone} (h : s.Ruled u) : s.Ruled (u.zonesSettle zs) := by
  refine .ite ?_ h
  exact State.Ruled.handPattern (State.Ruled.takeReports (h.settleZones.frame rfl))

theorem State.Ruled.equipmentSettles {i : Input} (h : s.Ruled u) : s.Ruled (u.equipmentSettles i) := by
  have hsettled : s.Ruled { u with aisle := u.aisle.settle i } := h.frame rfl
  unfold State.equipmentSettles
  split
  · exact h
  · cases i with
    | openLimit => exact hsettled.openLimitChanged
    | closedLimit => exact hsettled.closedLimitChanged
    | driveFault => exact .ite hsettled.driveFaultActive hsettled
    | emergency => exact hsettled.emergencyChanged
    | za | zm | zb => exact hsettled

theorem State.Ruled.debounced {g : DebounceGroup} (h : s.Ruled u) : s.Ruled (u.debounced g) := by
  unfold State.debounced
  split
  · exact h.zonesSettle
  split
  · exact h.zonesSettle
  · exact h.equipmentSettles

end Inputs

/-! The barrier hold (R160). -/

section Hold

variable {s : State}

theorem State.enterBarrierHold_ruled (s : State) : s.Ruled s.enterBarrierHold where
  queues hq := hq.of_load (State.giveHold_load { s with sup := { s.sup with barrierHold := true } })
  barrier hl := (State.giveHold_settles { s with sup := { s.sup with barrierHold := true } } hl).lawful
  hold hl _ := by
    have hset := State.giveHold_settles { s with sup := { s.sup with barrierHold := true } } hl
    exact hset.hold.trans hset.order.symm

theorem State.raiseOrdered_barrierHold (s : State) (c : FaultClass) : (s.raiseOrdered c).sup.barrierHold = s.sup.barrierHold := by
  by_cases h : s.sup.conds.get c = .clear
  · exact congrArg Footing.barrierHold (s.raiseOrdered_footing h)
  · rw [s.raiseOrdered_raised h]

theorem State.driveFaultActive_barrierHold (s : State) : s.driveFaultActive.sup.barrierHold = s.sup.barrierHold := by
  unfold State.driveFaultActive
  split
  · rfl
  · rw [State.raiseOrdered_barrierHold]
    exact congrArg Footing.barrierHold s.distrustBarrier_footing

/-- The hold has ended at supervision, and the drive-fault line is seen again (R160). -/
def State.watching (s : State) : State :=
  let u := { s with sup := { s.sup with barrierHold := false } }
  if u.aisle.active .driveFault then u.driveFaultActive else u

theorem State.watching_barrierHold (s : State) : s.watching.sup.barrierHold = false := by
  unfold State.watching
  dsimp only
  split
  · rw [State.driveFaultActive_barrierHold]
  · rfl

/-- The drive-fault line that is ACTIVE as the hold ends finds the gate still under its order (R160). -/
theorem State.leaveBarrierHold_ruled (s : State) : s.Ruled s.leaveBarrierHold := by
  have hfault : State.Ruled { s with sup := { s.sup with barrierHold := false } } s.watching :=
    .ite (State.Ruled.driveFaultActive (.refl _)) (.refl _)
  have hset (hl : s.gate.Lawful) :=
    State.liftHold_settles { s.watching with aisle := s.watching.aisle.startStuck } (hfault.barrier hl)
  refine ⟨fun hq => (hfault.queues hq).of_load ?_, fun hl => (hset hl).lawful, fun hl _ => ?_⟩
  · exact State.liftHold_load { s.watching with aisle := s.watching.aisle.startStuck }
  · exact (hset hl).hold.trans (s.watching_barrierHold.trans (hset hl).order.symm)

end Hold

end Sys2Proof.Machine
end

section
/-! The laws of the queues and of the barrier over the sides and the transaction engine (R2 to R49, R93, R94). Only a start takes a
reservation, and only a fill lets an authorisation join. -/

namespace Sys2Proof.Machine

/-! What a transaction does without a reservation or a fill (R5, R23, R29 to R31, R34, R36, R41, R42, R49). -/

section Eases

variable {s u : State} {sd : Side} {card : CardId}

theorem State.Eases.refuseHail {o : TapOutcome} {reason : Option CloneReason} {tariff : Option Nat} (h : s.Eases u) :
    s.Eases (u.refuseHail sd card o reason tariff) :=
  h.frame rfl

theorem State.Eases.startTx {instant : Nat} (h : s.Eases u) : s.Eases (u.startTx sd card instant) :=
  .ite (State.Eases.refuseHail (State.Eases.frame (h.giveUp (sd := sd)) rfl)) (h.frame rfl)

theorem State.Eases.collide (h : s.Eases u) : s.Eases (u.collide sd) :=
  .ite (h.frame rfl) (h.frame rfl)

theorem State.Eases.finishMark {capture : CaptureResult} (h : s.Eases u) : s.Eases (u.finishMark sd capture) := by
  unfold State.finishMark
  split
  · exact h
  split
  · exact h
  · exact State.Eases.finishTx (State.Eases.captureHold (h.appendReserved.frame rfl))

theorem State.Eases.cardLost (h : s.Eases u) : s.Eases (u.cardLost sd) := by
  unfold State.cardLost
  split
  · exact h.detach.finishTx
  · exact h.finishMark
  · exact h.finishTx
  · exact h.finishTx
  · exact h.finishTx
  · exact h.finishTx
  · exact h

theorem State.Eases.ask {f : LinkFrame} (h : s.Eases u) : s.Eases (u.ask sd f) :=
  .ite (h.frame rfl) h.cardLost

theorem State.Eases.captureVerdict {o : TapOutcome} {reason : Option CloneReason} (h : s.Eases u) :
    s.Eases (u.captureVerdict sd o reason) :=
  .ite (State.Eases.ask (State.Eases.releasePin (h.frame rfl))) h.finishTx

theorem State.Eases.enterWriting {target : SlotNo} {record : CardRecord} (h : s.Eases u) : s.Eases (u.enterWriting sd target record) :=
  State.Eases.ask (State.Eases.releasePin (h.frame rfl))

theorem State.Eases.supersede {e : InDoubt} {instant found : Nat} (h : s.Eases u) : s.Eases (u.supersede sd e instant found) :=
  have hgone : s.Eases (((u.removeEntry e.card).appendReserved (some instant) (some e.side)
      (.inDoubtSuperseded e.card e.oldCounter e.record e.fare.kind e.fare.charge e.tariff found)).mapTx sd
        fun t => { t with attached := none }) :=
    State.Eases.frame (State.Eases.appendReserved (u := u.removeEntry e.card) (h.frame rfl)) rfl
  .ite (hgone.frame rfl) hgone.finishTx

theorem State.Eases.rewrite {e : InDoubt} (h : s.Eases u) : s.Eases (u.rewrite sd e) := by
  unfold State.rewrite
  split
  · exact h.finishTx
  · exact State.Eases.enterWriting (h.frame rfl)

theorem State.Eases.enterPricing (h : s.Eases u) : s.Eases (u.enterPricing sd) :=
  State.Eases.askPricing (h.frame rfl)

theorem State.Eases.commitPoint {x : Transaction} {record : CardRecord} {f : FareRecord} {target : SlotNo} (h : s.Eases u) :
    s.Eases (u.commitPoint sd x record f target) := by
  unfold State.commitPoint
  split
  · exact h.finishTx
  · exact .ite h.finishTx (State.Eases.enterWriting (State.Eases.setAlternate (h.frame rfl)))

theorem State.Eases.claimedArrives {ok : Bool} {area : StaticArea} {blocked : Bool} (h : s.Eases u) :
    s.Eases (u.claimedArrives sd ok area blocked) := by
  unfold State.claimedArrives
  split
  · exact .ite (State.Eases.ask (h.frame rfl)) h
  · exact h.frame rfl

end Eases

/-! The timers of the sides, carrier and the guard (R2 to R8, R14, R29). -/

section Timers

variable {s u : State} {sd : Side}

theorem State.Eases.settleExpires (h : s.Eases u) : s.Eases (u.settleExpires sd) := by
  unfold State.settleExpires
  split
  · exact h
  · exact h.linkSearching

theorem State.Eases.summonsExpires (h : s.Eases u) : s.Eases (u.summonsExpires sd) := by
  dsimp only [State.summonsExpires]
  split
  · exact h
  · exact .ite (h.frame rfl) (h.frame rfl)

theorem State.Eases.idleExpires (h : s.Eases u) : s.Eases (u.idleExpires sd) := by
  dsimp only [State.idleExpires]
  split
  · exact h
  · exact h.frame rfl

theorem State.Eases.holdoffExpires (h : s.Eases u) : s.Eases (u.holdoffExpires sd) := by
  dsimp only [State.holdoffExpires]
  split
  · exact h
  · exact .ite (h.frame rfl) (h.frame rfl)

theorem State.Eases.carrierLost (h : s.Eases u) : s.Eases (u.carrierLost sd) :=
  have hdown := State.Eases.raisePlain (c := sd.readerClass) (State.Eases.linkDown (sd := sd)
    (u := u.setReader sd { u.reader sd with carrier := false, needsSettle := u.sup.readerHold.get sd }) (h.frame rfl))
  .ite (.ite hdown.cardLost hdown) h

theorem State.Eases.carrierReturns (h : s.Eases u) : s.Eases (u.carrierReturns sd) :=
  have hback := State.Eases.clearPlain (c := sd.readerClass) (u := u.setReader sd { u.reader sd with carrier := true }) (h.frame rfl)
  .ite h (.ite hback (hback.frame rfl))

theorem State.Eases.answerExpires (h : s.Eases u) : s.Eases (u.answerExpires sd) := by
  dsimp only [State.answerExpires]
  split
  · exact h
  · exact .ite (h.frame rfl) (State.Eases.cardLost (h.frame rfl))

theorem State.Eases.guardExpires (h : s.Eases u) : s.Eases (u.guardExpires sd) := by
  unfold State.guardExpires
  split
  · exact h
  · exact h.abortTx

end Timers

/-! The hail (R4, R6, R23, R24, R131). -/

section Hail

variable {s u : State} {sd : Side} {card : CardId}

theorem State.load_hold_le (s : State) (sd sd' : Side) :
    (s.setReservation sd .held).gate.load sd' ≤ s.gate.load sd' + if sd' = sd then 1 else 0 := by
  simp only [Gate.load, State.setReservation, PerSide.get_set]
  split
  · exact Nat.add_le_add_right (Nat.le_add_right _ _) 1
  · exact Nat.le_refl _

/-- Check 5 has left room for the reservation (R23, R131). -/
theorem State.Ruled.reserveAndStart {instant : Nat} (h : s.Ruled u) : s.Ruled (u.reserveAndStart sd card instant) := by
  have hrefused (v : State) (hv : s.Ruled v) {o : TapOutcome} : s.Ruled (v.refuseHail sd card o none none) :=
    hv.eased (State.Eases.refuseHail (.refl v))
  unfold State.reserveAndStart
  split
  · exact hrefused u h
  next hroom =>
    have hheld : s.Ruled (u.setReservation sd .held) := by
      refine ⟨fun hq => ?_, fun hl => (h.barrier hl).congr rfl, h.hold⟩
      rw [Gate.queueLaw_iff]
      intro sd'
      refine (u.load_hold_le sd sd').trans ?_
      split
      next hsd => exact hsd ▸ Nat.lt_of_not_le hroom
      · exact (Gate.queueLaw_iff _).mp (h.queues hq) sd'
    exact .ite ((State.Ruled.frame (t := (u.setReservation sd .held).reserve) hheld rfl).eased (State.Eases.startTx (.refl _)))
      (hrefused _ (hheld.eased (State.Eases.giveUp (.refl _))))

theorem State.Ruled.openTap (h : s.Ruled u) : s.Ruled (u.openTap sd card) := by
  have hswapped := h.eased (State.Eases.swapTest (.refl u))
  refine .ite ?_ (hswapped.frame rfl)
  split
  · exact hswapped.frame rfl
  · exact hswapped.reserveAndStart

theorem State.Ruled.hailEvent (h : s.Ruled u) : s.Ruled (u.hailEvent sd card) :=
  .ite (.ite (h.frame rfl) h.openTap) (h.frame rfl)

theorem State.Ruled.judgeWindow {w : HailWindow} (h : s.Ruled u) : s.Ruled (u.judgeWindow sd w) := by
  have hcollided := h.eased (State.Eases.collide (sd := sd) (.refl u))
  refine .ite hcollided ?_
  split
  · exact h
  · exact .ite (.ite (h.frame rfl) (.ite (State.Ruled.hailEvent (h.frame rfl)) (h.frame rfl))) hcollided

end Hail

/-! The fills, and what leads to them (R32, R33, R35, R39, R46). -/

section Fills

variable {s u : State} {sd : Side}

theorem State.Ruled.finishTx {f : Finish} (h : s.Ruled u) : s.Ruled (u.finishTx sd f) :=
  h.eased (State.Eases.finishTx (.refl u))

theorem State.Ruled.captureVerdict {o : TapOutcome} {reason : Option CloneReason} (h : s.Ruled u) :
    s.Ruled (u.captureVerdict sd o reason) :=
  h.eased (State.Eases.captureVerdict (.refl u))

theorem State.Ruled.settleWrite {f : FareRecord} {o : TapOutcome} (h : s.Ruled u) : s.Ruled (u.settleWrite sd f o) := by
  unfold State.settleWrite
  split
  · exact h
  next x _ =>
    have hrecorded : u.Eases ((u.removeEntry x.card).appendReserved (some f.instant) (some f.side) (.fare f)) :=
      State.Eases.appendReserved (u := u.removeEntry x.card) (State.Eases.frame (.refl u) rfl)
    have hfilled := (h.eased hrecorded).fill (sd := sd) (origin := .card) (card := x.card) (seq := some u.journal.next)
    exact State.Ruled.finishTx (hfilled.frame rfl)

theorem State.Ruled.grantStaff (h : s.Ruled u) : s.Ruled (u.grantStaff sd) := by
  unfold State.grantStaff
  split
  · exact h
  · exact h.fill.finishTx

theorem State.Ruled.grantRepeat {expired : Bool} {r : CardRecord} (h : s.Ruled u) : s.Ruled (u.grantRepeat sd expired r) := by
  unfold State.grantRepeat
  split
  · exact h
  · exact State.Ruled.finishTx (.ite (h.fill.eased (State.Eases.repeatGranted (.refl _))) h.fill)

theorem State.Ruled.resolve {e : InDoubt} {x : Transaction} {n : SlotNo} {r : CardRecord} (h : s.Ruled u) :
    s.Ruled (u.resolve sd e x n r) := by
  have hattached : s.Ruled (u.mapEntry e.card fun e => { e with attached := true }) := h.frame rfl
  have hunreserved {v : State} (hv : s.Ruled v) : s.Ruled v.unreserve := hv.frame rfl
  have hmapped {v : State} {f : Transaction → Transaction} (hv : s.Ruled v) : s.Ruled (v.mapTx sd f) := hv.frame rfl
  have hjudged := hmapped (f := fun t => { t with attached := some e.card, journalHeld := false })
    (State.Ruled.ite (c := x.journalHeld = true) (hunreserved hattached) hattached)
  dsimp only [State.resolve]
  split
  · exact hjudged.settleWrite
  · exact hjudged.eased (State.Eases.rewrite (.refl _))
  · exact hjudged.eased (State.Eases.supersede (.refl _))

theorem State.Ruled.enterScreening (h : s.Ruled u) : s.Ruled (u.enterScreening sd) := by
  have hentered : s.Ruled (u.setCtxState sd .screening) := h.frame rfl
  dsimp only [State.enterScreening]
  split
  · exact hentered
  split
  · exact .ite hentered.resolve hentered.finishTx
  · exact hentered

theorem State.Ruled.checkProduct {x : Transaction} {area : StaticArea} (h : s.Ruled u) : s.Ruled (u.checkProduct sd x area) := by
  refine .ite h.finishTx ?_
  split
  · exact State.Ruled.finishTx (h.frame rfl)
  · exact State.Ruled.enterScreening (h.frame rfl)

theorem State.Ruled.verify (h : s.Ruled u) : s.Ruled (u.verify sd) := by
  unfold State.verify
  split
  · exact h
  split
  · exact h
  split
  · exact h.finishTx
  refine .ite ?_ h.finishTx
  split
  · exact h.finishTx
  · exact h.captureVerdict
  · exact State.Ruled.checkProduct (h.frame rfl)

theorem State.Ruled.actOnVerdict {r : CardRecord} {v : Verdict} (h : s.Ruled u) : s.Ruled (u.actOnVerdict sd r v) := by
  cases v with
  | serve => exact h.eased (State.Eases.enterPricing (.refl u))
  | refuse o => exact h.finishTx
  | capture o reason => exact h.captureVerdict
  | repeated expired => exact h.grantRepeat

theorem State.Ruled.screen1 (h : s.Ruled u) : s.Ruled (u.screen1 sd) := by
  unfold State.screen1
  split
  · exact h
  split
  · exact .ite (h.eased (State.Eases.enterPricing (.refl u))) (.ite (h.frame rfl) (State.Ruled.actOnVerdict (h.frame rfl)))
  · exact h

theorem State.Ruled.screenEvent (h : s.Ruled u) : s.Ruled (u.screenEvent sd) :=
  .ite h.screen1 h

theorem State.Ruled.screenWaiting (h : s.Ruled u) : s.Ruled (u.screenWaiting sd) :=
  .ite (State.Ruled.screen1 (h.frame rfl)) h

theorem State.Ruled.actOnPrice {x : Transaction} {p : PricingResult} (h : s.Ruled u) : s.Ruled (u.actOnPrice sd x p) := by
  cases p with
  | refuse o => exact h.finishTx
  | staff => exact h.grantStaff
  | write record f =>
    dsimp only [State.actOnPrice]
    split
    · exact h.eased (State.Eases.commitPoint (State.Eases.frame (.refl u) rfl))
    · exact h

theorem State.Ruled.takeWaiting (h : s.Ruled u) : s.Ruled u.takeWaiting :=
  h.eased (State.Eases.takeWaiting (.refl u))

theorem State.Ruled.pricingEnds (h : s.Ruled u) : s.Ruled u.pricingEnds := by
  have htaken : s.Ruled { u with fares := { u.fares with current := none } } := h.frame rfl
  unfold State.pricingEnds
  split
  · exact h
  dsimp only
  split
  · exact htaken.takeWaiting
  split
  · exact htaken.takeWaiting
  · exact htaken.actOnPrice.takeWaiting

theorem State.Ruled.slotArrives {ok turn : Bool} {no : SlotNo} {w : RawRecord} (h : s.Ruled u) :
    s.Ruled (u.slotArrives sd ok turn no w) := by
  unfold State.slotArrives
  split
  · refine .ite ?_ h
    cases no with
    | zero => exact h.eased (State.Eases.ask (State.Eases.frame (.refl u) rfl))
    | one => exact State.Ruled.verify (h.frame rfl)
  · exact h.frame rfl

theorem State.Ruled.doneAnswered (h : s.Ruled u) : s.Ruled (u.doneAnswered sd) := by
  have hended : s.Ruled (u.setReader sd (u.reader sd).endExchange) := h.frame rfl
  dsimp only [State.doneAnswered]
  split
  · split
    · exact hended.settleWrite
    · exact hended
  · exact hended.eased (State.Eases.finishMark (.refl _))
  · exact hended

theorem State.Ruled.doneArrives {ok turn : Bool} (h : s.Ruled u) : s.Ruled (u.doneArrives sd ok turn) := by
  unfold State.doneArrives
  split
  · exact .ite h.doneAnswered h
  · exact .ite h.doneAnswered h
  · exact h.frame rfl

end Fills

end Sys2Proof.Machine
end

section
/-! The laws of the queues and of the barrier over the requests, the port's turns, the starts, the commands and the steps (R131, R134, R135,
R175, R182). -/

namespace Sys2Proof.Machine

/-! The requests (R175). -/

section Requests

variable {s : State}

theorem State.Ruled.answer_ite {c : Prop} [Decidable c] {x y : State × Answer} (hx : s.Ruled x.1) (hy : s.Ruled y.1) :
    s.Ruled (if c then x else y).1 := by
  split
  · exact hx
  · exact hy

/-- A parameter of the gate is no part of the laws. -/
theorem State.setParameter_ruled (param input v : Nat) : s.Ruled (s.setParameter param input v).1 := by
  have hgate {g : Gate} (hload : ∀ sd, g.load sd ≤ s.gate.load sd) (hhold : g.holdOrder = s.gate.holdOrder)
      (hlaw : s.gate.Lawful → g.Lawful) : s.Ruled { s with gate := g } := State.Ruled.setGate (.refl s) hload hhold hlaw
  have hs {t : State} (ht : t.standing = s.standing) : s.Ruled t := State.Ruled.frame (.refl s) ht
  have hdebounce : s.Ruled (s.setDebounce input v).1 := by
    unfold State.setDebounce
    split <;> exact hs rfl
  have hlevel : s.Ruled (s.setActiveLevel input v).1 := by
    unfold State.setActiveLevel
    split <;> exact hs rfl
  unfold State.setParameter
  refine .answer_ite (hs rfl) (.answer_ite (hs rfl) (.answer_ite (hs rfl) (.answer_ite ?capture (.answer_ite hdebounce
    (.answer_ite hlevel (.answer_ite ?travel (.answer_ite ?delay (.answer_ite ?window (.answer_ite ?resume (hs rfl))))))))))
  case capture => split <;> exact hs rfl
  case travel | delay | window => exact hgate (fun _ => Nat.le_refl _) rfl id
  case resume =>
    split
    · exact hs rfl
    · exact hgate (fun _ => Nat.le_refl _) rfl id

theorem State.setAisleMode_ruled (code : Nat) : s.Ruled (s.setAisleMode code).1 := by
  unfold State.setAisleMode
  split
  · exact .refl s
  next m _ =>
    have hmode : s.Ruled { s with gate := { s.gate with mode := m } } := State.Ruled.setGate (.refl s) (fun _ => Nat.le_refl _) rfl id
    exact .answer_ite (.refl s) (hmode.frame rfl)

theorem State.setDirectionTable_ruled (entries : List Nat) : s.Ruled (s.setDirectionTable entries).1 := by
  unfold State.setDirectionTable
  split
  · exact .refl s
  · exact State.Ruled.setGate (.refl s) (fun _ => Nat.le_refl _) rfl id

/-- A manual authorisation joins a queue with room for it alone (R131, R153). -/
theorem State.commandGrant_ruled (sd : Side) : s.Ruled (s.commandGrant sd).1 := by
  unfold State.commandGrant
  refine .answer_ite (.refl s) ?_
  split
  · exact .refl s
  next hroom => exact State.Ruled.join (.refl s) fun _ => Nat.lt_of_not_le hroom

theorem State.gateCommand_ruled (code : Nat) : s.Ruled (s.gateCommand code).1 := by
  have hs := State.Ruled.refl s
  have hcancelled : s.Ruled s.cancelAll.delayEval := (hs.eased (State.Eases.cancelAll (.refl s))).delayEval
  exact .answer_ite hs.joinReason (.answer_ite (.answer_ite hs hs.leaveReason)
    (.answer_ite (State.commandGrant_ruled .a) (.answer_ite (State.commandGrant_ruled .b) (.answer_ite hcancelled hs))))

theorem State.serviceHold_ruled (target action : Nat) : s.Ruled (s.serviceHold target action).1 := by
  have hbarrier (enter : Bool) : s.Ruled (s.barrierHoldRequest enter).1 :=
    .answer_ite (.refl s) (.ite s.enterBarrierHold_ruled s.leaveBarrierHold_ruled)
  have hreader (sd : Side) (enter : Bool) : s.Ruled (s.readerHoldRequest sd enter).1 :=
    .answer_ite (.refl s) (.ite (State.Eases.enterReaderHold (.refl s)).ruled (State.Eases.leaveReaderHold (.refl s)).ruled)
  exact .answer_ite (.refl s) (.answer_ite (hbarrier _) (.answer_ite (hreader .a _) (.answer_ite (hreader .b _) (.refl s))))

theorem State.setFaultResponse_ruled (cls response : Nat) : s.Ruled (s.setFaultResponse cls response).1 := by
  unfold State.setFaultResponse
  split
  next c r _ _ =>
    have hresponse : s.Ruled (s.setResponse c r) := State.Ruled.frame (.refl s) (by cases c <;> rfl)
    exact .answer_ite hresponse.recompute (.refl s)
  · exact .refl s

theorem State.setClockRequest_ruled (d : DateTime) (force : Nat) : s.Ruled (s.setClockRequest d force).1 := by
  have hsetting (n : Nat) (forced : Bool) : s.Ruled (s.takeSetting n forced) := (State.Eases.takeSetting (.refl s)).ruled
  unfold State.setClockRequest
  refine .answer_ite ?_ (.refl s)
  split
  · exact .refl s
  split
  · exact hsetting _ _
  · exact .answer_ite (hsetting _ _) (.answer_ite (hsetting _ _) (.refl s))

theorem State.setNoticeMask_ruled (codes : List Nat) : s.Ruled (s.setNoticeMask codes).1 := by
  unfold State.setNoticeMask
  split
  · exact .refl s
  next masks _ =>
    have hmasked : s.Eases { s with port := { s.port with masked := masks } } := State.Eases.frame (.refl s) rfl
    exact hmasked.unmaskFrom.unmaskFrom.unmaskFrom.unmaskFrom.ruled

theorem State.journalRelease_ruled (n : Nat) : s.Ruled (s.journalRelease n).1 := by
  have hfreed (k : Nat) : s.Ruled (s.freeRecords k) := (State.Eases.freeRecords (.refl s)).ruled
  exact .answer_ite (.refl s) (.answer_ite (hfreed _) (hfreed _))

/-- Whatever the request, its owner keeps the laws. -/
theorem State.carry_ruled (r : Request) : s.Ruled (s.carry r).1 := by
  have hs := State.Ruled.refl s
  cases r with
  | setParameter param input v => exact State.setParameter_ruled param input v
  | setAisleMode code => exact State.setAisleMode_ruled code
  | setDirectionTable entries => exact State.setDirectionTable_ruled entries
  | gateCommand code => exact State.gateCommand_ruled code
  | serviceHold target action => exact State.serviceHold_ruled target action
  | setFaultResponse cls response => exact State.setFaultResponse_ruled cls response
  | clearFault cls => exact .answer_ite hs (.answer_ite hs (.answer_ite hs hs.clearOrdered))
  | setClock d force => exact State.setClockRequest_ruled d force
  | setNoticeMask codes => exact State.setNoticeMask_ruled codes
  | journalRelease n => exact State.journalRelease_ruled n
  | _ =>
    refine State.Ruled.frame (.refl s) ?_
    dsimp only [State.carry, answered, State.getStatus, State.setIdentity, State.setLampPriority, State.tariffLoad, State.tariffActivate,
      State.tariffDiscard, State.keyLoad, State.keyErase, State.getClock, State.denylistUpdate, State.denylistBegin, State.denylistPage,
      State.denylistEnd, State.denylistQuery, State.holdRelease, State.holdListRead, State.sightingRequest, State.stationFreePeriod,
      State.journalRead, State.restartRequest]
    repeat' split
    all_goals rfl

end Requests

/-! The port's turns (R106, R173 to R176). -/

section Turns

variable {s u : State}

theorem State.Ruled.serve {q : Queued} (h : s.Ruled u) : s.Ruled (u.serve q) := by
  have hcarry := h.trans (u.carry_ruled (r := q.request))
  unfold State.serve
  split
  next t a ht => exact State.Ruled.frame (u := t) (by rwa [ht] at hcarry) rfl
  next t ht => exact State.Ruled.frame (u := t) (by rwa [ht] at hcarry) rfl

theorem State.Ruled.settlePort {n : Nat} (h : s.Ruled u) : s.Ruled (u.settlePort n) := by
  induction n generalizing u with
  | zero => exact h.frame rfl
  | succ n ih =>
    unfold State.settlePort
    split
    · exact h.frame rfl
    · exact ih (State.Ruled.serve (h.frame rfl))

theorem State.Ruled.request {tag : Byte} {r : Request} (h : s.Ruled u) : s.Ruled (u.request tag r) :=
  State.Ruled.settlePort (h.frame rfl)

theorem State.Ruled.takeByte {b : Byte} {stopBit : Bool} (h : s.Ruled u) : s.Ruled (u.takeByte b stopBit) := by
  unfold State.takeByte
  split
  · exact h.frame rfl
  · exact State.Ruled.request (h.frame rfl)

theorem State.Ruled.gapExpires (h : s.Ruled u) : s.Ruled u.gapExpires := by
  unfold State.gapExpires
  split
  · exact h
  · exact h.frame rfl

theorem State.Ruled.completeApply (h : s.Ruled u) : s.Ruled u.completeApply := by
  unfold State.completeApply
  split
  · exact .ite (h.frame rfl) (h.frame rfl)
  · exact h

theorem State.Ruled.listSwap (h : s.Ruled u) : s.Ruled u.listSwap := by
  have hended {v : State} (hv : s.Ruled v) : s.Ruled v.endReply := by
    unfold State.endReply
    split
    · exact hv
    · exact .ite (hv.frame rfl) hv
  have hmarked : s.Ruled (({ u with screen := u.screen.swapList }.ordinaryMark .a).ordinaryMark .b) := h.frame rfl
  exact .ite (hended hmarked.screenWaiting.screenWaiting).settlePort (h.frame rfl)

end Turns

/-! The starts (R182). -/

section Starts

variable {s u : State}

/-- The gate of a start has empty queues, no order and a barrier in CHECKING (R131, R134). -/
theorem State.mainReset_ruled (s u : State) : u.Ruled s.mainReset where
  queues _ := ⟨Nat.zero_le _, Nat.zero_le _⟩
  barrier _ := by
    refine ⟨⟨by simp [State.mainReset, Gate.restart], by simp [State.mainReset, Gate.restart], nofun, nofun, .inr (.inl rfl)⟩, ?_⟩
    have hchecking : BarrierState.checking ∈ servingStates := by decide
    exact hchecking
  hold _ _ := rfl

theorem Gate.Unordered.congr {g h : Gate} (hg : g.Unordered) (hp : h.posture = g.posture) : h.Unordered :=
  have hposture : h.posture.Unordered := hp ▸ hg
  hposture

/-- The first barrier state is that of the line that governs (R134, R140, R149). -/
theorem State.Ruled.startBarrier (h : s.Ruled u) (hu : u.gate.Unordered) : s.Ruled u.startBarrier := by
  unfold State.startBarrier
  split
  · refine h.settled (State.enterFreeOpen_load _ _) fun _ => ?_
    have hset := State.enterFreeOpen_settles (reason := .emergency)
      (s := { u with gate := { u.gate with reasons := { u.gate.reasons with emergency := true } } }) rfl
    exact ⟨hset.hold, hset.order, hset.lawful⟩
  · exact h.trans (u.beginChecking_moves.drives.ruled fun _ => ⟨hu, u.beginChecking_moves⟩)

theorem State.Ruled.startReader (h : s.Ruled u) (sd : Side) : s.Ruled (u.startReader sd) :=
  .ite h (h.eased (State.Eases.refl u).linkDown.raisePlain)

theorem State.Ruled.raisePlain {c : FaultClass} (h : s.Ruled u) : s.Ruled (u.raisePlain c) :=
  h.eased (State.Eases.refl u).raisePlain

theorem State.Ruled.startFaults (h : s.Ruled u) : s.Ruled u.startFaults := by
  have hdrive := State.Ruled.ite (c := u.aisle.active .driveFault = true) h.driveFaultActive h
  have hreaders := (hdrive.startReader .a).startReader .b
  have hclock := fun {c : Prop} [Decidable c] => State.Ruled.ite (c := c) (hreaders.raisePlain (c := .clock)) hreaders
  have htariff := fun {c d : Prop} [Decidable c] [Decidable d] =>
    State.Ruled.ite (c := c) (hclock (c := d)) ((hclock (c := d)).raisePlain (c := .tariff))
  exact .ite (htariff.eased (State.Eases.refl _).raiseJournal) htariff

/-- What the start tells before its barrier state is chosen moves nothing of the gate. -/
theorem State.startTold_eases (s : State) (cause : Option StartCause) (kept : Nat) (abandoned : Bool) :
    s.Eases ((s.startRecord cause kept abandoned).startedNotice cause kept abandoned).startLow := by
  have hrecord : s.Eases (s.startRecord cause kept abandoned) := by
    unfold State.startRecord
    split
    · exact State.Eases.frame (.refl s) rfl
    · exact .ite (State.Eases.frame (.refl s) rfl) (.refl s)
  have hnotice : s.Eases ((s.startRecord cause kept abandoned).startedNotice cause kept abandoned) := hrecord.notify
  exact State.Eases.lowCheck (hnotice.frame rfl)

theorem State.Ruled.startWork {cause : Option StartCause} {abandoned : Bool} (h : s.Ruled u) (hu : u.gate.Unordered) :
    s.Ruled (u.startWork cause abandoned) := by
  have htold := u.startTold_eases cause u.doubt.entries.length abandoned
  have hworked := (h.eased htold).startBarrier (hu.congr htold.posture)
  have hmarked : s.Ruled { (State.startLow _).startBarrier.startFaults with markerValid := true } := hworked.startFaults.frame rfl
  exact hmarked.frame rfl

/-- A start leaves the gate lawful whatever it was before (R182). -/
theorem State.start_ruled (s : State) (cause : StartCause) : s.Ruled (s.start cause) := by
  have hordered (u : State) : u.mainReset.gate.Unordered := ⟨rfl, rfl, rfl⟩
  have hwarm : s.Ruled s.mainReset.warmRetained := (State.mainReset_ruled s s).frame rfl
  exact .ite (hwarm.startWork (hordered s)) ((State.mainReset_ruled _ s).startWork (hordered _))

theorem State.frameLeaves_ruled (s : State) : s.Ruled s.frameLeaves := by
  unfold State.frameLeaves
  split
  · exact State.Ruled.frame (.refl s) rfl
  · exact .ite (s.start_ruled _) (State.Ruled.settlePort (State.Ruled.frame (.refl s) rfl))

end Starts

/-! The commands and the steps. -/

section Steps

variable {c : Instr} {s t u : State}

/-- A command answers a next state, in which the laws of the queues and of the barrier are kept. -/
def RulesKept (c : Instr) (s : State) : Prop :=
  ∃ t, exec c s = .next t ∧ s.Ruled t

theorem RulesKept.of_next (he : exec c s = .next t) (h : s.Ruled t) : RulesKept c s :=
  ⟨t, he, h⟩

theorem RulesKept.of_finished (he : exec c s = finishEvent u) (h : s.Ruled u) : RulesKept c s :=
  ⟨u.pump, he, h.frame rfl⟩

theorem RulesKept.of_eased (he : exec c s = finishEvent u) (h : s.Eases u) : RulesKept c s :=
  .of_finished he h.ruled

theorem rulesKept_hailWindowClose (s : State) (sd : Side) : RulesKept (.hailWindowClose sd) s := by
  cases hw : (s.reader sd).window with
  | none => exact .of_finished (by simp only [exec, execHailWindowClose, hw]) (.refl s)
  | some w =>
    have hjudged : s.Ruled ((s.setReader sd { s.reader sd with window := none }).judgeWindow sd w) :=
      State.Ruled.judgeWindow (State.Ruled.frame (.refl s) rfl)
    exact .of_finished (by simp only [exec, execHailWindowClose, hw]) hjudged

theorem exec_rulesKept (c : Instr) (s : State) : RulesKept c s := by
  have hs := State.Ruled.refl s
  have he := State.Eases.refl s
  cases c with
  | powerOn | resetPin | supplyDip => exact .of_next rfl (s.start_ruled _)
  | settleTimerExpiry sd => exact .of_eased rfl he.settleExpires
  | summonsTimerExpiry sd => exact .of_eased rfl he.summonsExpires
  | hailWindowClose sd => exact rulesKept_hailWindowClose s sd
  | idleTimerExpiry sd => exact .of_eased rfl he.idleExpires
  | holdoffTimerExpiry sd => exact .of_eased rfl he.holdoffExpires
  | carrierLoss sd => exact .of_eased rfl he.carrierLost
  | carrierReturn sd => exact .of_eased rfl he.carrierReturns
  | claimed sd ok area blocked => exact .of_eased rfl he.claimedArrives
  | slot sd ok turn no w => exact .of_finished rfl hs.slotArrives
  | done sd ok turn => exact .of_finished rfl hs.doneArrives
  | answerTimerExpiry sd => exact .of_eased rfl he.answerExpires
  | guardTimerExpiry sd => exact .of_eased rfl he.guardExpires
  | screening sd => exact .of_finished rfl hs.screenEvent
  | pricingComplete => exact .of_finished rfl hs.pricingEnds
  | inDoubtDeadlineExpiry card => exact .of_eased rfl he.deadlinePasses
  | clockAdvance => exact .of_eased rfl he.advanceClock
  | denylistApplyBegin => exact .of_finished rfl (.ite (hs.frame rfl) hs)
  | denylistApplyComplete => exact .of_finished rfl hs.completeApply
  | denylistSwap => exact .of_next rfl hs.listSwap
  | debounceExpiry g => exact .of_finished rfl hs.debounced
  | stuckTimerExpiry z => exact .of_finished rfl hs.stuckExpires
  | travelTimerExpiry => exact .of_finished rfl hs.travelFails
  | passageDeadlineExpiry => exact .of_finished rfl hs.passageExpires
  | closeDelayExpiry => exact .of_finished rfl hs.closeDelayExpires
  | alarmTimerExpiry sd => exact .of_eased rfl ⟨rfl, rfl, fun _ => Nat.le_refl _⟩
  | hail sd clean card | sameCardHoldExpiry sd | rawInputChange i high | refusalTimerExpiry sd => exact .of_finished rfl (hs.frame rfl)
  | rxByte b stopBit => exact .of_next rfl hs.takeByte
  | gapTimerExpiry => exact .of_finished rfl hs.gapExpires
  | frameSent => exact .of_next rfl s.frameLeaves_ruled
  | backupSupplyFailure => exact .of_next rfl (hs.frame rfl)
  | _ => exact .of_next rfl hs.request

/-- A millisecond stops no timer and starts none, and ends no authorisation (log 2). -/
theorem State.tick_ruled (s : State) : s.Ruled s.tick := by
  have hqueue (sd : Side) : s.gate.tick.queues.get sd = (s.gate.queues.get sd).map Auth.tick := by cases sd <;> rfl
  have hload (sd : Side) : s.gate.tick.load sd = s.gate.load sd := by
    have hreservation : s.gate.tick.reservations.get sd = s.gate.reservations.get sd := rfl
    simp only [Gate.load, hqueue, hreservation, List.length_map]
  have hlaw (h : s.gate.Lawful) : s.gate.tick.Lawful := by
    obtain ⟨⟨howner, hphase, htravel, hdelay, hdrive⟩, hline⟩ := h
    have hruns (x : Timer) : (Timer.tick x).isSome = x.isSome := Option.isSome_map
    have hstopped : s.gate.tick.travel = none ↔ s.gate.travel = none := Option.map_eq_none_iff
    exact ⟨⟨howner, hphase, fun hx => htravel ((hruns _).symm.trans hx), fun hx => hdelay ((hruns _).symm.trans hx),
      hdrive.imp_right (Or.imp_right (And.imp_right (And.imp_left hstopped.mpr)))⟩, hline⟩
  exact State.Ruled.frame (State.Ruled.setGate (.refl s) (fun sd => (hload sd).le) rfl hlaw) rfl

theorem step_ruled (h : step s = .next t) : s.Ruled t := by
  have hexec {c : Instr} {u : State} (hc : exec c u = .next t) : u.Ruled t := by
    obtain ⟨v, hv, hruled⟩ := exec_rulesKept c u
    obtain rfl := Host.Outcome.next.inj (hv.symm.trans hc)
    exact hruled
  unfold step at h
  split at h
  · unfold State.idle at h
    split at h
    · exact hexec h
    · obtain rfl := Host.Outcome.next.inj h
      exact s.tick_ruled
  next c rest _ => exact (State.Ruled.frame (t := { s with pending := rest }) (.refl s) rfl).trans (hexec h)

end Steps

/-- Settles O55: each operation only eases the load of the queues, but for an authorisation that joins where there is room, a reservation
made where there is room, and a reservation that its own authorisation fills. -/
theorem queuesStayLawful : Obligations.QueuesStayLawful :=
  fun _ _ hlaw hstep => (step_ruled hstep).queues hlaw

/-- Settles O57: each operation leaves the barrier where it stood or moves it within the line of R135 that governs. -/
theorem barrierStaysGoverned : Obligations.BarrierStaysGoverned :=
  fun _ _ hlaw hstep => (step_ruled hstep).barrierLaw hlaw

end Sys2Proof.Machine
end

section
/-! The settings: the aisle mode, the direction table, the station's identity and the lamp order, and what each lamp shows (R3, R142, R152,
R162, R163, R180). -/

namespace Sys2Proof.Machine

/-! Lists of codes. -/

theorem mapAll_eq_map {α : Type} {f : Nat → Option α} {g : Nat → α} {l : List Nat} (h : ∀ x ∈ l, f x = some (g x)) :
    mapAll f l = some (l.map g) := by
  induction l with
  | nil => rfl
  | cons x xs ih =>
    obtain ⟨hx, hxs⟩ := List.forall_mem_cons.mp h
    simp [mapAll, hx, ih hxs]

theorem mapAll_eq_none {α : Type} {f : Nat → Option α} {l : List Nat} {x : Nat} (hx : x ∈ l) (h : f x = none) : mapAll f l = none := by
  induction l with
  | nil => nomatch hx
  | cons y ys ih =>
    unfold mapAll
    obtain rfl | hx := List.mem_cons.mp hx
    · rw [h]
    · rw [ih hx]
      cases f y <;> rfl

section Requests

variable {s : State}

/-! SET_AISLE_MODE (R152). -/

theorem State.setAisleMode_portFree (code : Nat) : State.PortFree (·.setAisleMode code) := by
  intro s p
  dsimp only [State.setAisleMode]
  split
  · exact .no
  · exact .ite .ok .ok

theorem exec_setAisleMode (h : s.port.ready) (tag : Byte) (code : Nat) :
    exec (.setAisleMode tag code) s = .next (State.replied (s.setAisleMode code) 0x03 tag) :=
  congrArg Host.Outcome.next (State.request_portFree h (State.setAisleMode_portFree code) (fun _ => rfl) rfl nofun)

theorem modeOfCode_eq_none {code : Nat} (h : 3 < code) : modeOfCode code = none := by
  have hne (n : Nat) (hn : n ≤ 3) : code ≠ n := by omega
  simp [modeOfCode, hne]

theorem modeOfCode_eq_some {code : Nat} {mode : AisleMode}
    (h : [AisleMode.closed, .entryOnly, .exitOnly, .bidirectional][code]? = some mode) : modeOfCode code = some mode := by
  obtain ⟨hlt, rfl⟩ := List.getElem?_eq_some_iff.mp h
  have hlt : code < 4 := hlt
  interval_cases code <;> rfl

/-! SET_DIRECTION_TABLE (R142). -/

theorem State.setDirectionTable_portFree (entries : List Nat) : State.PortFree (·.setDirectionTable entries) := by
  intro s p
  dsimp only [State.setDirectionTable]
  split
  · exact .no
  · exact .ok

theorem exec_setDirectionTable (h : s.port.ready) (tag : Byte) {entries : List Nat} (hl : entries.length = 16) :
    exec (.setDirectionTable tag entries) s = .next (State.replied (s.setDirectionTable entries) 0x0A tag) :=
  congrArg Host.Outcome.next
    (State.request_portFree h (State.setDirectionTable_portFree entries) (fun _ => rfl) (if_pos hl) nofun)

theorem sideOfCode_eq_some {n : Nat} (h : n = 1 ∨ n = 2) : sideOfCode n = some (if n = 1 then Side.a else .b) := by
  rcases h with rfl | rfl <;> rfl

theorem sideOfCode_eq_none {n : Nat} (h : ¬(n = 1 ∨ n = 2)) : sideOfCode n = none := by
  obtain ⟨ha, hb⟩ := not_or.mp h
  simp [sideOfCode, ha, hb]

theorem mapAll_sideOfCode (entries : List Nat) :
    mapAll sideOfCode entries =
      if entries.all (fun n => n = 1 || n = 2) then some (entries.map fun n => if n = 1 then Side.a else .b) else none := by
  split
  next h => exact mapAll_eq_map fun n hn => sideOfCode_eq_some (by simpa using List.all_eq_true.mp h n hn)
  next h =>
    obtain ⟨n, hn, hbad⟩ : ∃ n ∈ entries, ¬(n = 1 ∨ n = 2) := by simpa using h
    exact mapAll_eq_none hn (sideOfCode_eq_none hbad)

theorem State.setDirectionTable_eq (s : State) (entries : List Nat) :
    s.setDirectionTable entries =
      if entries.all (fun n => n = 1 || n = 2) then
        ({ s with gate := { s.gate with directions := entries.map fun n => if n = 1 then Side.a else .b, pointer := 0 } } : State).ok []
      else s.no .badValue := by
  rw [State.setDirectionTable, mapAll_sideOfCode]
  by_cases h : entries.all (fun n => n = 1 || n = 2) = true
  · rw [if_pos h, if_pos h]
  · rw [if_neg h, if_neg h]

/-! SET_LAMP_PRIORITY (R163). -/

theorem State.setLampPriority_portFree (order : List Nat) : State.PortFree (·.setLampPriority order) := by
  intro s p
  dsimp only [State.setLampPriority]
  split
  · exact .no
  · exact .ite .ok .no

theorem exec_setLampPriority (h : s.port.ready) (tag : Byte) {order : List Nat} (hl : order.length = 7) :
    exec (.setLampPriority tag order) s = .next (State.replied (s.setLampPriority order) 0x09 tag) :=
  congrArg Host.Outcome.next (State.request_portFree h (State.setLampPriority_portFree order) (fun _ => rfl) (if_pos hl) nofun)

/-- The codes of the lamp conditions (R163). -/
def lampCodes : List Nat :=
  [1, 2, 3, 4, 5, 6, 7]

/-- The lamp condition of a code. -/
def lampCondAt (n : Nat) : LampCond :=
  [LampCond.free, .outOfService, .alarm, .refused, .retap, .go, .idle].getD (n - 1) .idle

theorem lampCondOfCode_eq_some : ∀ n ∈ lampCodes, lampCondOfCode n = some (lampCondAt n) := by decide

theorem lampCondOfCode_eq_none {n : Nat} (h : n ∉ lampCodes) : lampCondOfCode n = none := by
  simp only [lampCodes, List.mem_cons, List.not_mem_nil, or_false, not_or] at h
  obtain ⟨h1, h2, h3, h4, h5, h6, h7⟩ := h
  simp [lampCondOfCode, h1, h2, h3, h4, h5, h6, h7]

theorem lampCondAt_injective : ∀ n ∈ lampCodes, ∀ m ∈ lampCodes, lampCondAt m = lampCondAt n → m = n := by decide

theorem lampCondAt_surjective : ∀ c : LampCond, ∃ n ∈ lampCodes, lampCondAt n = c := by
  intro c
  cases c <;> decide

/-- A list of seven that names each of the seven codes names nothing else. -/
theorem mem_lampCodes_of_complete {order : List Nat} (hl : order.length = 7) (h : ∀ n ∈ lampCodes, n ∈ order) :
    ∀ n ∈ order, n ∈ lampCodes := by
  have hperm : List.Perm lampCodes order := (List.subperm_of_subset (by decide) h).perm_of_length_le hl.le
  exact fun n hn => hperm.mem_iff.mpr hn

theorem isLampOrder_iff {l : List LampCond} (hl : l.length = 7) : isLampOrder l = true ↔ ∀ c, c ∈ l := by
  simp only [isLampOrder, hl, decide_true, Bool.true_and, List.all_eq_true, decide_eq_true_iff]
  exact ⟨fun h c => h c (by cases c <;> decide), fun h c _ => h c⟩

theorem isLampOrder_map {order : List Nat} (hl : order.length = 7) (hcodes : ∀ n ∈ order, n ∈ lampCodes) :
    isLampOrder (order.map lampCondAt) = true ↔ ∀ n ∈ lampCodes, n ∈ order := by
  rw [isLampOrder_iff (by simpa using hl)]
  constructor
  · intro h n hn
    obtain ⟨m, hm, heq⟩ := List.mem_map.mp (h (lampCondAt n))
    exact lampCondAt_injective n hn m (hcodes m hm) heq ▸ hm
  · intro h c
    obtain ⟨n, hn, rfl⟩ := lampCondAt_surjective c
    exact List.mem_map_of_mem (h n hn)

theorem State.setLampPriority_eq (s : State) {order : List Nat} (hl : order.length = 7) :
    s.setLampPriority order =
      if ∀ n ∈ lampCodes, n ∈ order then ({ s with sup := { s.sup with lampOrder := order.map lampCondAt } } : State).ok []
      else s.no .badValue := by
  unfold State.setLampPriority
  by_cases hcodes : ∀ n ∈ order, n ∈ lampCodes
  · rw [mapAll_eq_map fun n hn => lampCondOfCode_eq_some n (hcodes n hn)]
    exact if_congr (isLampOrder_map hl hcodes) rfl rfl
  · rw [if_neg (mt (mem_lampCodes_of_complete hl) hcodes)]
    obtain ⟨n, hn, hbad⟩ : ∃ n ∈ order, n ∉ lampCodes := by simpa using hcodes
    rw [mapAll_eq_none hn (lampCondOfCode_eq_none hbad)]

/-! SET_IDENTITY (R180). -/

/-- The transmitter does not look at the identity. -/
theorem Port.pump_withIdentity (p : Port) (station gate : Nat) :
    ({ p with station := station, gateNo := gate } : Port).pump = { p.pump with station := station, gateNo := gate } := by
  unfold Port.pump
  (repeat' split) <;> simp_all

/-- At a ready port no request waits and no head is held. -/
theorem Port.ready.pump_empty {p : Port} (h : p.ready) : { p.pump with requests := [], headTaken := false } = p.pump := by
  obtain ⟨hrequests, hhead, -, -⟩ := h
  have hpump := Port.pump_withRequests p p.requests p.headTaken
  rw [hrequests, hhead] at hpump
  rw [← hpump, ← hrequests, ← hhead]

theorem exec_setIdentity_no {result : Result} (h : s.port.ready) (tag : Byte) {station gate : Nat}
    (ho : ∀ p, ({ s with port := p } : State).setIdentity station gate = ({ s with port := p } : State).no result) :
    exec (.setIdentity tag station gate) s = .next (s.reply 0x02 tag result []) :=
  congrArg Host.Outcome.next
    (State.request_reply (a := { result := result, fields := [] }) h rfl nofun rfl (.inr rfl) (congrArg answered (ho _)))

theorem exec_setIdentity_ok (h : s.port.ready) (tag : Byte) {station gate : Nat}
    (ho : ∀ p, ({ s with port := p } : State).setIdentity station gate =
      ({ s with port := { p with station := station, gateNo := gate } } : State).ok []) :
    exec (.setIdentity tag station gate) s =
      .next (({ s with port := { s.port with station := station, gateNo := gate } } : State).reply 0x02 tag .ok []) := by
  refine congrArg Host.Outcome.next ?_
  rw [State.request_ready s tag _ h]
  have hcarry (p : Port) : ({ s with port := p } : State).carry (.setIdentity station gate) =
      ({ s with port := { p with station := station, gateNo := gate } }, some { result := .ok, fields := [] }) :=
    congrArg answered (ho p)
  simp only [Request.judged, hcarry, State.reply, Port.answer, Port.pump_withIdentity]
  rw [← h.pump_empty]
  rfl

/-- A context at rest is in none of the states that serve a card (R180). -/
theorem Context.resting_iff (c : Context) :
    c.resting = true ↔ c.state ∈ [CtxState.polling, .holdoff, .outOfService] := by
  unfold Context.resting
  cases c.state <;> decide

theorem State.resting_iff (s : State) :
    s.ctxs.a.resting = true ∧ s.ctxs.b.resting = true ↔
      ∀ sd ∈ [Side.a, .b], (s.ctx sd).state ∈ [CtxState.polling, .holdoff, .outOfService] := by
  rw [List.forall_mem_cons, List.forall_mem_singleton, Context.resting_iff, Context.resting_iff]
  rfl

theorem exec_setIdentity (h : s.port.ready) (tag : Byte) (station gate : Nat) :
    exec (.setIdentity tag station gate) s = .next (
      if 255 < station ∨ 255 < gate then s.reply 0x02 tag .badValue []
      else if s.gate.mode = .closed ∧ ∀ sd ∈ [Side.a, .b], (s.ctx sd).state ∈ [CtxState.polling, .holdoff, .outOfService] then
        ({ s with port := { s.port with station := station, gateNo := gate } } : State).reply 0x02 tag .ok []
      else s.reply 0x02 tag .notNow []) := by
  have hrests := s.resting_iff
  split
  next hbad => exact exec_setIdentity_no h tag fun p => if_pos hbad
  next hgood =>
    split
    next hrest =>
      have hrest := hrest.imp_right hrests.mpr
      exact exec_setIdentity_ok h tag fun p => (if_neg hgood).trans (if_pos hrest)
    next hbusy =>
      have hbusy := mt (And.imp_right hrests.mp) hbusy
      exact exec_setIdentity_no h tag fun p => (if_neg hgood).trans (if_neg hbusy)

end Requests

/-! The lamps (R163). -/

section Lamps

variable {s : State} {sd : Side} {c : LampCond}

/-- The first of a list with a property stands before every other that has it. -/
theorem idxOf_find?_le {α : Type} [DecidableEq α] {p : α → Bool} {l : List α} {x y : α} (h : l.find? p = some x) (hy : p y = true) :
    l.idxOf x ≤ l.idxOf y := by
  induction l with
  | nil => nomatch h
  | cons z zs ih =>
    cases hz : p z with
    | true =>
      obtain rfl : z = x := by simpa [hz] using h
      simp
    | false =>
      have hrest : zs.find? p = some x := by simpa [hz] using h
      have hne {w : α} (hw : p w = true) : z ≠ w := fun heq => by simp [heq, hw] at hz
      rw [List.idxOf_cons_ne _ (hne (List.find?_some hrest)), List.idxOf_cons_ne _ (hne hy)]
      exact Nat.succ_le_succ (ih hrest)

theorem getD_find?_cons {α : Type} (p : α → Bool) (x : α) (xs : List α) (d : α) :
    ((x :: xs).find? p).getD d = if p x then x else (xs.find? p).getD d := by
  rw [List.find?_cons]
  cases p x <;> rfl

theorem State.lampActive_outOfService (s : State) (sd : Side) : s.lampActive sd .outOfService = !s.inService sd := by
  unfold State.lampActive State.inService
  cases s.gate.failClosedOrder <;> simp

/-- With a lamp order the search for the condition shown finds one: IDLE is always active. -/
theorem State.lampShown_found (hl : s.lampLaw) (sd : Side) : s.sup.lampOrder.find? (s.lampActive sd) = some (s.lampShown sd) := by
  have hlength : s.sup.lampOrder.length = 7 := by
    have h : isLampOrder s.sup.lampOrder = true := hl
    simp only [isLampOrder, Bool.and_eq_true, decide_eq_true_iff] at h
    exact h.1
  have hidle : LampCond.idle ∈ s.sup.lampOrder := (isLampOrder_iff hlength).mp hl _
  have hfound : (s.sup.lampOrder.find? (s.lampActive sd)).isSome := List.find?_isSome.mpr ⟨.idle, hidle, rfl⟩
  obtain ⟨c, hc⟩ := Option.isSome_iff_exists.mp hfound
  rw [State.lampShown, hc, Option.getD_some]

/-- In the order of a cold start each condition is shown where none above it is active. -/
theorem State.lampShown_cold (ho : s.sup.lampOrder = [.free, .outOfService, .alarm, .refused, .retap, .go, .idle]) (sd : Side) :
    s.lampShown sd =
      if s.lampActive sd .free then .free else if s.lampActive sd .outOfService then .outOfService
      else if s.lampActive sd .alarm then .alarm else if s.lampActive sd .refused then .refused
      else if s.lampActive sd .retap then .retap else if s.lampActive sd .go then .go else .idle := by
  simp only [State.lampShown, ho, getD_find?_cons, List.find?_nil, Option.getD_none, ite_self]

theorem State.lampActive_retap (s : State) (sd : Side) :
    s.lampActive sd .retap = true ↔ ∃ d ∈ s.doubt.entries, d.side = sd := by
  simp [State.lampActive]

theorem State.lampActive_go (s : State) (sd : Side) :
    s.lampActive sd .go = true ↔ s.gate.owner = some sd ∧ s.gate.queues.get sd ≠ [] := by
  simp [State.lampActive]

theorem State.lamp_cold (ho : s.sup.lampOrder = [.free, .outOfService, .alarm, .refused, .retap, .go, .idle]) (sd : Side) :
    s.lamp sd =
      if s.inFreeOpen then .green else if s.inService sd = false then .red
      else if (s.gate.alarms.get sd).isSome then .redFlashing else if (s.sup.refusal.get sd).isSome then .red
      else if ∃ d ∈ s.doubt.entries, d.side = sd then .amber
      else if s.gate.owner = some sd ∧ s.gate.queues.get sd ≠ [] then .green else .white := by
  have houtput : s.lamp sd = LampCond.output _ := congrArg LampCond.output (State.lampShown_cold ho sd)
  rw [houtput]
  simp only [apply_ite LampCond.output, s.lampActive_outOfService, s.lampActive_retap, s.lampActive_go, Bool.not_eq_true']
  rfl

end Lamps

/-- Settles O44: each request from its owner's equation, and each lamp from the first active condition of the order. -/
theorem settingRequests : Obligations.SettingRequests := by
  refine ⟨fun s tag h => ⟨fun code hcode => ?unknownMode, fun code mode hmode => ?mode, fun entries hl => ?directions,
    exec_setIdentity h tag, fun order hl => ?order⟩, fun s sd hl => ?lamps⟩
  case unknownMode =>
    rw [exec_setAisleMode h, State.setAisleMode, modeOfCode_eq_none hcode]
    rfl
  case mode =>
    rw [exec_setAisleMode h, State.setAisleMode, modeOfCode_eq_some hmode]
    exact congrArg Host.Outcome.next (State.replied_ite _ _ _ _ _)
  case directions =>
    rw [exec_setDirectionTable h tag hl, State.setDirectionTable_eq]
    exact congrArg Host.Outcome.next (State.replied_ite _ _ _ _ _)
  case order =>
    rw [exec_setLampPriority h tag hl, State.setLampPriority_eq s hl]
    exact congrArg Host.Outcome.next (State.replied_ite _ _ _ _ _)
  case lamps =>
    have hfound := State.lampShown_found hl sd
    refine ⟨rfl, s.lampActive_outOfService sd, rfl, rfl, s.lampActive_retap sd, s.lampActive_go sd, List.find?_some hfound,
      List.mem_of_find?_eq_some hfound, rfl, fun c hc => idxOf_find?_le hfound hc, rfl, fun ho => ?cold⟩
    have hlamp := State.lamp_cold ho sd
    refine ⟨fun hfree => ?_, fun hfree hout => ?_, fun hfree hin halarm => ?_, fun hfree hin halarm hrefused => ?_,
      fun hfree hin halarm hrefused => ?quiet⟩
    · simpa [hfree] using hlamp
    · simpa [hfree, hout] using hlamp
    · simpa [hfree, hin, halarm] using hlamp
    · simpa [hfree, hin, halarm, hrefused] using hlamp
    case quiet =>
      rw [if_neg (by simp [hfree]), if_neg (by simp [hin]), if_neg (by simp [halarm]), if_neg (by simp [hrefused])] at hlamp
      refine ⟨fun hretap => hlamp.trans (if_pos hretap), fun hnone hgo => ?_, fun hnone hgo => ?_⟩
      all_goals rw [hlamp, if_neg fun ⟨d, hd, hside⟩ => hnone d hd hside]
      · exact if_pos hgo
      · exact if_neg hgo

end Sys2Proof.Machine
end

section
/-! A passage at the barrier: the books of a consumption and of an alarm, which look at nothing of the gate but the owner, and the table of
R143 (R133, R143 to R147). -/

namespace Sys2Proof.Machine

/-! What the books read and change is no part of the gate. -/

/-- A state with another gate. -/
def State.onGate (s : State) (g : Gate) : State :=
  { s with gate := g }

section Books

variable (s : State) (g : Gate)

theorem State.onGate_ite (u : State) (p : Prop) [Decidable p] :
    (if p then s else u).onGate g = if p then s.onGate g else u.onGate g :=
  apply_ite (State.onGate · g) p s u

theorem State.appendUnreserved_onGate (side : Option Side) (body : RecordBody) :
    (s.onGate g).appendUnreserved side body = (s.appendUnreserved side body).onGate g := by
  rw [State.appendUnreserved_frame (s := s)]
  exact State.appendUnreserved_withBooks (s := s.onGate g) (b := s) rfl side body

theorem State.appendUnreserved_gate (side : Option Side) (body : RecordBody) : (s.appendUnreserved side body).gate = s.gate := by
  rw [State.appendUnreserved_frame]
  rfl

theorem State.appendUnreserved_screen (side : Option Side) (body : RecordBody) : (s.appendUnreserved side body).screen = s.screen := by
  rw [State.appendUnreserved_frame]
  rfl

theorem State.reportPassage_onGate (card : CardId) (outcome : PassageState) :
    (s.onGate g).reportPassage card outcome = (s.reportPassage card outcome).onGate g := by
  have hscreen : (s.onGate g).screen = s.screen := rfl
  unfold State.reportPassage
  rw [hscreen]
  split
  · rfl
  · split <;> rfl

/-- A LOCAL sighting in PENDING takes the outcome of its passage (R111). -/
theorem State.reportPassage_pending {card : CardId} {outcome : PassageState} {y : Sighting} (hy : s.screen.sightingOf card = some y)
    (hl : y.source = .local) (hp : y.passage = .pending) :
    (s.reportPassage card outcome).screen.sightingOf card = some { y with passage := outcome } := by
  obtain rfl := Screen.sightingOf_card hy
  unfold State.reportPassage
  rw [hy]
  dsimp only
  rw [if_pos ⟨hl, hp⟩]
  exact Screen.sightingOf_putSighting s.screen { y with passage := outcome }

end Books

/-! An alarm (R147). -/

/-- The gate with the alarm timers of the sides named running. -/
def Gate.alarmed (g : Gate) (a b : Bool) : Gate :=
  { g with alarms := { a := if a then some 5000 else g.alarms.a, b := if b then some 5000 else g.alarms.b } }

/-- The state after an alarm: timers, record and notice. -/
def State.alarmed (u : State) (kind : AlarmKind) (direction owner side : Option Side) (a b : Bool) : State :=
  let timed : State := u.onGate (u.gate.alarmed a b)
  (timed.appendUnreserved side (.alarm kind direction owner a b)).notify (.alarm kind direction owner a b)

/-- An alarm of a passage at the side where it began. -/
def State.alarmedAt (u : State) (sd : Side) (owner : Option Side) (kind : AlarmKind) : State :=
  u.alarmed kind (some sd) owner (some sd) (decide (sd = .a)) (decide (sd = .b))

section Alarms

variable {u : State} {kind : AlarmKind} {direction owner side : Option Side} {a b : Bool} {sd : Side}

theorem State.alarmed_onGate (g : Gate) : (u.onGate g).alarmed kind direction owner side a b =
    (u.alarmed kind direction owner side a b).onGate (g.alarmed a b) := by
  dsimp only [State.alarmed]
  rw [State.appendUnreserved_onGate u (u.gate.alarmed a b)]
  exact congrArg (State.notify · _) (State.appendUnreserved_onGate u (g.alarmed a b) _ _)

theorem State.alarmed_gate : (u.alarmed kind direction owner side a b).gate = u.gate.alarmed a b :=
  State.appendUnreserved_gate _ _ _

theorem State.raiseAlarm_eq (u : State) (kind : AlarmKind) (a b : Bool) (direction : Option Side) :
    u.raiseAlarm kind a b direction =
      u.alarmed kind direction u.gate.owner (if a && b then none else if a then some .a else some .b) a b := by
  dsimp only [State.raiseAlarm, State.alarmed, State.onGate]
  rw [State.appendUnreserved_gate]
  rfl

theorem State.alarmAt_eq (u : State) (kind : AlarmKind) (sd : Side) (direction : Option Side) :
    u.alarmAt kind sd direction = u.alarmed kind direction u.gate.owner (some sd) (decide (sd = .a)) (decide (sd = .b)) := by
  rw [State.alarmAt, State.raiseAlarm_eq]
  cases sd <;> rfl

theorem Gate.alarmed_side (g : Gate) (sd : Side) :
    g.alarmed (decide (sd = .a)) (decide (sd = .b)) = { g with alarms := g.alarms.set sd (some 5000) } := by
  cases sd <;> rfl

end Alarms

/-! A consumption (R133, R144). -/

/-- The books of a consumption: the report to screening, the STAFF_PASSAGE record and the PASSAGE notice (log 25). -/
def State.passageTold (s : State) (sd : Side) (x : Auth) (follower behind : Bool) : State :=
  let reported := match x.card with
    | some card => s.reportPassage card .taken
    | none => s
  let recorded := if x.origin = .staff then reported.appendUnreserved (some sd) (.staffPassage x.card sd) else reported
  recorded.notify (.passage (.consumed sd follower behind) sd x.origin x.card x.seq)

section Consumption

variable {s : State} {sd : Side} {x : Auth} {xs : List Auth} {follower behind : Bool}

theorem State.passageTold_onGate (g : Gate) :
    (s.onGate g).passageTold sd x follower behind = (s.passageTold sd x follower behind).onGate g := by
  dsimp only [State.passageTold]
  cases x.card with
  | none =>
    dsimp only
    rw [State.appendUnreserved_onGate, ← State.onGate_ite]
    rfl
  | some card =>
    dsimp only
    rw [State.reportPassage_onGate, State.appendUnreserved_onGate, ← State.onGate_ite]
    rfl

theorem State.passageTold_taken {card : CardId} {y : Sighting} (hx : x.card = some card) (hy : s.screen.sightingOf card = some y)
    (hl : y.source = .local) (hp : y.passage = .pending) :
    (s.passageTold sd x follower behind).screen.sightingOf card = some { y with passage := .taken } := by
  have hscreen : (s.passageTold sd x follower behind).screen = (s.reportPassage card .taken).screen := by
    simp only [State.passageTold, hx]
    split
    · exact State.appendUnreserved_screen _ _ _
    · rfl
  rw [hscreen]
  exact s.reportPassage_pending hy hl hp

theorem State.consume_cons (hq : s.gate.queues.get sd = x :: xs) :
    s.consume sd follower behind = (s.passageTold sd x follower behind).onGate (s.setQueue sd xs).gate.headDeadline := by
  have hgate : (s.setQueue sd xs).passageTold sd x follower behind = (s.passageTold sd x follower behind).onGate (s.setQueue sd xs).gate :=
    State.passageTold_onGate (s := s) _
  have hconsume : s.consume sd follower behind =
      ((s.setQueue sd xs).passageTold sd x follower behind).onGate
        ((s.setQueue sd xs).passageTold sd x follower behind).gate.headDeadline := by
    simp only [State.consume, hq]
    rfl
  rw [hconsume, hgate]
  rfl

/-- The head deadline is all that the controller may give. -/
theorem Gate.headDeadline_frame (g : Gate) : g.headDeadline = { g with queues := g.headDeadline.queues } := by
  unfold Gate.headDeadline
  repeat' split
  all_goals rfl

theorem Gate.headDeadline_queue_other {g : Gate} (ho : g.owner = some sd) :
    g.headDeadline.queues.get sd.other = g.queues.get sd.other := by
  unfold Gate.headDeadline
  split
  next sd' _ ho' =>
    obtain rfl : sd' = sd := Option.some.inj (ho'.symm.trans ho)
    repeat' split
    all_goals simp
  · rfl

theorem Gate.headDeadline_shut (g : Gate) (h : g.barrier ≠ .opened) : g.headDeadline = g := by
  unfold Gate.headDeadline
  split
  next hb _ => exact absurd hb h
  · rfl

end Consumption

/-! The table of R143. -/

section Table

variable {s : State} {sd o : Side} {follower behind : Bool}

theorem State.takePassage_served (hb : s.gate.barrier ∈ [BarrierState.opening, .opened]) (ho : s.gate.owner = some o) :
    s.takePassage sd follower behind = s.openPassage o sd follower behind := by
  simp only [List.mem_cons, List.not_mem_nil, or_false] at hb
  rcases hb with hb | hb <;> simp only [State.takePassage, hb, ho]

theorem State.takePassage_shut (hb : s.gate.barrier ∈ [BarrierState.closed, .closing, .checking, .faultClosed]) :
    s.takePassage sd follower behind = s.alarmAt .intrusion sd (some sd) := by
  simp only [List.mem_cons, List.not_mem_nil, or_false] at hb
  rcases hb with hb | hb | hb | hb <;> simp only [State.takePassage, hb]

theorem State.takePassage_free (hb : s.gate.barrier ∈ [BarrierState.freeOpen, .faultOpen]) :
    s.takePassage sd follower behind = { s with gate := { s.gate with freeCount := min 65535 (s.gate.freeCount + 1) } } := by
  simp only [List.mem_cons, List.not_mem_nil, or_false] at hb
  rcases hb with hb | hb <;> simp only [State.takePassage, hb]

theorem State.takePassage_held (hb : s.gate.barrier = .held) : s.takePassage sd follower behind = s := by
  simp only [State.takePassage, hb]

theorem State.openPassage_other (s : State) (sd : Side) :
    s.openPassage sd.other sd follower behind = s.alarmAt .wrongWay sd (some sd) :=
  if_pos (by cases sd <;> decide)

theorem State.openPassage_empty (hq : s.gate.queues.get sd = []) :
    s.openPassage sd sd follower behind = if follower then s.tailgate sd else s.alarmAt .intrusion sd (some sd) := by
  rw [State.openPassage, if_neg (by simp), if_pos (by simp [hq])]

theorem State.openPassage_waiting (hq : s.gate.queues.get sd ≠ []) :
    s.openPassage sd sd follower behind =
      if s.gate.barrier = .opening then (s.consume sd follower behind).alarmAt .forced sd (some sd)
      else s.consume sd follower behind := by
  rw [State.openPassage, if_neg (by simp), if_neg (by simpa using hq)]
  simp

/-- A TAILGATE names the owner from before its close (R145, log 34). -/
theorem State.tailgate_eq (s : State) (sd : Side) :
    s.tailgate sd = (s.alarmedAt sd s.gate.owner .tailgate).onGate
      { s.gate with
        alarms := s.gate.alarms.set sd (some 5000), barrier := .closing, phase := some (.yielding true), owner := none
        travel := none, closeDelay := none, drive := .open_ } := by
  have hgate : (s.alarmedAt sd s.gate.owner .tailgate).gate = { s.gate with alarms := s.gate.alarms.set sd (some 5000) } :=
    State.alarmed_gate.trans (s.gate.alarmed_side sd)
  rw [State.tailgate, State.alarmAt_eq, ← State.alarmedAt, State.enterBarrier, hgate]
  rfl

theorem State.takeCounterflow_eq (s : State) (start : Option Side) :
    s.takeCounterflow start =
      if s.gate.barrier ∈ [BarrierState.opening, .opened] then
        match start with
        | some sd => s.alarmed .wrongWay (some sd) s.gate.owner (some sd.other) (decide (sd = .b)) (decide (sd = .a))
        | none => s.alarmed .wrongWay none s.gate.owner none true true
      else s := by
  have hserved : s.gate.barrier = .opening ∨ s.gate.barrier = .opened ↔ s.gate.barrier ∈ [BarrierState.opening, .opened] := by simp
  unfold State.takeCounterflow
  refine if_congr hserved ?_ rfl
  cases start with
  | none => exact s.raiseAlarm_eq _ _ _ _
  | some sd =>
    dsimp only
    rw [State.alarmAt_eq]
    cases sd <;> rfl

/-- A passage of the owner's head in OPENING is FORCED as well (R143). -/
theorem State.passage_forced {x : Auth} {xs : List Auth} (hb : s.gate.barrier = .opening) (ho : s.gate.owner = some sd)
    (hq : s.gate.queues.get sd = x :: xs) :
    s.takePassage sd follower behind =
      ((s.passageTold sd x follower behind).alarmedAt sd s.gate.owner .forced).onGate
        { s.gate with queues := s.gate.queues.set sd xs, alarms := s.gate.alarms.set sd (some 5000) } := by
  have hkept : (s.setQueue sd xs).gate.headDeadline = (s.setQueue sd xs).gate :=
    Gate.headDeadline_shut _ (by simp [State.setQueue, hb])
  rw [State.takePassage_served (by simp [hb]) ho, State.openPassage_waiting (by simp [hq]), if_pos hb, State.consume_cons hq, hkept,
    State.alarmAt_eq, State.alarmed_onGate, Gate.alarmed_side]
  rfl

theorem State.passage_consumed {x : Auth} {xs : List Auth} (hb : s.gate.barrier = .opened) (ho : s.gate.owner = some sd)
    (hq : s.gate.queues.get sd = x :: xs) :
    s.takePassage sd follower behind =
      (s.passageTold sd x follower behind).onGate (s.setQueue sd xs).gate.headDeadline := by
  rw [State.takePassage_served (by simp [hb]) ho, State.openPassage_waiting (by simp [hq]), if_neg (by simp [hb]), State.consume_cons hq]

/-- The gate after a consumption: the queue without its head, and the next head's deadline in OPEN or the alarm timer of FORCED in OPENING
(R137, R143, R144). -/
theorem State.passage_consumes {x : Auth} {xs : List Auth} (hb : s.gate.barrier ∈ [BarrierState.opening, .opened])
    (ho : s.gate.owner = some sd) (hq : s.gate.queues.get sd = x :: xs) :
    ∃ g : Gate,
      s.takePassage sd follower behind =
        (if s.gate.barrier = .opening then (s.passageTold sd x follower behind).alarmedAt sd s.gate.owner .forced
          else s.passageTold sd x follower behind).onGate g ∧
      g = { s.gate with queues := g.queues, alarms := g.alarms } ∧ (s.setQueue sd xs).gate.Moved g ∧
      g.queues.get sd.other = s.gate.queues.get sd.other ∧
      (s.gate.barrier = .opened → g.alarms = s.gate.alarms ∧ ∀ y ys, xs = y :: ys →
        (g.queues.get sd).head? = some { y with deadline := some (y.deadline.getD (s.gate.windowS * 1000)) }) ∧
      (s.gate.barrier = .opening → g.alarms = s.gate.alarms.set sd (some 5000)) := by
  simp only [List.mem_cons, List.not_mem_nil, or_false] at hb
  rcases hb with hb | hb
  · refine ⟨{ s.gate with queues := s.gate.queues.set sd xs, alarms := s.gate.alarms.set sd (some 5000) }, ?_, rfl, ⟨rfl, fun _ => rfl⟩,
      PerSide.get_set_other _ _ _, fun h => absurd (hb.symm.trans h) (by decide), fun _ => rfl⟩
    rw [if_pos hb]
    exact State.passage_forced hb ho hq
  · refine ⟨(s.setQueue sd xs).gate.headDeadline, ?_, ?_, Gate.headDeadline_moved _, ?_, fun _ => ⟨?_, ?_⟩,
      fun h => absurd (hb.symm.trans h) (by decide)⟩
    · rw [if_neg (by simp [hb])]
      exact State.passage_consumed hb ho hq
    · rw [Gate.headDeadline_frame]
      rfl
    · exact (Gate.headDeadline_queue_other (g := (s.setQueue sd xs).gate) ho).trans (PerSide.get_set_other _ _ _)
    · rw [Gate.headDeadline_frame]
      rfl
    · rintro y ys rfl
      rw [Gate.headDeadline_cons (g := (s.setQueue sd (y :: ys)).gate) hb ho (PerSide.get_set_self _ _ _)]
      simp only [PerSide.get_set_self, List.head?_cons]
      rfl

end Table

/-- Settles O39: row by row of R143's table; at a consumption, the books of the passage on the gate with the queue's rest. -/
theorem passageTaken : Obligations.PassageTaken := by
  intro s sd follower behind
  refine ⟨fun hb ho x xs hq => ?consumed, fun hb ho hq => ⟨fun hf => ?tailgate, fun hf => ?intrusion⟩, fun hb ho => ?wrongWay,
    fun hb => ?shut, fun hb => State.takePassage_free hb, fun hb => State.takePassage_held hb, rfl, fun hb => ?counterflow,
    fun hb start => ?none⟩
  case consumed =>
    obtain ⟨g, ht, hframe, ⟨-, hqueues⟩, hother, hopened, hopening⟩ :=
      State.passage_consumes (follower := follower) (behind := behind) hb ho hq
    generalize hreport : s.takeReport (.passage sd follower behind) = t
    obtain rfl : t = _ := hreport.symm.trans ht
    have hscreen : ∀ u : State, (if s.gate.barrier = .opening then u.alarmedAt sd s.gate.owner .forced else u).screen = u.screen := by
      intro u
      split
      · exact State.appendUnreserved_screen _ _ _
      · rfl
    refine ⟨?_, hframe, ?_, hother, hopened, hopening, fun card y hx hy hl hp => ?_⟩
    · rcases x with ⟨origin, _ | card, seq, granted, deadline⟩ <;> rfl
    · exact (hqueues sd).trans (congrArg (List.map Auth.bare) (PerSide.get_set_self _ _ _))
    · exact (congrArg (Screen.sightingOf · card) (hscreen _)).trans (State.passageTold_taken hx hy hl hp)
  case tailgate =>
    exact (State.takePassage_served hb ho).trans ((State.openPassage_empty hq).trans ((if_pos hf).trans (s.tailgate_eq sd)))
  case intrusion =>
    exact (State.takePassage_served hb ho).trans ((State.openPassage_empty hq).trans ((if_neg (by simp [hf])).trans (s.alarmAt_eq ..)))
  case wrongWay => exact (State.takePassage_served hb ho).trans ((s.openPassage_other sd).trans (s.alarmAt_eq ..))
  case shut => exact (State.takePassage_shut hb).trans (s.alarmAt_eq ..)
  case counterflow => exact ⟨(s.takeCounterflow_eq (some sd)).trans (if_pos hb), (s.takeCounterflow_eq none).trans (if_pos hb)⟩
  case none => exact (s.takeCounterflow_eq start).trans (if_neg hb)

end Sys2Proof.Machine
end

section
/-! The manual authorisations and their cancellation: what a cancellation and an authorisation that joins leave, and GRANT_A, GRANT_B and
CANCEL_GRANTS (R131 to R133, R141, R153). -/

namespace Sys2Proof.Machine

/-! What is told of an authorisation that ends unused (R133). -/

/-- The sightings and the books alone have changed. -/
def State.Told (s t : State) : Prop :=
  ∃ c b, t = ({ s with screen := c } : State).withBooks b

section Told

variable {s u : State}

theorem State.Told.refl (s : State) : s.Told s :=
  ⟨s.screen, s, rfl⟩

theorem State.Told.trans {t : State} (h : s.Told u) (k : u.Told t) : s.Told t := by
  obtain ⟨_, _, rfl⟩ := h
  obtain ⟨c, b, rfl⟩ := k
  exact ⟨c, b, rfl⟩

theorem State.Told.gate (h : s.Told u) : u.gate = s.gate := by
  obtain ⟨_, _, rfl⟩ := h
  rfl

theorem State.reportPassage_told (s : State) (card : CardId) (outcome : PassageState) : s.Told (s.reportPassage card outcome) := by
  unfold State.reportPassage
  split
  · exact .refl s
  next x _ =>
    split
    · exact ⟨_, s.notify { x with passage := outcome }.notice, rfl⟩
    · exact .refl s

theorem State.appendUnreserved_told (s : State) (side : Option Side) (body : RecordBody) : s.Told (s.appendUnreserved side body) :=
  ⟨s.screen, _, State.appendUnreserved_frame side body⟩

theorem State.notify_told (s : State) (n : Notice) : s.Told (s.notify n) :=
  ⟨s.screen, s.notify n, rfl⟩

theorem State.endUnused_told (s : State) (sd : Side) (x : Auth) (reason : NotTakenReason) : s.Told (s.endUnused sd x reason) := by
  have hrest (u : State) (body : RecordBody) (n : Notice) : u.Told ((u.appendUnreserved (some sd) body).notify n) :=
    (u.appendUnreserved_told _ _).trans (State.notify_told _ _)
  dsimp only [State.endUnused]
  split
  · exact (s.reportPassage_told _ _).trans (hrest _ _ _)
  · exact hrest _ _ _

theorem State.cancelList_told (s : State) (sd : Side) (l : List Auth) : s.Told (s.cancelList sd l) := by
  induction l generalizing s with
  | nil => exact .refl s
  | cons x xs ih => exact (s.endUnused_told sd x .cancelled).trans (ih _)

/-- A cancellation empties both queues (R133). -/
theorem State.cancelAll_told (s : State) : (s.onGate { s.gate with queues := { a := [], b := [] } }).Told s.cancelAll :=
  (State.cancelList_told _ _ _).trans (State.cancelList_told _ _ _)

theorem State.cancelAll_gate (s : State) : s.cancelAll.gate = { s.gate with queues := { a := [], b := [] } } :=
  s.cancelAll_told.gate

/-- A cancellation of nothing tells nothing. -/
theorem State.cancelAll_empty (ha : s.gate.queues.a = []) (hb : s.gate.queues.b = []) :
    s.cancelAll = s.onGate { s.gate with queues := { a := [], b := [] } } := by
  simp only [State.cancelAll, ha, hb]
  rfl

end Told

section Cancelled

variable (s : State)

/-! CANCEL_GRANTS: the close delay follows the queues that have become empty (R138, R153). -/

theorem State.cancelled_queues : s.cancelAll.delayEval.gate.queues = { a := [], b := [] } := by
  obtain ⟨-, -, hqueues⟩ := s.cancelAll.delayEval_drives
  have hempty (sd : Side) : s.cancelAll.delayEval.gate.queues.get sd = [] := by
    have hbare := hqueues sd
    rw [s.cancelAll_gate] at hbare
    cases sd <;> exact List.map_eq_nil_iff.mp hbare
  exact congrArg₂ PerSide.mk (hempty .a) (hempty .b)

theorem State.cancelled_reservations : s.cancelAll.delayEval.gate.reservations = s.gate.reservations := by
  obtain ⟨-, hreservations, -⟩ := s.cancelAll.delayEval_drives
  rw [hreservations, s.cancelAll_gate]

/-- An OPEN barrier that is not to close at once stays OPEN for its owner. -/
theorem State.cancelled_opened (hb : s.gate.barrier = .opened) (hp : s.gate.phase = none) (hd : s.gate.closeDelayMs ≠ 0) :
    s.cancelAll.delayEval.gate.barrier = .opened ∧ s.cancelAll.delayEval.gate.owner = s.gate.owner := by
  have hgate := s.cancelAll_gate
  have hms : s.cancelAll.gate.delayMs ≠ 0 := by simpa [hgate, Gate.delayMs, hp] using hd
  have hstays (c : Timer) : ({ s.cancelAll.gate with closeDelay := c } : Gate).barrier = .opened ∧
      ({ s.cancelAll.gate with closeDelay := c } : Gate).owner = s.gate.owner := by
    rw [hgate]
    exact ⟨hb, rfl⟩
  unfold State.delayEval
  rw [if_neg hms]
  split
  · split
    · exact hstays s.cancelAll.gate.closeDelay
    · exact hstays _
  · exact hstays _

theorem State.cancelled_empty (ha : s.gate.queues.a = []) (hb : s.gate.queues.b = []) :
    s.cancelAll.delayEval.journal = s.journal ∧ s.cancelAll.delayEval.screen = s.screen := by
  obtain ⟨hkept, -⟩ := s.cancelAll.delayEval_drives
  rw [hkept, State.cancelAll_empty ha hb]
  exact ⟨rfl, rfl⟩

end Cancelled

/-! An authorisation that joins (R132, R141). -/

section Join

variable (u : State) (sd : Side) (x : Auth)

/-- The end of the queue has it, and nothing but the barrier moves. -/
theorem State.join_drives : (u.setQueue sd (u.gate.queues.get sd ++ [x])).Drives (u.join sd x) :=
  State.authJoined_drives _ sd

theorem State.join_queue :
    ((u.join sd x).gate.queues.get sd).map Auth.bare = (u.gate.queues.get sd).map Auth.bare ++ [x.bare] := by
  obtain ⟨-, -, hqueues⟩ := u.join_drives sd x
  rw [hqueues sd]
  simp [State.setQueue]

theorem State.join_queue_other :
    ((u.join sd x).gate.queues.get sd.other).map Auth.bare = (u.gate.queues.get sd.other).map Auth.bare := by
  obtain ⟨-, -, hqueues⟩ := u.join_drives sd x
  rw [hqueues sd.other]
  simp [State.setQueue]

/-- A CLOSED barrier at which it waits alone opens for its side (R141). -/
theorem State.join_closed (hb : u.gate.barrier = .closed) (hq : u.gate.queues.get sd.other = []) :
    (u.join sd x).gate.owner = some sd ∧
      (u.join sd x).gate.barrier = if u.aisle.active .openLimit then .opened else .opening := by
  have hselected : u.join sd x = (u.setQueue sd (u.gate.queues.get sd ++ [x])).selectOwner := by
    simp only [State.join, State.authJoined, State.setQueue, hb]
  have hopens : u.join sd x = (u.setQueue sd (u.gate.queues.get sd ++ [x])).beginOpening sd := by
    obtain ⟨y, ys, hy⟩ : ∃ y ys, u.gate.queues.get sd ++ [x] = y :: ys := List.exists_cons_of_ne_nil (by simp)
    rw [hselected, hy, State.selectOwner]
    cases sd with
    | a => simp only [State.setQueue, PerSide.set, show u.gate.queues.b = [] from hq]
    | b => simp only [State.setQueue, PerSide.set, show u.gate.queues.a = [] from hq]
  rw [hopens]
  exact State.beginOpening_owner _ sd

end Join

/-! A request that is answered at once (R175, R176). -/

/-- A notice waits or is on the line. -/
def Port.tells (p : Port) (n : Notice) : Prop :=
  n ∈ p.notices ∨ p.line = some (.notice n)

/-- The owner's state but for the port, which has made the reply and still tells what waited. -/
theorem State.request_told {s v : State} {tag : Byte} {r : Request} {a : Answer} (h : s.port.ready)
    (hc : (s.atOwner tag r).carry r.judged = (v, some a)) :
    ∃ p, s.request tag r = { v with port := p } ∧ p.made (r.judged.reply tag a.result a.fields) ∧
      ∀ n ∈ v.port.notices, p.tells n := by
  rw [State.request_ready s tag r h]
  rw [State.atOwner] at hc
  simp only [hc]
  exact ⟨_, rfl, Port.made_pump (by simp), fun n hn => Port.mem_pump hn⟩

/-! The requests (R153). -/

section Requests

variable {s : State} {tag : Byte} {code : Nat}

theorem State.gateCommand_no {result : Result} (h : s.port.ready)
    (hc : (s.atOwner tag (.gateCommand code)).gateCommand code = (s.atOwner tag (.gateCommand code)).no result) :
    s.request tag (.gateCommand code) = s.reply 0x05 tag result [] :=
  State.request_reply (a := { result := result, fields := [] }) h rfl nofun rfl (.inr rfl) (congrArg answered hc)

theorem State.gateCommand_told {s v : State} {tag : Byte} {code : Nat} {fields : List Byte} (h : s.port.ready)
    (hc : (s.atOwner tag (.gateCommand code)).gateCommand code = v.ok fields) :
    ∃ p, s.request tag (.gateCommand code) = { v with port := p } ∧
      p.made { kind := 0x85, tag := tag, result := .ok, fields := fields } ∧ ∀ n ∈ v.port.notices, p.tells n :=
  State.request_told (r := .gateCommand code) h (congrArg answered hc)

/-- The code of the manual authorisation of a side (section 11.3). -/
def grantCode : Side → Nat
  | .a => 3
  | .b => 4

theorem State.gateCommand_grant (u : State) (sd : Side) : u.gateCommand (grantCode sd) = u.commandGrant sd := by
  cases sd <;> rfl

theorem State.commandGrant_ordered (u : State) (sd : Side)
    (h : u.inFreeOpen = true ∨ u.gate.holdOrder = true ∨ u.gate.failClosedOrder = true) : u.commandGrant sd = u.no .notNow :=
  if_pos h

theorem State.commandGrant_full (u : State) (sd : Side)
    (h : ¬(u.inFreeOpen = true ∨ u.gate.holdOrder = true ∨ u.gate.failClosedOrder = true)) (hl : 4 ≤ u.gate.load sd) :
    u.commandGrant sd = u.no .sideFull :=
  (if_neg h).trans (if_pos hl)

theorem State.commandGrant_joins (u : State) (sd : Side)
    (h : ¬(u.inFreeOpen = true ∨ u.gate.holdOrder = true ∨ u.gate.failClosedOrder = true)) (hl : u.gate.load sd < 4) :
    u.commandGrant sd =
      (u.join sd { origin := .manual, card := none, seq := none, granted := u.tariff.clock, deadline := none }).ok [0] :=
  (if_neg h).trans (if_neg (Nat.not_le.mpr hl))

end Requests

/-- Settles O42: a manual authorisation joins as any other does, and a cancellation empties the queues and lets the close delay follow. -/
theorem grantsByHand : Obligations.GrantsByHand := by
  intro s tag h
  refine ⟨fun sd => ?grant, ?cancel⟩
  case grant =>
    intro grant manual bare
    have hexec : exec grant s = .next (s.request tag (.gateCommand (grantCode sd))) := by cases sd <;> rfl
    have hcarry := State.gateCommand_grant (s.atOwner tag (.gateCommand (grantCode sd))) sd
    have hload : s.gate.load sd = (s.gate.queues.get sd).length + (if s.gate.reservations.get sd = .absent then 0 else 1) :=
      congrArg (_ + ·) (Reservation.count_eq _)
    rw [hexec, ← hload]
    refine ⟨fun ho => ?_, fun hfree hhold hclosed => ?_⟩
    · rw [State.gateCommand_no h (hcarry.trans (State.commandGrant_ordered _ sd ho))]
    have hserved : ¬(s.inFreeOpen = true ∨ s.gate.holdOrder = true ∨ s.gate.failClosedOrder = true) := by simp [hfree, hhold, hclosed]
    refine ⟨fun hl => ?_, fun hl => ?_⟩
    · rw [State.gateCommand_no h (hcarry.trans (State.commandGrant_full _ sd hserved hl))]
    obtain ⟨p, hp, hmade, -⟩ := State.gateCommand_told h (hcarry.trans (State.commandGrant_joins _ sd hserved hl))
    obtain ⟨hkept, hreservations, -⟩ := State.join_drives (s.atOwner tag (.gateCommand (grantCode sd))) sd manual
    refine ⟨_, congrArg Host.Outcome.next hp, hmade, State.join_queue _ sd manual, State.join_queue_other _ sd manual, hreservations,
      (congrArg State.journal hkept :), (congrArg State.screen hkept :), (congrArg State.ctxs hkept :), (congrArg State.readers hkept :),
      fun hb hq => State.join_closed _ sd manual hb hq⟩
  case cancel =>
    obtain ⟨p, hp, hmade, -⟩ := State.gateCommand_told (tag := tag) (code := 5) h rfl
    generalize hu : s.atOwner tag (.gateCommand 5) = u at hp hmade
    have hgate : u.gate = s.gate := by rw [← hu]; rfl
    have hbooks : u.journal = s.journal ∧ u.screen = s.screen := by rw [← hu]; exact ⟨rfl, rfl⟩
    refine ⟨_, congrArg Host.Outcome.next hp, u.cancelled_queues, u.cancelled_reservations.trans (by rw [hgate]), ?_, ?_, ?_⟩
    · rw [← hgate]
      exact hmade
    · rw [← hgate]
      exact u.cancelled_opened
    · rw [← hgate, ← hbooks.1, ← hbooks.2]
      exact u.cancelled_empty

end Sys2Proof.Machine
end

section
/-! The timers of the barrier: the travel that fails and the fail-closed order that it brings, the passage deadline, the close delay, and
the choice of the owner after a check (R136 to R142, R151, R155, R156). -/

namespace Sys2Proof.Machine

/-! The transactions that end leave the gate but for their reservations (R37, R45). -/

/-- Of the gate the reservations alone may have changed, and those that have are given up. -/
def State.Freed (s t : State) : Prop :=
  ∃ r, t.gate = { s.gate with reservations := r } ∧ ∀ sd, r.get sd = s.gate.reservations.get sd ∨ r.get sd = .absent

section Freed

variable {s u : State}

theorem State.Freed.refl (s : State) : s.Freed s :=
  ⟨_, rfl, fun _ => .inl rfl⟩

theorem State.Freed.trans {t : State} (h : s.Freed u) (k : u.Freed t) : s.Freed t := by
  obtain ⟨r, hr, hs⟩ := h
  obtain ⟨q, hq, hu⟩ := k
  rw [hr] at hq hu
  exact ⟨q, hq, fun sd => (hu sd).elim (fun h => h ▸ hs sd) .inr⟩

theorem State.finishTx_freed (s : State) (sd : Side) (f : Finish) : s.Freed (s.finishTx sd f) := by
  cases hx : (s.ctx sd).tx with
  | none =>
    rw [State.finishTx, hx]
    exact .refl s
  | some x =>
    obtain ⟨fares, pin, hclose, -⟩ := (s.closing sd x f).closeContext_eq sd
    obtain ⟨d, b, hrelease⟩ := s.releaseTx_frame sd x
    rw [State.finishTx_eq f hx, hclose, State.closing, hrelease]
    refine ⟨s.gate.reservations.set sd .absent, rfl, fun sd' => ?_⟩
    rw [PerSide.get_set]
    split
    · exact .inr rfl
    · exact .inl rfl

theorem State.abortTx_freed (s : State) (sd : Side) (o : TapOutcome) : s.Freed (s.abortTx sd o) := by
  unfold State.abortTx
  split
  · exact s.finishTx_freed _ _
  · exact .refl s

theorem State.abortBoth_freed (s : State) (o : TapOutcome) : s.Freed (s.abortBoth o) :=
  (s.abortTx_freed _ o).trans (State.abortTx_freed _ _ o)

end Freed

/-! The fail-closed order where nothing else governs (R151, R155, R156). -/

section FailClosed

variable {s : State}

/-- The gate with both queues cancelled and the HELD reservations withdrawn (R132, R133). -/
def Gate.cleared (g : Gate) (c : WithdrawCause) : Gate :=
  { g with
    queues := { a := [], b := [] }, reservations := { a := g.reservations.a.withdraw c, b := g.reservations.b.withdraw c } }

theorem State.cleared_gate (s : State) (c : WithdrawCause) : (s.cancelAll.withdrawAll c).gate = s.gate.cleared c := by
  rw [State.withdrawAll, s.cancelAll_gate]
  rfl

/-- The gate under a fail-closed order that governs. -/
def Gate.ShutIn (g h : Gate) : Prop :=
  h.barrier = .faultClosed ∧ h.failClosedOrder = true ∧ h.unverified = g.unverified ∧ h.travel = none ∧ h.owner = none ∧
    h.queues = { a := [], b := [] } ∧ (h.drive = if g.seen.zm then .stop else .close) ∧ h.reasons = g.reasons

theorem State.giveFailClosed_shutIn (hfree : s.inFreeOpen = false) (hhold : s.gate.holdOrder = false) :
    s.gate.ShutIn s.giveFailClosed.gate := by
  have hgate := (s.onGate { s.gate with failClosedOrder := true }).cleared_gate .holdOrFailClosed
  generalize hu : (s.onGate { s.gate with failClosedOrder := true }).cancelAll.withdrawAll .holdOrFailClosed = u at hgate
  have hserved : ¬(u.inFreeOpen = true ∨ u.gate.holdOrder = true) := by
    have hreasons : u.inFreeOpen = s.inFreeOpen := (congrArg (·.reasons.any) hgate :)
    have hholds : u.gate.holdOrder = s.gate.holdOrder := (congrArg Gate.holdOrder hgate :)
    simp [hreasons, hholds, hfree, hhold]
  have hgiven : s.giveFailClosed = (u.enterBarrier .faultClosed none none).abortBoth .outOfService := by
    subst hu
    exact congrArg (State.abortBoth · _) (if_neg hserved)
  obtain ⟨r, hr, -⟩ := State.abortBoth_freed (u.enterBarrier .faultClosed none none) .outOfService
  rw [hgiven, hr]
  simp only [State.enterBarrier, Gate.enter, hgate]
  exact ⟨rfl, rfl, rfl, rfl, rfl, rfl, rfl, rfl⟩

/-- With BARRIER alone RAISED and FAIL_CLOSED as its response, the stance worked out again gives the fail-closed order alone (R156). -/
theorem State.recompute_failClosed (hr : s.isRaised .barrier = true) (hresponse : s.sup.barrierResponse = .failClosed)
    (hsensor : s.isRaised .sensor = false) (hfree : s.inFreeOpen = false) (hhold : s.gate.holdOrder = false)
    (hclosed : s.gate.failClosedOrder = false) : s.recompute = s.giveFailClosed := by
  have hwants (r : FaultResponse) : s.wants r = decide (FaultResponse.failClosed = r) := by
    simp [State.wants, hr, hsensor, hresponse]
  have hfault : s.gate.reasons.fault = false := by
    have hany : s.gate.reasons.any = false := hfree
    simp only [FreeReasons.any, Bool.or_eq_false_iff] at hany
    exact hany.2
  obtain ⟨-, -, -, -, -, -, -, hreasons⟩ := State.giveFailClosed_shutIn hfree hhold
  simp [State.recompute, hwants, hclosed, hreasons, hfault]

/-- The raise of BARRIER with FAIL_CLOSED as its response, where nothing else governs. -/
theorem State.raiseBarrier_shutIn (hclear : s.sup.conds.barrier = .clear) (hresponse : s.sup.barrierResponse = .failClosed)
    (hfree : s.inFreeOpen = false) (hhold : s.gate.holdOrder = false) (hclosed : s.gate.failClosedOrder = false)
    (hsensor : s.sup.conds.sensor = .clear) : s.gate.ShutIn (s.raiseOrdered .barrier).gate := by
  have hraises : ¬s.isRaised .barrier = true := by simp [State.isRaised, FaultConds.get, hclear]
  have hstance : (s.setCond .barrier true).recompute = (s.setCond .barrier true).giveFailClosed :=
    State.recompute_failClosed (by simp [State.isRaised, State.setCond]) hresponse
      (by simpa [State.isRaised, State.setCond, FaultConds.get, FaultConds.set] using hsensor) hfree hhold hclosed
  rw [State.raiseOrdered, if_neg hraises, hstance, State.faultNews_frame]
  exact State.giveFailClosed_shutIn (s := s.setCond .barrier true) hfree hhold

end FailClosed

/-! The travel that fails (R136). -/

section Travel

variable {s : State}

theorem State.distrustBarrier_stops (h : s.gate.travel.isSome) :
    s.distrustBarrier = s.onGate { s.gate with unverified := true, drive := .stop, travel := none } := by
  obtain ⟨n, hn⟩ := Option.isSome_iff_exists.mp h
  simp only [State.distrustBarrier, hn]
  rfl

theorem State.travelFails_some (h : s.gate.travel.isSome) :
    s.travelFails = (s.onGate { s.gate with unverified := true, drive := .stop, travel := none }).raiseOrdered .barrier := by
  rw [← State.distrustBarrier_stops h]
  obtain ⟨n, hn⟩ := Option.isSome_iff_exists.mp h
  simp only [State.travelFails, hn]

end Travel

/-! The passage deadline (R133, R137). -/

section Deadline

variable {s : State} {sd : Side} {x : Auth} {xs : List Auth}

theorem Gate.headDeadline_nil {g : Gate} (ho : g.owner = some sd) (hq : g.queues.get sd = []) : g.headDeadline = g := by
  unfold Gate.headDeadline
  split
  next sd' _ ho' =>
    obtain rfl : sd' = sd := Option.some.inj (ho'.symm.trans ho)
    rw [hq]
  · rfl

theorem State.passageExpires_some (hb : s.gate.barrier = .opened) (ho : s.gate.owner = some sd) (hq : s.gate.queues.get sd = x :: xs)
    (hd : x.deadline.isSome) :
    s.passageExpires =
      (((s.setQueue sd xs).endUnused sd x .expired).onGate (s.setQueue sd xs).gate.headDeadline).delayEval := by
  obtain ⟨n, hn⟩ := Option.isSome_iff_exists.mp hd
  rw [← (State.endUnused_told (s.setQueue sd xs) sd x .expired).gate]
  simp only [State.passageExpires, hb, ho, hq, hn]
  rfl

/-- The books of an authorisation that has expired: its sighting NOT_TAKEN, and its record at the newest end (R112, R133). -/
theorem State.endUnused_pending {u : State} {reason : NotTakenReason} {card : CardId} {y : Sighting} (hx : x.card = some card)
    (hy : u.screen.sightingOf card = some y) (hl : y.source = .local) (hp : y.passage = .pending) :
    (u.endUnused sd x reason).screen.sightingOf card = some { y with passage := .notTaken } := by
  have hscreen : (u.endUnused sd x reason).screen = (u.reportPassage card .notTaken).screen := by
    simp only [State.endUnused, hx]
    exact State.appendUnreserved_screen _ _ _
  rw [hscreen]
  exact u.reportPassage_pending hy hl hp

theorem State.reportPassage_journal (u : State) (card : CardId) (outcome : PassageState) :
    (u.reportPassage card outcome).journal = u.journal ∧ (u.reportPassage card outcome).now = u.now := by
  unfold State.reportPassage
  split
  · exact ⟨rfl, rfl⟩
  · split <;> exact ⟨rfl, rfl⟩

theorem State.endUnused_recorded {u : State} {reason : NotTakenReason} (h : u.free > u.journal.reserved) :
    u.journal.records ++
        [{ seq := u.journal.next, second := u.tariff.clock, side := some sd
           body := .passageNotTaken x.origin x.card x.seq x.granted reason }] <+: (u.endUnused sd x reason).journal.records := by
  have hmade {v : State} (hj : v.journal = u.journal) (hn : v.now = u.now) :
      u.journal.records ++
          [{ seq := u.journal.next, second := u.tariff.clock, side := some sd
             body := .passageNotTaken x.origin x.card x.seq x.granted reason }] <+:
        (v.appendUnreserved (some sd) (.passageNotTaken x.origin x.card x.seq x.granted reason)).journal.records := by
    have hroom : v.free > v.journal.reserved := by
      rw [State.free, hj]
      exact h
    have happended := State.appendUnreserved_made hroom (some sd) (.passageNotTaken x.origin x.card x.seq x.granted reason)
    rw [hj] at happended
    exact (congrArg (fun t : Option Nat => u.journal.records ++ [JournalRecord.mk u.journal.next t (some sd) _]) hn) ▸ happended
  dsimp only [State.endUnused]
  split
  · exact hmade (u.reportPassage_journal _ _).1 (u.reportPassage_journal _ _).2
  · exact hmade rfl rfl

end Deadline

/-! The close delay (R138, R139). -/

section Delay

variable {s : State}

theorem State.closeDelayExpires_some (h : s.gate.closeDelay.isSome) : s.closeDelayExpires = s.delayExpires := by
  obtain ⟨n, hn⟩ := Option.isSome_iff_exists.mp h
  simp only [State.closeDelayExpires, hn]

theorem PerZone.allClear_eq (p : PerZone Bool) : p.allClear = !(p.za || p.zm || p.zb) := by
  simp [PerZone.allClear, Bool.and_assoc]

theorem ite_not_bool {α : Type} (b : Bool) (x y : α) : (if !b then x else y) = if b then y else x := by
  cases b <;> rfl

/-- In OPEN with nobody waiting at the owner's side the close delay counts while all zones are clear (R138). -/
theorem State.delayEval_opened {sd : Side} (hb : s.gate.barrier = .opened) (ho : s.gate.owner = some sd)
    (hq : s.gate.queues.get sd = []) (hp : s.gate.phase = none) (hd : s.gate.closeDelayMs ≠ 0) :
    s.delayEval.gate =
      { s.gate with
        closeDelay := if s.gate.seen.allClear then some (s.gate.closeDelay.getD s.gate.closeDelayMs) else none } := by
  have hruns : s.gate.delayRuns = s.gate.seen.allClear := by simp [Gate.delayRuns, hb, ho, hq]
  have hms : s.gate.delayMs = s.gate.closeDelayMs := by simp [Gate.delayMs, hp]
  cases hclear : s.gate.seen.allClear with
  | false =>
    rw [s.delayEval_stops (hruns.trans hclear)]
    rfl
  | true =>
    cases hdelay : s.gate.closeDelay with
    | none =>
      rw [s.delayEval_starts (hruns.trans hclear) hdelay (hms ▸ hd), hms]
      rfl
    | some n =>
      rw [s.delayEval_runs_on (hruns.trans hclear) (by simp [hdelay]), if_pos rfl, Option.getD_some, ← hdelay]

variable {v : State} {sd : Side} {y : Auth} {ys : List Auth}

/-- After a head that has gone the next takes its deadline, and the close delay does not run (R137, R138). -/
theorem State.delayEval_next (hv : v.gate = (s.setQueue sd (y :: ys)).gate.headDeadline) (hb : s.gate.barrier = .opened)
    (ho : s.gate.owner = some sd) :
    v.delayEval.gate =
      { s.gate with
        closeDelay := none
        queues := s.gate.queues.set sd ({ y with deadline := some (y.deadline.getD (s.gate.windowS * 1000)) } :: ys) } := by
  rw [Gate.headDeadline_cons (g := (s.setQueue sd (y :: ys)).gate) hb ho (PerSide.get_set_self _ _ _)] at hv
  rw [State.delayEval_waiting (s := v) (sd := sd) (by rw [hv]; exact ho) (by rw [hv]; exact hb) (by simp [hv]), hv]
  simp only [State.setQueue, PerSide.set_set]
  rfl

/-- After the last head nobody waits at the side (R138). -/
theorem State.delayEval_last (hv : v.gate = (s.setQueue sd []).gate.headDeadline) (ho : s.gate.owner = some sd) :
    v.delayEval.gate.queues.get sd = [] := by
  rw [Gate.headDeadline_nil (g := (s.setQueue sd []).gate) ho (PerSide.get_set_self _ _ _)] at hv
  obtain ⟨-, -, hqueues⟩ := v.delayEval_drives
  have hbare := hqueues sd
  rw [hv] at hbare
  simpa [State.setQueue] using hbare

theorem State.delayEval_last_opened (hv : v.gate = (s.setQueue sd []).gate.headDeadline) (hb : s.gate.barrier = .opened)
    (ho : s.gate.owner = some sd) (hp : s.gate.phase = none) (hd : s.gate.closeDelayMs ≠ 0) :
    v.delayEval.gate.barrier = .opened ∧ v.delayEval.gate.owner = some sd ∧
      v.delayEval.gate.closeDelay =
        if s.gate.seen.za || s.gate.seen.zm || s.gate.seen.zb then none
        else some (s.gate.closeDelay.getD s.gate.closeDelayMs) := by
  rw [Gate.headDeadline_nil (g := (s.setQueue sd []).gate) ho (PerSide.get_set_self _ _ _)] at hv
  rw [State.delayEval_opened (s := v) (sd := sd) (by rw [hv]; exact hb) (by rw [hv]; exact ho) (by simp [hv, State.setQueue])
    (by rw [hv]; exact hp) (by rw [hv]; exact hd), hv]
  refine ⟨hb, ho, ?_⟩
  change (if s.gate.seen.allClear then _ else _) = _
  rw [PerZone.allClear_eq, ite_not_bool]
  rfl

end Delay

/-! The choice of the owner (R140, R141). -/

section Selection

variable {s : State}

/-- An opening whose limit is not ACTIVE is a timed travel (R136). -/
theorem State.beginOpening_timed (h : s.aisle.active .openLimit = false) (sd : Side) :
    s.beginOpening sd =
      s.onGate { s.gate with
        barrier := .opening, phase := none, owner := some sd, drive := .open_, travel := some s.gate.travelMs, closeDelay := none } := by
  simp [State.beginOpening, State.enterBarrier, Gate.enter, driveOf, h, State.onGate]

/-- A contested choice is decided by the direction table and moves the pointer (R141, R142). -/
theorem State.selectOwner_contested (ha : s.gate.queues.a ≠ []) (hb : s.gate.queues.b ≠ []) :
    s.selectOwner =
      (s.onGate { s.gate with pointer := (s.gate.pointer + 1) % 16 }).beginOpening (s.gate.directions.getD s.gate.pointer .a) := by
  obtain ⟨x, xs, hx⟩ := List.exists_cons_of_ne_nil ha
  obtain ⟨y, ys, hy⟩ := List.exists_cons_of_ne_nil hb
  simp only [State.selectOwner, hx, hy]
  rfl

theorem State.selectOwner_alone {sd : Side} (hq : s.gate.queues.get sd ≠ []) (ho : s.gate.queues.get sd.other = []) :
    s.selectOwner = s.beginOpening sd := by
  obtain ⟨x, xs, hx⟩ := List.exists_cons_of_ne_nil hq
  cases sd with
  | a => simp only [State.selectOwner, show s.gate.queues.a = x :: xs from hx, show s.gate.queues.b = [] from ho]
  | b => simp only [State.selectOwner, show s.gate.queues.b = x :: xs from hx, show s.gate.queues.a = [] from ho]

/-- Where no limit is ACTIVE at the opening, no head takes its deadline (R137). -/
theorem State.selectOwner_queues (h : s.aisle.active .openLimit = false) :
    s.selectOwner.gate.queues = s.gate.queues ∧ s.selectOwner.gate.unverified = s.gate.unverified := by
  unfold State.selectOwner
  split
  · exact ⟨rfl, rfl⟩
  · rw [State.beginOpening_timed h]
    exact ⟨rfl, rfl⟩
  · rw [State.beginOpening_timed h]
    exact ⟨rfl, rfl⟩
  · dsimp only
    rw [State.beginOpening_timed (by exact h)]
    exact ⟨rfl, rfl⟩

/-- The state in which an owner is selected after a check that succeeds (R140). -/
def State.proven (s : State) : State :=
  s.onGate { s.gate with
    unverified := false, barrier := .closed, phase := none, owner := none, drive := .close, travel := none, closeDelay := none }

theorem State.checkSucceeds_eq (s : State) : s.checkSucceeds = s.proven.selectOwner := rfl

/-- CLOSED_LIMIT reached in the travel of a check (R140). -/
theorem State.debounced_proves (h : (s.aisle.filters.get .closedLimit).debounce.isSome) (hb : s.gate.barrier = .checking)
    (ht : s.gate.travel.isSome) (hlevel : s.aisle.level .closedLimit = true) (hopen : s.aisle.active .openLimit = false) :
    s.debounced (.single .closedLimit) = (s.filtered .closedLimit).proven.selectOwner := by
  have hok : (s.filtered .closedLimit).aisle.checkOk = true :=
    (Aisle.checkOk_iff _).mpr ⟨(State.filtered_active h).trans hlevel, (State.filtered_active_ne (by decide)).trans hopen⟩
  rw [State.debounced_closedLimit h, State.closedLimitChanged_proves (s := s.filtered .closedLimit) hb hok (.inl ht),
    State.checkSucceeds_eq]

end Selection

/-- Settles O43: each timer from the equation of its expiry, and the choice of the owner from that of a check that succeeds. -/
theorem barrierTimers : Obligations.BarrierTimers := by
  refine ⟨fun s => ⟨fun h => ?noTravel, fun h hraised => ?raised, fun h hclear => ?clear, fun sd x xs hb ho hq hd => ?deadline,
    fun h => ?noDelay, fun sd h hb ho => ⟨fun y ys hq => ?handsOver, fun hq hl => ?drives⟩, fun h hb hl => ?closing⟩,
    fun s hsettles hb ht hlevel hopen => ?check⟩
  case noTravel =>
    have hnone : s.travelFails = s := by simp only [State.travelFails, h]
    exact congrArg (fun t : State => Host.Outcome.next t.pump) hnone
  case raised =>
    have hkept := State.raiseOrdered_raised (s := s.onGate { s.gate with unverified := true, drive := .stop, travel := none })
      (c := .barrier) hraised
    exact congrArg (fun t : State => Host.Outcome.next t.pump) ((State.travelFails_some h).trans hkept)
  case clear =>
    refine ⟨s.travelFails.pump, rfl, ?_, fun hresponse hfree hhold hclosed hsensor => ?_⟩
    · obtain ⟨-, hraised, -⟩ :=
        State.raiseOrdered_orders (s := s.onGate { s.gate with unverified := true, drive := .stop, travel := none }) (c := .barrier)
          hclear (by simp)
      rw [State.travelFails_some h]
      exact hraised
    · obtain ⟨hbarrier, horder, hunverified, htravel, howner, hqueues, hdrive, -⟩ := State.raiseBarrier_shutIn
        (s := s.onGate { s.gate with unverified := true, drive := .stop, travel := none }) hclear hresponse hfree hhold hclosed hsensor
      rw [State.travelFails_some h]
      exact ⟨hbarrier, horder, hunverified, htravel, howner, hqueues, hdrive⟩
  case deadline =>
    have hexpires := State.passageExpires_some hb ho hq hd
    generalize hv : ((s.setQueue sd xs).endUnused sd x .expired).onGate (s.setQueue sd xs).gate.headDeadline = v at hexpires
    have hvgate : v.gate = (s.setQueue sd xs).gate.headDeadline := by rw [← hv]; rfl
    obtain ⟨hkept, -⟩ := v.delayEval_drives
    refine ⟨_, congrArg (fun t : State => Host.Outcome.next t.pump) hexpires, ?queue, fun hroom => ?record,
      fun card y hx hy hl hp => ?sighting, fun hxs => ?waiting, fun hxs hp hms => ?last⟩
    case queue =>
      cases xs with
      | nil => exact State.delayEval_last hvgate ho
      | cons y ys =>
        exact (congrArg (fun g : Gate => g.queues.get sd) (State.delayEval_next hvgate hb ho)).trans (PerSide.get_set_self _ _ _)
    case waiting =>
      obtain ⟨y, ys, rfl⟩ := List.exists_cons_of_ne_nil hxs
      have hnext := State.delayEval_next hvgate hb ho
      exact ⟨(congrArg Gate.barrier hnext).trans hb, (congrArg Gate.owner hnext).trans ho, congrArg Gate.closeDelay hnext⟩
    case last =>
      subst hxs
      exact State.delayEval_last_opened hvgate hb ho hp hms
    case record =>
      have hjournal : v.delayEval.pump.journal = ((s.setQueue sd xs).endUnused sd x .expired).journal := by
        rw [hkept, ← hv]
        rfl
      rw [hjournal]
      exact State.endUnused_recorded (u := s.setQueue sd xs) hroom
    case sighting =>
      have hscreen : v.delayEval.pump.screen = ((s.setQueue sd xs).endUnused sd x .expired).screen := by
        rw [hkept, ← hv]
        rfl
      rw [hscreen]
      exact State.endUnused_pending (u := s.setQueue sd xs) hx hy hl hp
  case noDelay =>
    have hnone : s.closeDelayExpires = s := by simp only [State.closeDelayExpires, h]
    exact congrArg (fun t : State => Host.Outcome.next t.pump) hnone
  case handsOver =>
    exact congrArg (fun t : State => Host.Outcome.next t.pump)
      ((State.closeDelayExpires_some h).trans (State.delayExpires_hands_over hb ho hq))
  case drives =>
    exact congrArg (fun t : State => Host.Outcome.next t.pump)
      ((State.closeDelayExpires_some h).trans ((State.delayExpires_drives_away hb ho hq).trans (s.beginDriving_timed hl)))
  case closing =>
    have hdriven := (State.closeDelayExpires_some h).trans ((State.delayExpires_closing hb).trans (s.beginDriving_timed hl))
    rw [← hb] at hdriven
    exact congrArg (fun t : State => Host.Outcome.next t.pump) hdriven
  case check =>
    have hproves : exec (.debounceExpiry (.single .closedLimit)) s = .next ((s.filtered .closedLimit).proven.selectOwner).pump :=
      congrArg (fun t : State => Host.Outcome.next t.pump) (State.debounced_proves hsettles hb ht hlevel hopen)
    have hshut : (s.filtered .closedLimit).proven.aisle.active .openLimit = false :=
      (State.filtered_active_ne (by decide)).trans hopen
    obtain ⟨hqueues, hverified⟩ := State.selectOwner_queues hshut
    refine ⟨_, hproves, hqueues, hverified, fun ha hb hpointer => ?_, fun sd hq hother => ?_, fun ha hb => ?_⟩
    · have hcontested : (s.filtered .closedLimit).proven.selectOwner = _ := State.selectOwner_contested ha hb
      rw [hcontested, State.beginOpening_timed (by exact hshut)]
      refine ⟨rfl, rfl, rfl, rfl, ?_⟩
      change (s.gate.pointer + 1) % 16 = _
      split <;> omega
    · have halone : (s.filtered .closedLimit).proven.selectOwner = _ := State.selectOwner_alone hq hother
      rw [halone, State.beginOpening_timed hshut]
      exact ⟨rfl, rfl, rfl, rfl, rfl⟩
    · have hnobody : (s.filtered .closedLimit).proven.selectOwner = (s.filtered .closedLimit).proven := by
        unfold State.selectOwner
        split
        · rfl
        all_goals simp_all [State.proven, State.onGate]
      rw [hnobody]
      exact ⟨rfl, rfl, rfl, rfl, rfl⟩

end Sys2Proof.Machine
end

section
/-! The room that an append leaves in the notice queue, what a request leaves of the notices that wait, and the filtered change of the
emergency input (R121, R165, R169, R175 to R177). -/

namespace Sys2Proof.Machine

/-! How many notices an append and its consequences make (R155, R165, R169). -/

section Bound

variable (s : State)

/-- The notices that wait, with JOURNAL_LOW and the FAULT of JOURNAL where an append may still make them. -/
def State.noticeBound : Nat :=
  s.port.notices.length + (if s.journal.armed = true then 1 else 0) + (if s.sup.conds.journal = .clear then 1 else 0)

theorem State.length_le_noticeBound : s.port.notices.length ≤ s.noticeBound := by
  unfold State.noticeBound
  omega

theorem State.noticeBound_le : s.noticeBound ≤ s.port.notices.length + 2 := by
  unfold State.noticeBound
  split <;> split <;> omega

theorem State.notify_noticeBound (n : Notice) : (s.notify n).noticeBound ≤ s.noticeBound + 1 := by
  have hlength : (s.notify n).port.notices.length ≤ s.port.notices.length + 1 := Port.notify_length_le _ _
  change (s.notify n).port.notices.length + (if s.journal.armed = true then 1 else 0) +
    (if s.sup.conds.journal = .clear then 1 else 0) ≤ _
  unfold State.noticeBound
  omega

/-- JOURNAL_LOW disarms its own repetition (R169). -/
theorem State.lowCheck_noticeBound : s.lowCheck.noticeBound ≤ s.noticeBound := by
  unfold State.lowCheck
  split
  next h =>
    refine (State.notify_noticeBound _ _).trans (Nat.le_of_eq ?_)
    simp only [State.noticeBound, h.2, if_true]
    simp
    omega
  · exact Nat.le_refl _

/-- A raise of JOURNAL is told once (R155). -/
theorem State.raiseJournal_noticeBound : s.raiseJournal.noticeBound ≤ s.noticeBound := by
  unfold State.raiseJournal
  split
  · exact Nat.le_refl _
  next h =>
    have hget : s.sup.conds.get .journal = .clear := by simpa [State.isRaised] using h
    have hclear : s.sup.conds.journal = .clear := hget
    have hset : (s.setCond .journal true).noticeBound + 1 = s.noticeBound := by
      simp [State.noticeBound, State.setCond, FaultConds.set, hclear]
    refine (State.notify_noticeBound _ _).trans (Nat.le_trans (Nat.succ_le_succ ?_) (Nat.le_of_eq hset))
    split
    · exact State.lowCheck_noticeBound _
    · exact Nat.le_refl _

theorem State.appendUnreserved_noticeBound (side : Option Side) (body : RecordBody) :
    (s.appendUnreserved side body).noticeBound ≤ s.noticeBound := by
  unfold State.appendUnreserved
  split
  · have hlow : (s.appendRaw s.now side body).lowCheck.noticeBound ≤ s.noticeBound := State.lowCheck_noticeBound _
    dsimp only [State.afterAppend]
    split
    · exact (State.raiseJournal_noticeBound _).trans hlow
    · exact hlow
  · exact Nat.le_refl _

end Bound

theorem Port.pump_notices_le (p : Port) : p.pump.notices.length ≤ p.notices.length := by
  unfold Port.pump
  split
  · exact Nat.le_refl _
  split
  · exact Nat.le_refl _
  split
  · split
    · exact Nat.le_refl _
    next n rest hn =>
      rw [hn]
      split <;> simp
  · exact Nat.le_refl _

/-! The port of a request (R175). -/

/-- The port that the owner of a request finds is masked as before, and no more notices wait. -/
theorem State.atOwner_notices (s : State) (tag : Byte) (r : Request) :
    (s.atOwner tag r).port.masked = s.port.masked ∧ (s.atOwner tag r).port.notices.length ≤ s.port.notices.length :=
  ⟨s.port.pump_masked, s.port.pump_notices_le⟩

/-! The emergency input (R121, R148). -/

section Emergency

variable {s : State}

theorem State.debounced_emergency (h : (s.aisle.filters.get .emergency).debounce.isSome) :
    s.debounced (.single .emergency) = (s.filtered .emergency).emergencyChanged := by
  change s.equipmentSettles .emergency = _
  unfold State.equipmentSettles
  split
  next hn => simp [hn] at h
  next => rfl

/-- The filtered state of the emergency input has taken the level given. -/
theorem State.filtered_emergency {level : Bool} (h : s.aisle.filters.emergency.debounce.isSome)
    (hl : (s.aisle.pins.emergency == s.aisle.params.emergency.activeHigh) = level) :
    s.filtered .emergency =
      { s with aisle := { s.aisle with filters := { s.aisle.filters with emergency := { filtered := level, debounce := none } } } } := by
  subst hl
  rw [State.filtered, Aisle.settle_running s.aisle .emergency h]
  rfl

theorem State.emergencyChanged_active (h : s.aisle.active .emergency = true) : s.emergencyChanged = s.joinReason .emergency :=
  if_pos h

theorem State.emergencyChanged_resumes (h : s.aisle.active .emergency = false) (hr : s.gate.reasons.emergency = true)
    (ha : s.gate.autoResume = true) : s.emergencyChanged = s.leaveReason .emergency := by
  simp [State.emergencyChanged, h, hr, ha]

theorem State.emergencyChanged_stays (h : s.aisle.active .emergency = false) (hr : s.gate.reasons.emergency = true)
    (ha : s.gate.autoResume = false) :
    s.emergencyChanged = s.setReasons { s.gate.reasons with emergency := false, command := true } .command := by
  simp [State.emergencyChanged, h, hr, ha]

end Emergency

/-! The set of reasons (R148). -/

section Reasons

variable {s : State} {r : FreeReasons} {reason : FreeReason}

theorem State.setReasons_opens (hw : s.gate.reasons.any = false) (hr : r.any = true) :
    s.setReasons r reason = (s.onGate { s.gate with reasons := r }).enterFreeOpen reason := by
  simp only [State.setReasons, hw, hr]
  rfl

theorem State.setReasons_ends (hw : s.gate.reasons.any = true) (hr : r.any = false) :
    s.setReasons r reason = (s.onGate { s.gate with reasons := r }).endFreeOpen := by
  simp only [State.setReasons, hw, hr]
  rfl

/-- A set that stays empty, or stays not empty, moves nothing. -/
theorem State.setReasons_keeps (h : r.any = s.gate.reasons.any) : s.setReasons r reason = s.onGate { s.gate with reasons := r } := by
  simp only [State.setReasons, h, Bool.not_and_self, Bool.and_not_self]
  rfl

end Reasons

end Sys2Proof.Machine
end

section
/-! The end of free-open: its record, notice and period, the barrier by the next line of R135, and RESUME and the emergency input with
auto-resume (R90, R91, R135, R138 to R140, R148, R150, R153). -/

namespace Sys2Proof.Machine

section End

variable {s u : State}

/-! What is told of the end (R150). -/

theorem State.toldEnd_frame (u : State) :
    ∃ b, u.toldEnd =
      ({ u with tariff := { u.tariff with period := endPeriod u.tariff.period u.tariff.clock } } : State).withBooks b := by
  refine ⟨u.toldEnd, ?_⟩
  dsimp only [State.toldEnd]
  rw [State.appendUnreserved_frame]
  rfl

theorem State.toldEnd_recorded (h : u.journal.reserved < u.free) :
    u.journal.records ++
        [{ seq := u.journal.next, second := u.tariff.clock, side := none, body := .freeOpenEnd u.gate.freeCount }] <+:
      u.toldEnd.journal.records :=
  State.appendUnreserved_made h none (.freeOpenEnd u.gate.freeCount)

theorem State.toldEnd_noticed (hm : u.port.masked.passage = false) (hroom : u.port.notices.length + 2 < 32) :
    .freeOpenEnd u.gate.freeCount ∈ u.toldEnd.port.notices := by
  let told := u.appendUnreserved none (.freeOpenEnd u.gate.freeCount)
  have hmasked : told.port.masked = u.port.masked := by simp [told]
  have hlength : told.port.notices.length ≤ u.port.notices.length + 2 :=
    told.length_le_noticeBound.trans ((u.appendUnreserved_noticeBound _ _).trans u.noticeBound_le)
  have hcount : told.gate.freeCount = u.gate.freeCount := congrArg Gate.freeCount (State.appendUnreserved_gate _ _ _)
  rw [← hcount]
  exact Port.mem_notify (c := .passage) rfl ((congrArg PerClass.passage hmasked).trans hm) (show told.port.notices.length < 32 by omega)

/-- The end of a LOCAL period that has none is the clock's minute, not before its start (R90, R91). -/
theorem endPeriod_local {p : FreePeriod} {now : Nat} (ho : p.origin = .local) (hs : p.stop = none) :
    endPeriod (some p) (some now) = some { p with stop := some (max p.start (now / 60)) } :=
  if_pos ⟨ho, hs⟩

/-! The barrier after free-open (R135, R150). -/

/-- After the telling the barrier alone moves. -/
theorem State.endFreeOpen_drives (u : State) : u.toldEnd.Drives u.endFreeOpen := by
  rw [State.endFreeOpen_eq]
  split
  · exact State.enterBarrier_drives _ _ _ _
  split
  · exact State.enterBarrier_drives _ _ _ _
  split
  · exact u.toldEnd.beginChecking_moves.drives
  · exact (State.enterBarrier_drives _ _ _ _).trans (State.delayEval_drives _)

theorem State.toldEnd_gate (u : State) : u.toldEnd.gate = u.gate := by
  obtain ⟨b, hb⟩ := u.toldEnd_frame
  rw [hb]
  rfl

theorem State.toldEnd_aisle (u : State) : u.toldEnd.aisle = u.aisle := by
  obtain ⟨b, hb⟩ := u.toldEnd_frame
  rw [hb]
  rfl

theorem State.endFreeOpen_held (hh : u.gate.holdOrder = true) :
    u.endFreeOpen.gate.barrier = .held ∧ u.endFreeOpen.gate.drive = u.gate.drive := by
  rw [State.endFreeOpen_eq, u.toldEnd_gate, if_pos hh]
  exact ⟨rfl, (congrArg Gate.drive u.toldEnd_gate :)⟩

theorem State.endFreeOpen_faultClosed (hh : u.gate.holdOrder = false) (hc : u.gate.failClosedOrder = true) :
    u.endFreeOpen.gate.barrier = .faultClosed ∧ u.endFreeOpen.gate.drive = if u.gate.seen.zm then .stop else .close := by
  rw [State.endFreeOpen_eq, u.toldEnd_gate, if_neg (by simp [hh]), if_pos hc]
  exact ⟨rfl, (congrArg (fun g : Gate => if g.seen.zm then Drive.stop else .close) u.toldEnd_gate :)⟩

/-- CHECKING with its limit not yet reached (R140). -/
theorem State.beginChecking_waits (hl : s.aisle.active .closedLimit = false) :
    s.beginChecking.gate.barrier = .checking ∧
      s.beginChecking.gate.travel = (if s.gate.seen.zm then none else some s.gate.travelMs) ∧
      s.beginChecking.gate.drive = if s.gate.seen.zm then .stop else .close := by
  have hunproven : ¬(s.enterBarrier .checking none none).aisle.checkOk = true := by simp [Aisle.checkOk, State.enterBarrier, hl]
  have hseen : (s.enterBarrier .checking none none).gate.seen = s.gate.seen := rfl
  dsimp only [State.beginChecking]
  rw [if_neg hunproven, hseen]
  cases hz : s.gate.seen.zm <;> simp [State.enterBarrier, Gate.enter, driveOf, hz]

theorem State.endFreeOpen_checking (hh : u.gate.holdOrder = false) (hc : u.gate.failClosedOrder = false)
    (hb : u.gate.barrier = .faultOpen) (hl : u.aisle.active .closedLimit = false) :
    u.endFreeOpen.gate.barrier = .checking ∧
      u.endFreeOpen.gate.travel = (if u.gate.seen.zm then none else some u.gate.travelMs) ∧
      u.endFreeOpen.gate.drive = if u.gate.seen.zm then .stop else .close := by
  have hwaits := State.beginChecking_waits (s := u.toldEnd) (by rw [u.toldEnd_aisle]; exact hl)
  rw [State.endFreeOpen_eq, u.toldEnd_gate, if_neg (by simp [hh]), if_neg (by simp [hc]), if_pos hb]
  rw [u.toldEnd_gate] at hwaits
  exact hwaits

/-- CLOSING in CLEARING, before the close delay follows the zones (R139). -/
def State.clearing (u : State) : State :=
  u.toldEnd.enterBarrier .closing (some .clearing) none

theorem State.endFreeOpen_clearing (hh : u.gate.holdOrder = false) (hc : u.gate.failClosedOrder = false)
    (hb : u.gate.barrier = .freeOpen) : u.endFreeOpen = u.clearing.delayEval := by
  rw [State.endFreeOpen_eq, u.toldEnd_gate, if_neg (by simp [hh]), if_neg (by simp [hc]), if_neg (by simp [hb])]
  rfl

theorem State.clearing_gate (u : State) : u.clearing.gate = u.gate.enter .closing (some .clearing) none :=
  congrArg (Gate.enter · .closing (some .clearing) none) u.toldEnd_gate

theorem State.clearing_runs (u : State) :
    u.clearing.gate.delayRuns = !(u.gate.seen.za || u.gate.seen.zm || u.gate.seen.zb) ∧
      u.clearing.gate.delayMs = u.gate.closeDelayMs ∧ u.clearing.gate.closeDelay = none := by
  rw [u.clearing_gate, ← PerZone.allClear_eq]
  exact ⟨rfl, rfl, rfl⟩

/-- The close delay counts, or waits for the zones. -/
theorem State.clearing_waits {occupied : Bool} (ho : (u.gate.seen.za || u.gate.seen.zm || u.gate.seen.zb) = occupied)
    (hd : u.gate.closeDelayMs ≠ 0 ∨ occupied = true) :
    u.clearing.delayEval =
      u.clearing.onGate { u.clearing.gate with closeDelay := if occupied then none else some u.gate.closeDelayMs } := by
  obtain ⟨hruns, hms, hdelay⟩ := u.clearing_runs
  rw [ho] at hruns
  cases occupied with
  | true => exact State.delayEval_stops _ hruns
  | false =>
    have hd : u.gate.closeDelayMs ≠ 0 := hd.resolve_right (by decide)
    rw [State.delayEval_starts _ hruns hdelay (hms ▸ hd), hms]
    rfl

/-- A close delay of 0 with all zones clear drives at once (R138, R139). -/
theorem State.clearing_drives (ho : (u.gate.seen.za || u.gate.seen.zm || u.gate.seen.zb) = false) (hd : u.gate.closeDelayMs = 0) :
    u.clearing.delayEval = u.clearing.beginDriving := by
  obtain ⟨hruns, hms, hdelay⟩ := u.clearing_runs
  rw [ho] at hruns
  rw [State.delayEval_ends _ hruns hdelay (hms.trans hd)]
  exact State.delayExpires_closing (congrArg Gate.barrier u.clearing_gate)

theorem State.clearing_limit (u : State) : u.clearing.aisle.active .closedLimit = u.aisle.active .closedLimit :=
  congrArg (Aisle.active · .closedLimit) u.toldEnd_aisle

section Closing

variable (hh : u.gate.holdOrder = false) (hc : u.gate.failClosedOrder = false) (hb : u.gate.barrier = .freeOpen)
include hh hc hb

theorem State.endFreeOpen_waits
    (hd : u.gate.closeDelayMs ≠ 0 ∨ (u.gate.seen.za || u.gate.seen.zm || u.gate.seen.zb) = true) :
    let g := u.endFreeOpen.gate
    g.barrier = .closing ∧ g.phase = some .clearing ∧ g.owner = none ∧ g.drive = .open_ ∧
      g.closeDelay = if u.gate.seen.za || u.gate.seen.zm || u.gate.seen.zb then none else some u.gate.closeDelayMs := by
  rw [State.endFreeOpen_clearing hh hc hb, State.clearing_waits rfl hd, u.clearing_gate]
  exact ⟨rfl, rfl, rfl, rfl, rfl⟩

theorem State.endFreeOpen_closes (hd : u.gate.closeDelayMs = 0)
    (ho : (u.gate.seen.za || u.gate.seen.zm || u.gate.seen.zb) = false) (hl : u.aisle.active .closedLimit = false) :
    let g := u.endFreeOpen.gate
    g.barrier = .closing ∧ g.phase = some .driving ∧ g.owner = none ∧ g.drive = .close ∧ g.closeDelay = none ∧
      g.travel = some u.gate.travelMs := by
  rw [State.endFreeOpen_clearing hh hc hb, State.clearing_drives ho hd, State.beginDriving_timed _ (u.clearing_limit.trans hl),
    u.clearing_gate]
  exact ⟨rfl, rfl, rfl, rfl, rfl, rfl⟩

theorem State.endFreeOpen_closed (hd : u.gate.closeDelayMs = 0)
    (ho : (u.gate.seen.za || u.gate.seen.zm || u.gate.seen.zb) = false) (hl : u.aisle.active .closedLimit = true)
    (hq : u.gate.queues = { a := [], b := [] }) :
    let g := u.endFreeOpen.gate
    g.barrier = .closed ∧ g.phase = none ∧ g.owner = none ∧ g.drive = .close ∧ g.closeDelay = none ∧ g.travel = none := by
  have hempty : u.clearing.gate.queues = { a := [], b := [] } := by
    rw [u.clearing_gate]
    exact hq
  rw [State.endFreeOpen_clearing hh hc hb, State.clearing_drives ho hd,
    State.beginDriving_closed _ (u.clearing_limit.trans hl) (by rw [hempty]) (by rw [hempty])]
  exact ⟨rfl, rfl, rfl, rfl, rfl, rfl⟩

end Closing

/-! The end of free-open as a whole (R150). -/

/-- What the end of free-open leaves, seen from the state in which the last reason leaves. -/
def State.FreeOpenEnded (s t : State) : Prop :=
  let g := s.gate
  t.gate.reasons = { emergency := false, command := false, fault := false } ∧
  (s.journal.reserved < 2048 - s.journal.records.length →
    s.journal.records ++
      [{ seq := s.journal.next, second := s.tariff.clock, side := none, body := .freeOpenEnd g.freeCount }]
      <+: t.journal.records) ∧
  (s.port.masked.passage = false → s.port.notices.length + 2 < 32 → t.port.tells (.freeOpenEnd g.freeCount)) ∧
  (∀ p now, s.tariff.period = some p → p.origin = .local → p.stop = none → s.tariff.clock = some now →
    t.tariff.period = some { p with stop := some (max p.start (now / 60)) }) ∧
  (g.holdOrder = true → t.gate.barrier = .held ∧ t.gate.drive = g.drive) ∧
  (g.holdOrder = false → g.failClosedOrder = true → t.gate.barrier = .faultClosed ∧
    t.gate.drive = if g.seen.zm then .stop else .close) ∧
  (g.holdOrder = false → g.failClosedOrder = false → g.barrier = .faultOpen → s.aisle.active .closedLimit = false →
    t.gate.barrier = .checking ∧ t.gate.travel = (if g.seen.zm then none else some g.travelMs) ∧
      t.gate.drive = if g.seen.zm then .stop else .close) ∧
  (g.holdOrder = false → g.failClosedOrder = false → g.barrier = .freeOpen →
    let occupied := g.seen.za || g.seen.zm || g.seen.zb
    (g.closeDelayMs ≠ 0 ∨ occupied = true →
      t.gate.barrier = .closing ∧ t.gate.phase = some .clearing ∧ t.gate.owner = none ∧ t.gate.drive = .open_ ∧
        t.gate.closeDelay = if occupied then none else some g.closeDelayMs) ∧
    (g.closeDelayMs = 0 → occupied = false → s.aisle.active .closedLimit = false →
      t.gate.barrier = .closing ∧ t.gate.phase = some .driving ∧ t.gate.owner = none ∧ t.gate.drive = .close ∧
        t.gate.closeDelay = none ∧ t.gate.travel = some g.travelMs) ∧
    (g.closeDelayMs = 0 → occupied = false → s.aisle.active .closedLimit = true → g.queues = { a := [], b := [] } →
      t.gate.barrier = .closed ∧ t.gate.phase = none ∧ t.gate.owner = none ∧ t.gate.drive = .close ∧
        t.gate.closeDelay = none ∧ t.gate.travel = none))

/-- The state differs from `s` in the reasons, and otherwise only in what free-open does not look at: no more notices wait. -/
structure State.WithReasons (s u : State) (r : FreeReasons) : Prop where
  gate : u.gate = { s.gate with reasons := r }
  journal : u.journal = s.journal
  tariff : u.tariff = s.tariff
  limit : u.aisle.active .closedLimit = s.aisle.active .closedLimit
  masked : u.port.masked = s.port.masked
  notices : u.port.notices.length ≤ s.port.notices.length

theorem State.WithReasons.ended {t : State} (h : s.WithReasons u { emergency := false, command := false, fault := false })
    (ht : t = { u.endFreeOpen with port := t.port })
    (htells : ∀ n ∈ u.endFreeOpen.port.notices, t.port.tells n) : s.FreeOpenEnded t := by
  have hgate : t.gate = u.endFreeOpen.gate := (congrArg State.gate ht :)
  obtain ⟨hdrives, -⟩ := u.endFreeOpen_drives
  have htold : t.journal = u.toldEnd.journal ∧ t.tariff = u.toldEnd.tariff ∧ u.endFreeOpen.port = u.toldEnd.port := by
    rw [ht, hdrives]
    exact ⟨rfl, rfl, rfl⟩
  obtain ⟨hjournal, htariff, hport⟩ := htold
  have hreasons : t.gate.reasons = u.gate.reasons := (congrArg Gate.reasons hgate).trans (congrArg Footing.reasons u.endFreeOpen_footing)
  have hug := h.gate
  refine ⟨hreasons.trans (by rw [hug]), fun hroom => ?record, fun hm hroom => ?notice, fun p now hp ho hs hnow => ?period, fun hh => ?held,
    fun hh hc => ?faultClosed, fun hh hc hb hl => ?checking, fun hh hc hb => ?clearing⟩
  case record =>
    have hrecord := State.toldEnd_recorded (u := u) (by rw [State.free, h.journal]; exact hroom)
    rw [h.journal, h.tariff, hug] at hrecord
    rw [hjournal]
    exact hrecord
  case notice =>
    have hnotice := State.toldEnd_noticed (u := u) (by rw [h.masked]; exact hm) (by have := h.notices; omega)
    rw [← hport, hug] at hnotice
    exact htells _ hnotice
  case period =>
    obtain ⟨b, hb⟩ := u.toldEnd_frame
    rw [htariff, hb]
    change endPeriod u.tariff.period u.tariff.clock = _
    rw [h.tariff, hp, hnow]
    exact endPeriod_local ho hs
  case held =>
    have hheld := State.endFreeOpen_held (u := u) (by rw [hug]; exact hh)
    rw [hgate]
    rwa [hug] at hheld
  case faultClosed =>
    have hclosed := State.endFreeOpen_faultClosed (u := u) (by rw [hug]; exact hh) (by rw [hug]; exact hc)
    rw [hgate]
    rwa [hug] at hclosed
  case checking =>
    have hchecking := State.endFreeOpen_checking (u := u) (by rw [hug]; exact hh) (by rw [hug]; exact hc) (by rw [hug]; exact hb)
      (h.limit.trans hl)
    rw [hgate]
    rwa [hug] at hchecking
  case clearing =>
    have hh : u.gate.holdOrder = false := by rw [hug]; exact hh
    have hc : u.gate.failClosedOrder = false := by rw [hug]; exact hc
    have hb : u.gate.barrier = .freeOpen := by rw [hug]; exact hb
    have hwaits := State.endFreeOpen_waits hh hc hb
    have hcloses := State.endFreeOpen_closes hh hc hb
    have hclosed := State.endFreeOpen_closed hh hc hb
    rw [h.limit] at hcloses hclosed
    rw [← hgate, hug] at hwaits hcloses hclosed
    exact ⟨hwaits, hcloses, hclosed⟩

end End

/-! The reasons that leave (R148, R153). -/

section Leave

variable {s : State}

theorem State.commandResume_no (h : s.aisle.active .emergency = true ∨ s.gate.reasons.command = false) :
    s.gateCommand 2 = s.no .notNow :=
  if_pos h

theorem State.commandResume_ok (hq : s.aisle.active .emergency = false) (hc : s.gate.reasons.command = true) :
    s.gateCommand 2 = (s.setReasons { s.gate.reasons with command := false } .command).ok [0] := by
  have hallowed : ¬(s.aisle.active .emergency = true ∨ s.gate.reasons.command = false) := by simp [hq, hc]
  exact if_neg hallowed

theorem State.leaves_keeps {r : FreeReasons} {reason : FreeReason} (hw : s.gate.reasons.any = true)
    (hr : r.emergency = true ∨ r.command = true ∨ r.fault = true) : s.setReasons r reason = s.onGate { s.gate with reasons := r } := by
  refine State.setReasons_keeps (Eq.trans ?_ hw.symm)
  simpa [FreeReasons.any, or_assoc] using hr

theorem State.leaves_empty {r : FreeReasons} {reason : FreeReason} (hw : s.gate.reasons.any = true)
    (hr : r = { emergency := false, command := false, fault := false }) :
    s.setReasons r reason =
      (s.onGate { s.gate with reasons := { emergency := false, command := false, fault := false } }).endFreeOpen := by
  subst hr
  exact State.setReasons_ends hw rfl

/-- The emergency input that ends with auto-resume ENABLED (R148). -/
theorem State.debounced_resumes (hd : s.aisle.filters.emergency.debounce.isSome)
    (hl : (s.aisle.pins.emergency == s.aisle.params.emergency.activeHigh) = false) (he : s.gate.reasons.emergency = true)
    (ha : s.gate.autoResume = true) :
    s.debounced (.single .emergency) =
      (s.filtered .emergency).setReasons { s.gate.reasons with emergency := false } .emergency := by
  have hinactive : (s.filtered .emergency).aisle.active .emergency = false := (State.filtered_active (i := .emergency) hd).trans hl
  rw [State.debounced_emergency hd]
  exact State.emergencyChanged_resumes hinactive he ha

end Leave

/-- Settles O41: the request and the emergency input let their reason leave, and the empty set ends free-open. -/
theorem resumeEndsFreeOpen : Obligations.ResumeEndsFreeOpen := by
  intro s tag g ended
  refine ⟨fun h => ⟨fun hrefused => ?refused, fun hquiet hcommand => ⟨fun hother => ?command, fun hemergency hfault => ?resumed⟩⟩,
    fun hdebounce hlevel hemergency hauto => ⟨fun hother => ?emergency, fun hcommand hfault => ?ended⟩⟩
  case refused => exact congrArg Host.Outcome.next (State.gateCommand_no (code := 2) h (State.commandResume_no hrefused))
  case command =>
    have hreasons := State.leaves_keeps (s := s.atOwner tag (.gateCommand 2)) (r := { g.reasons with command := false })
      (reason := .command) (by simp [State.atOwner, FreeReasons.any, g, hcommand]) (hother.imp_right .inr)
    exact congrArg Host.Outcome.next (State.request_reply (a := { result := .ok, fields := [0] })
      (v := s.onGate { g with reasons := { g.reasons with command := false } }) h rfl nofun rfl (.inl rfl)
      (congrArg answered ((State.commandResume_ok (s := s.atOwner tag (.gateCommand 2)) hquiet hcommand).trans
        (congrArg (State.ok · [0]) hreasons))))
  case resumed =>
    have hends := State.leaves_empty (s := s.atOwner tag (.gateCommand 2)) (r := { g.reasons with command := false })
      (reason := .command) (by simp [State.atOwner, FreeReasons.any, g, hcommand]) (by simp [hemergency, hfault])
    obtain ⟨p, hp, hmade, htells⟩ := State.gateCommand_told h
      ((State.commandResume_ok (s := s.atOwner tag (.gateCommand 2)) hquiet hcommand).trans (congrArg (State.ok · [0]) hends))
    obtain ⟨hmasked, hnotices⟩ := s.atOwner_notices tag (.gateCommand 2)
    have hemptied : s.WithReasons ((s.atOwner tag (.gateCommand 2)).onGate
        { s.gate with reasons := { emergency := false, command := false, fault := false } }) _ :=
      ⟨rfl, rfl, rfl, rfl, hmasked, hnotices⟩
    exact ⟨_, congrArg Host.Outcome.next hp, hemptied.ended rfl htells, hmade⟩
  case emergency =>
    have hreasons := State.leaves_keeps (s := s.filtered .emergency) (r := { g.reasons with emergency := false })
      (reason := .emergency) (by simp [FreeReasons.any, g, hemergency]) (.inr hother)
    rw [State.filtered_emergency hdebounce hlevel] at hreasons
    have hresumes := State.debounced_resumes hdebounce hlevel hemergency hauto
    rw [State.filtered_emergency hdebounce hlevel] at hresumes
    exact congrArg (fun t : State => Host.Outcome.next t.pump) (hresumes.trans hreasons)
  case ended =>
    have hends := State.leaves_empty (s := s.filtered .emergency) (r := { g.reasons with emergency := false })
      (reason := .emergency) (by simp [FreeReasons.any, g, hemergency]) (by simp [hcommand, hfault])
    have hresumes := (State.debounced_resumes hdebounce hlevel hemergency hauto).trans hends
    have hemptied : s.WithReasons ((s.filtered .emergency).onGate
        { s.gate with reasons := { emergency := false, command := false, fault := false } }) _ :=
      ⟨rfl, rfl, rfl, State.filtered_active_ne (by decide), rfl, Nat.le_refl _⟩
    refine ⟨_, congrArg (fun t : State => Host.Outcome.next t.pump) hresumes, hemptied.ended rfl fun n hn => Port.mem_pump hn, ?_⟩
    have haisle := congrArg Footing.aisle (State.endFreeOpen_footing ((s.filtered .emergency).onGate
      { s.gate with reasons := { emergency := false, command := false, fault := false } }))
    have hfiltered : (s.filtered .emergency).aisle.filters.emergency.filtered = false := by
      rw [State.filtered_emergency hdebounce hlevel]
    exact (congrArg (fun x : Aisle => x.filters.emergency.filtered) haisle).trans hfiltered

end Sys2Proof.Machine
end

section
/-! Free-open begins: the cancellations and the start are told within the room that is left, and the transactions before their commit point
end (R45, R91, R132, R133, R135, R148, R149, R153). -/

namespace Sys2Proof.Machine

/-! The records and notices of the cancellations (R133, R165). -/

/-- The records grow, the reservations and masks stay, and the room taken is that of `k` authorisations that end unused: a record, and the
notices of a sighting and of a passage each. -/
structure State.Tells (s t : State) (k : Nat) : Prop where
  grows : s.JournalGrows t
  masked : t.port.masked = s.port.masked
  records : t.recordBound ≤ s.recordBound + k
  notices : t.noticeBound ≤ s.noticeBound + 2 * k

section Tells

variable {s t u : State} {k n : Nat}

theorem State.Tells.refl (s : State) : s.Tells s 0 :=
  ⟨.refl s, rfl, Nat.le_refl _, Nat.le_refl _⟩

theorem State.Tells.trans (h : s.Tells t k) (h' : t.Tells u n) : s.Tells u (k + n) where
  grows := h.grows.trans h'.grows
  masked := h'.masked.trans h.masked
  records := by have := h.records; have := h'.records; omega
  notices := by have := h.notices; have := h'.notices; omega

theorem State.reportPassage_books (s : State) (card : CardId) (outcome : PassageState) :
    s.JournalGrows (s.reportPassage card outcome) ∧ (s.reportPassage card outcome).recordBound = s.recordBound ∧
      (s.reportPassage card outcome).noticeBound ≤ s.noticeBound + 1 := by
  unfold State.reportPassage
  split
  · exact ⟨.refl s, rfl, Nat.le_succ _⟩
  next x _ =>
    split
    · exact ⟨.refl s, rfl,
        State.notify_noticeBound { s with screen := s.screen.putSighting { x with passage := outcome } } _⟩
    · exact ⟨.refl s, rfl, Nat.le_succ _⟩

/-- A record and its notice, after at most one notice. -/
theorem State.JournalGrows.tells (hj : s.JournalGrows u) (hm : u.port.masked = s.port.masked) (hr : u.recordBound = s.recordBound)
    (hn : u.noticeBound ≤ s.noticeBound + 1) (side : Option Side) (body : RecordBody) (n : Notice) :
    s.Tells ((u.appendUnreserved side body).notify n) 1 where
  grows := hj.trans (u.appendUnreserved_grows _ _)
  masked := by simpa using hm
  records := hr ▸ u.appendUnreserved_recordBound side body
  notices := by
    have hnotify := (u.appendUnreserved side body).notify_noticeBound n
    have happend := u.appendUnreserved_noticeBound side body
    omega

theorem State.endUnused_tells (s : State) (sd : Side) (x : Auth) (reason : NotTakenReason) : s.Tells (s.endUnused sd x reason) 1 := by
  dsimp only [State.endUnused]
  split
  next card _ =>
    obtain ⟨hj, hr, hn⟩ := s.reportPassage_books card .notTaken
    exact hj.tells (by simp) hr hn _ _ _
  · exact (State.JournalGrows.refl s).tells rfl rfl (Nat.le_succ _) _ _ _

theorem State.cancelList_tells (s : State) (sd : Side) (l : List Auth) : s.Tells (s.cancelList sd l) l.length := by
  induction l generalizing s with
  | nil => exact .refl s
  | cons x xs ih =>
    rw [List.length_cons, Nat.add_comm]
    exact (s.endUnused_tells sd x .cancelled).trans (ih _)

theorem State.cancelAll_tells (s : State) : s.Tells s.cancelAll (s.gate.queues.a.length + s.gate.queues.b.length) := by
  have hcleared := (State.cancelList_tells (s.onGate { s.gate with queues := { a := [], b := [] } }) .a s.gate.queues.a).trans
    (State.cancelList_tells _ .b s.gate.queues.b)
  exact ⟨hcleared.grows, hcleared.masked, hcleared.records, hcleared.notices⟩

end Tells

/-! The end of a transaction leaves what has been told (R37). -/

/-- No record and no notice is lost, and the free period is the same. -/
structure State.Piles (s t : State) : Prop where
  records : s.journal.records <+: t.journal.records
  notices : s.port.notices <+: t.port.notices
  period : t.tariff.period = s.tariff.period

section Piles

variable {s t u : State}

theorem State.Piles.refl (s : State) : s.Piles s :=
  ⟨List.prefix_rfl, List.prefix_rfl, rfl⟩

theorem State.Piles.trans (h : s.Piles t) (k : t.Piles u) : s.Piles u :=
  ⟨h.records.trans k.records, h.notices.trans k.notices, k.period.trans h.period⟩

theorem State.Piles.ite {c : Prop} [Decidable c] (h : s.Piles t) (k : s.Piles u) : s.Piles (if c then t else u) := by
  split
  · exact h
  · exact k

theorem Port.notify_prefix (p : Port) (n : Notice) : p.notices <+: (p.notify n).notices := by
  have hpush : p.notices <+: (p.push n).notices := by
    unfold Port.push
    split
    · exact List.prefix_append _ _
    · exact List.prefix_rfl
  unfold Port.notify
  split
  · exact hpush
  · split
    · split <;> exact List.prefix_rfl
    · exact hpush

theorem State.notify_piles (s : State) (n : Notice) : s.Piles (s.notify n) :=
  ⟨List.prefix_rfl, s.port.notify_prefix n, rfl⟩

theorem State.appendRaw_piles (s : State) (second : Option Nat) (side : Option Side) (body : RecordBody) :
    s.Piles (s.appendRaw second side body) :=
  ⟨List.prefix_append _ _, List.prefix_rfl, rfl⟩

theorem State.lowCheck_piles (s : State) : s.Piles s.lowCheck :=
  .ite ⟨List.prefix_rfl, Port.notify_prefix _ _, rfl⟩ (.refl s)

theorem State.raiseJournal_piles (s : State) : s.Piles s.raiseJournal := by
  have hset : s.Piles (s.setCond .journal true) := ⟨List.prefix_rfl, List.prefix_rfl, rfl⟩
  refine .ite (.refl s) (State.Piles.trans (hset.trans ?_) (State.notify_piles _ _))
  exact .ite ((State.appendRaw_piles _ _ _ _).trans (State.lowCheck_piles _)) (.refl _)

theorem State.appendReserved_piles (s : State) (second : Option Nat) (side : Option Side) (body : RecordBody) :
    s.Piles (s.appendReserved second side body) := by
  have hreleased : s.Piles { s with journal := { s.journal with reserved := s.journal.reserved - 1 } } :=
    ⟨List.prefix_rfl, List.prefix_rfl, rfl⟩
  have happended := hreleased.trans (State.appendRaw_piles _ second side body)
  have hlow := happended.trans (State.lowCheck_piles _)
  exact .ite (hlow.trans (State.raiseJournal_piles _)) hlow

theorem State.detach_piles (s : State) (card : CardId) : s.Piles (s.detach card) := by
  unfold State.detach
  split
  · exact .refl s
  next e _ =>
    have hremoved : s.Piles (s.removeEntry e.card) := ⟨List.prefix_rfl, List.prefix_rfl, rfl⟩
    exact .ite (hremoved.trans (State.appendReserved_piles _ _ _ _)) ⟨List.prefix_rfl, List.prefix_rfl, rfl⟩

theorem State.releaseTx_piles (s : State) (sd : Side) (x : Transaction) : s.Piles (s.releaseTx sd x) := by
  have hreleased : s.Piles (if x.journalHeld then (s.setReservation sd .absent).unreserve else s.setReservation sd .absent) :=
    .ite ⟨List.prefix_rfl, List.prefix_rfl, rfl⟩ ⟨List.prefix_rfl, List.prefix_rfl, rfl⟩
  dsimp only [State.releaseTx]
  split
  · exact hreleased.trans (State.detach_piles _ _)
  · exact hreleased

theorem State.finishTx_piles (s : State) (sd : Side) (f : Finish) : s.Piles (s.finishTx sd f) := by
  cases hx : (s.ctx sd).tx with
  | none =>
    rw [State.finishTx, hx]
    exact .refl s
  | some x =>
    obtain ⟨fares, pin, hclose, -⟩ := (s.closing sd x f).closeContext_eq sd
    have hreleased := s.releaseTx_piles sd x
    rw [State.finishTx_eq f hx, hclose, State.closing]
    exact ⟨hreleased.records, hreleased.notices.trans (Port.notify_prefix _ _), hreleased.period⟩

theorem State.abortBoth_piles (s : State) (o : TapOutcome) : s.Piles (s.abortBoth o) := by
  have habort (u : State) (sd : Side) : u.Piles (u.abortTx sd o) := .ite (u.finishTx_piles sd _) (.refl u)
  exact (habort s .a).trans (habort _ .b)

end Piles

/-! No transaction before its commit point goes on (R45). -/

section Aborted

variable (s : State) (sd : Side)

theorem State.finishTx_ctx (f : Finish) :
    ((s.finishTx sd f).ctx sd).tx = none ∧ (s.finishTx sd f).ctx sd.other = s.ctx sd.other := by
  cases hx : (s.ctx sd).tx with
  | none =>
    have hsame : s.finishTx sd f = s := by simp only [State.finishTx, hx]
    rw [hsame]
    exact ⟨hx, rfl⟩
  | some x =>
    obtain ⟨fares, pin, hclose, -⟩ := (s.closing sd x f).closeContext_eq sd
    obtain ⟨d, b, hrelease⟩ := s.releaseTx_frame sd x
    rw [State.finishTx_eq f hx, hclose, State.closing, hrelease]
    exact ⟨congrArg Context.tx (PerSide.get_set_self _ _ _), PerSide.get_set_other _ _ _⟩

/-- A side whose transaction, if it has one, is at its commit point or past it. -/
def State.Committed (s : State) (sd : Side) : Prop :=
  ∀ x, (s.ctx sd).tx = some x → (s.ctx sd).state.beforeCommit = false

theorem State.abortTx_committed (o : TapOutcome) :
    (s.abortTx sd o).Committed sd ∧ (s.abortTx sd o).ctx sd.other = s.ctx sd.other := by
  unfold State.abortTx
  split
  · obtain ⟨hnone, hother⟩ := s.finishTx_ctx sd { outcome := o }
    exact ⟨fun x hx => absurd (hnone.symm.trans hx) nofun, hother⟩
  next h => exact ⟨fun _ _ => Bool.eq_false_iff.mpr h, rfl⟩

theorem State.abortBoth_committed (o : TapOutcome) : (s.abortBoth o).Committed sd := by
  obtain ⟨ha, -⟩ := s.abortTx_committed .a o
  obtain ⟨hb, hkept⟩ := (s.abortTx .a o).abortTx_committed .b o
  have hkept : (s.abortBoth o).ctx .a = (s.abortTx .a o).ctx .a := hkept
  cases sd with
  | a =>
    intro x hx
    rw [hkept] at hx ⊢
    exact ha x hx
  | b => exact hb

theorem CtxState.notMem_of_committed {c : CtxState} (h : c.beforeCommit = false) :
    c ∉ [CtxState.claiming, .reading, .screening, .pricing] := by
  cases c <;> revert h <;> decide

end Aborted

end Sys2Proof.Machine
end

section
/-! The start of free-open as a whole, by FREE_OPEN and by the emergency input (R91, R135, R148, R149, R153). -/

namespace Sys2Proof.Machine

section Start

variable {s u : State}

theorem State.Told.tariff (h : s.Told u) : u.tariff = s.tariff := by
  obtain ⟨_, _, rfl⟩ := h
  rfl

theorem State.swungOpen_tariff (u : State) : u.swungOpen.tariff = u.tariff :=
  u.cancelAll_told.tariff

theorem State.swungOpen_gate (u : State) :
    u.swungOpen.gate =
      { (u.gate.cleared .freeOpen).enter (if u.gate.unverified then .faultOpen else .freeOpen) none none with freeCount := 0 } := by
  dsimp only [State.swungOpen]
  rw [u.cleared_gate]
  rfl

theorem State.openPeriod_frame (u : State) : ∃ period, u.openPeriod = { u with tariff := { u.tariff with period := period } } := by
  unfold State.openPeriod
  split
  · exact ⟨_, rfl⟩
  · exact ⟨u.tariff.period, rfl⟩

/-- The gate open, with its period begun, before the start is told (R91, R149). -/
def State.periodBegun (u : State) : State :=
  u.swungOpen.openPeriod

theorem State.periodBegun_gate (u : State) : u.periodBegun.gate = u.swungOpen.gate := by
  obtain ⟨period, h⟩ := u.swungOpen.openPeriod_frame
  rw [State.periodBegun, h]

theorem State.periodBegun_clock (u : State) : u.periodBegun.tariff.clock = u.tariff.clock := by
  obtain ⟨period, h⟩ := u.swungOpen.openPeriod_frame
  rw [State.periodBegun, h]
  exact (congrArg TariffUnit.clock u.swungOpen_tariff :)

theorem State.periodBegun_period {now : Nat} (hnow : u.tariff.clock = some now) :
    u.periodBegun.tariff.period = some { start := now / 60, stop := none, origin := .local } := by
  have hclock : u.swungOpen.now = some now := (congrArg TariffUnit.clock u.swungOpen_tariff).trans hnow
  simp only [State.periodBegun, State.openPeriod, hclock]
  rfl

theorem State.periodBegun_tells (u : State) : u.Tells u.periodBegun (u.gate.queues.a.length + u.gate.queues.b.length) := by
  obtain ⟨period, h⟩ := u.swungOpen.openPeriod_frame
  have hcancelled := u.cancelAll_tells
  rw [State.periodBegun, h]
  exact ⟨hcancelled.grows, hcancelled.masked, hcancelled.records, hcancelled.notices⟩

/-- The record and the notice of the start (R149). -/
def State.toldStart (u : State) (reason : FreeReason) : State :=
  let cancelled := u.gate.queues.a.length + u.gate.queues.b.length
  (u.periodBegun.appendUnreserved none (.freeOpenStart reason cancelled u.gate.heldCount)).notify (.freeOpenStart cancelled u.gate.heldCount)

theorem State.enterFreeOpen_eq (u : State) (reason : FreeReason) : u.enterFreeOpen reason = (u.toldStart reason).abortBoth .freeOpen := rfl

theorem State.toldStart_frame (u : State) (reason : FreeReason) : ∃ b, u.toldStart reason = u.periodBegun.withBooks b := by
  refine ⟨u.toldStart reason, ?_⟩
  dsimp only [State.toldStart]
  rw [State.appendUnreserved_frame]
  rfl

theorem State.toldStart_gate (u : State) (reason : FreeReason) : (u.toldStart reason).gate = u.swungOpen.gate := by
  obtain ⟨b, h⟩ := u.toldStart_frame reason
  rw [h, ← u.periodBegun_gate]
  rfl

/-- The record of the start stands after what was there, where the cancellations leave room for it. -/
theorem State.toldStart_recorded (reason : FreeReason)
    (hroom : u.journal.records.length + u.journal.reserved + (u.gate.queues.a.length + u.gate.queues.b.length) + 1 < 2048) :
    ∃ l q, u.journal.records ++ l ++ [q] <+: (u.toldStart reason).journal.records ∧ q.second = u.tariff.clock ∧ q.side = none ∧
      q.body = .freeOpenStart reason (u.gate.queues.a.length + u.gate.queues.b.length) u.gate.heldCount := by
  have htells := u.periodBegun_tells
  obtain ⟨⟨l, hl⟩, hreserved⟩ := htells.grows
  have hlength := u.periodBegun.length_le_recordBound.trans (htells.records.trans (Nat.add_le_add_right u.recordBound_le _))
  have hfree : u.periodBegun.free > u.periodBegun.journal.reserved := by
    rw [State.free, hreserved]
    omega
  have hmade := State.appendUnreserved_made hfree none
    (.freeOpenStart reason (u.gate.queues.a.length + u.gate.queues.b.length) u.gate.heldCount)
  rw [← hl] at hmade
  exact ⟨l, _, hmade, u.periodBegun_clock, rfl, rfl⟩

theorem State.toldStart_grows (u : State) (reason : FreeReason) : u.journal.records <+: (u.toldStart reason).journal.records :=
  u.periodBegun_tells.grows.1.trans (State.appendUnreserved_grows _ _ _).1

theorem State.toldStart_noticed (reason : FreeReason) (hm : u.port.masked.passage = false)
    (hroom : u.port.notices.length + 2 * (u.gate.queues.a.length + u.gate.queues.b.length) + 2 < 32) :
    .freeOpenStart (u.gate.queues.a.length + u.gate.queues.b.length) u.gate.heldCount ∈ (u.toldStart reason).port.notices := by
  let told := u.periodBegun.appendUnreserved none
    (.freeOpenStart reason (u.gate.queues.a.length + u.gate.queues.b.length) u.gate.heldCount)
  have htells := u.periodBegun_tells
  have hmasked : told.port.masked = u.port.masked := Eq.trans (by simp [told]) htells.masked
  have hlength : told.port.notices.length ≤ _ := told.length_le_noticeBound.trans
    ((u.periodBegun.appendUnreserved_noticeBound _ _).trans (htells.notices.trans (Nat.add_le_add_right u.noticeBound_le _)))
  exact Port.mem_notify (c := .passage) rfl ((congrArg PerClass.passage hmasked).trans hm)
    (show told.port.notices.length < 32 by omega)

/-! The start seen from the state in which the first reason joins (R148, R149). -/

/-- The gate, the free period and the contexts after the start. -/
def State.FreeOpened (s t : State) : Prop :=
  t.gate.queues = { a := [], b := [] } ∧ (∀ sd, t.gate.reservations.get sd ≠ .held) ∧ t.gate.owner = none ∧ t.gate.travel = none ∧
    t.gate.closeDelay = none ∧ t.gate.phase = none ∧ t.gate.drive = .open_ ∧ t.gate.freeCount = 0 ∧
    t.gate.barrier = (if s.gate.unverified then .faultOpen else .freeOpen) ∧
    (∀ now, s.tariff.clock = some now → t.tariff.period = some { start := now / 60, stop := none, origin := .local }) ∧
    (∀ sd x, (t.ctx sd).tx = some x → (t.ctx sd).state ∉ [CtxState.claiming, .reading, .screening, .pricing])

/-- What is told of the start. -/
def State.StartTold (s t : State) (reason : FreeReason) : Prop :=
  let cancelled := s.gate.queues.a.length + s.gate.queues.b.length
  s.journal.records <+: t.journal.records ∧
  (s.journal.records.length + s.journal.reserved + cancelled + 1 < 2048 →
    ∃ q ∈ t.journal.records.drop s.journal.records.length,
      q.second = s.tariff.clock ∧ q.side = none ∧ q.body = .freeOpenStart reason cancelled s.gate.heldCount) ∧
  (s.port.masked.passage = false → s.port.notices.length + 2 * cancelled + 2 < 32 →
    t.port.tells (.freeOpenStart cancelled s.gate.heldCount))

theorem Reservation.withdraw_ne_held (r : Reservation) (c : WithdrawCause) : r.withdraw c ≠ .held := by
  cases r <;> nofun

/-- A state with another port. -/
def State.onPort (s : State) (p : Port) : State :=
  { s with port := p }

section WithReasons

variable {r : FreeReasons} {reason : FreeReason} {p : Port} (h : s.WithReasons u r)
include h

theorem State.WithReasons.opened :
    s.FreeOpened ((u.enterFreeOpen reason).onPort p) ∧ ((u.enterFreeOpen reason).onPort p).gate.reasons = r := by
  obtain ⟨q, hfreed, hq⟩ := (u.toldStart reason).abortBoth_freed .freeOpen
  have hgate : ((u.enterFreeOpen reason).onPort p).gate = { u.swungOpen.gate with reservations := q } := by
    rw [← u.toldStart_gate reason]
    exact hfreed
  have hperiod : ((u.enterFreeOpen reason).onPort p).tariff.period = u.periodBegun.tariff.period := by
    obtain ⟨b, hb⟩ := u.toldStart_frame reason
    exact ((u.toldStart reason).abortBoth_piles .freeOpen).period.trans (by rw [hb]; rfl)
  rw [u.swungOpen_gate, h.gate] at hgate
  rw [u.toldStart_gate, u.swungOpen_gate] at hq
  refine ⟨⟨by rw [hgate]; rfl, fun sd hheld => ?_, by rw [hgate]; rfl, by rw [hgate]; rfl, by rw [hgate]; rfl, by rw [hgate]; rfl, ?_,
    by rw [hgate], by rw [hgate]; rfl, fun now hnow => ?_, fun sd x hx => ?_⟩, by rw [hgate]; rfl⟩
  · rw [hgate] at hheld
    rcases hq sd with hkept | habsent
    · have hwithdrawn := hkept.symm.trans hheld
      cases sd <;> exact Reservation.withdraw_ne_held _ _ hwithdrawn
    · exact absurd (habsent.symm.trans hheld) nofun
  · rw [hgate]
    change driveOf (if s.gate.unverified then .faultOpen else .freeOpen) none _ _ = _
    split <;> rfl
  · exact hperiod.trans (State.periodBegun_period ((congrArg TariffUnit.clock h.tariff).trans hnow))
  · exact CtxState.notMem_of_committed (State.abortBoth_committed _ sd .freeOpen x hx)

theorem State.WithReasons.startTold (htells : ∀ n ∈ (u.enterFreeOpen reason).port.notices, p.tells n) :
    s.StartTold ((u.enterFreeOpen reason).onPort p) reason := by
  have hpiles := (u.toldStart reason).abortBoth_piles .freeOpen
  have hjournal : ((u.enterFreeOpen reason).onPort p).journal = (u.enterFreeOpen reason).journal := rfl
  have hug := h.gate
  refine ⟨?_, fun hroom => ?_, fun hm hroom => ?_⟩
  · rw [hjournal, ← h.journal]
    exact (u.toldStart_grows reason).trans hpiles.records
  · obtain ⟨l, q, hprefix, hq⟩ := State.toldStart_recorded (u := u) reason (by rw [h.journal, hug]; exact hroom)
    obtain ⟨rest, hrest⟩ := hprefix.trans hpiles.records
    rw [h.tariff, hug] at hq
    refine ⟨q, ?_, hq⟩
    rw [hjournal, State.enterFreeOpen_eq, ← hrest, h.journal]
    simp
  · have hnotice := State.toldStart_noticed (u := u) reason (by rw [h.masked]; exact hm)
      (by have := h.notices; rw [hug]; dsimp only; omega)
    rw [hug] at hnotice
    exact htells _ (hpiles.notices.subset hnotice)

end WithReasons

end Start

/-! The reasons that join (R148, R153). -/

section Join

variable {s : State} {reason : FreeReason}

theorem State.joins_first (hr : s.gate.reasons = { emergency := false, command := false, fault := false }) :
    s.joinReason reason =
      (s.onGate { s.gate with
        reasons := FreeReasons.join { emergency := false, command := false, fault := false } reason }).enterFreeOpen reason := by
  rw [State.joinReason, hr]
  refine State.setReasons_opens (by rw [hr]; rfl) ?_
  cases reason <;> rfl

theorem State.joins_more (hw : s.gate.reasons.emergency = true ∨ s.gate.reasons.command = true ∨ s.gate.reasons.fault = true) :
    s.joinReason reason = s.onGate { s.gate with reasons := s.gate.reasons.join reason } := by
  have hany : s.gate.reasons.any = true := by simpa [FreeReasons.any, or_assoc] using hw
  refine State.leaves_keeps hany ?_
  cases reason with
  | emergency => exact .inl rfl
  | command => exact .inr (.inl rfl)
  | fault => exact .inr (.inr rfl)

/-- The emergency input that becomes ACTIVE (R148). -/
theorem State.debounced_alarms (hd : s.aisle.filters.emergency.debounce.isSome)
    (hl : (s.aisle.pins.emergency == s.aisle.params.emergency.activeHigh) = true) :
    s.debounced (.single .emergency) = (s.filtered .emergency).joinReason .emergency := by
  have hactive : (s.filtered .emergency).aisle.active .emergency = true := (State.filtered_active (i := .emergency) hd).trans hl
  rw [State.debounced_emergency hd]
  exact State.emergencyChanged_active hactive

/-- Without auto-resume its end leaves COMMAND in the set (R148). -/
theorem State.debounced_stays (hd : s.aisle.filters.emergency.debounce.isSome)
    (hl : (s.aisle.pins.emergency == s.aisle.params.emergency.activeHigh) = false) (he : s.gate.reasons.emergency = true)
    (ha : s.gate.autoResume = false) :
    s.debounced (.single .emergency) =
      (s.filtered .emergency).setReasons { s.gate.reasons with emergency := false, command := true } .command := by
  have hinactive : (s.filtered .emergency).aisle.active .emergency = false := (State.filtered_active (i := .emergency) hd).trans hl
  rw [State.debounced_emergency hd]
  exact State.emergencyChanged_stays hinactive he ha

end Join

/-- Settles O40: the request and the emergency input let their reason join, and the first reason opens the gate. -/
theorem freeOpenBegins : Obligations.FreeOpenBegins := by
  intro s tag r cancelled withdrawn told opened
  refine ⟨fun h => ⟨fun hany => ?joins, fun hnone => ?command⟩, fun hdebounce hlevel => ⟨fun hnone => ?emergency, fun hother => ?second⟩,
    fun hdebounce hlevel hemergency hauto => ?stays⟩
  case joins =>
    have hjoins := State.joins_more (s := s.atOwner tag (.gateCommand 1)) (reason := .command) hany
    exact congrArg Host.Outcome.next (State.request_reply (a := { result := .ok, fields := [0] })
      (v := s.onGate { s.gate with reasons := { r with command := true } }) h rfl nofun rfl (.inl rfl)
      (congrArg (fun u : State => answered (u.ok [0])) hjoins))
  case command =>
    have hfirst := State.joins_first (s := s.atOwner tag (.gateCommand 1)) (reason := .command) hnone
    obtain ⟨p, hp, hmade, htells⟩ := State.gateCommand_told (code := 1) h (congrArg (State.ok · [0]) hfirst)
    obtain ⟨hmasked, hnotices⟩ := s.atOwner_notices tag (.gateCommand 1)
    have hjoined : s.WithReasons ((s.atOwner tag (.gateCommand 1)).onGate
        { s.gate with reasons := { emergency := false, command := true, fault := false } }) _ :=
      ⟨rfl, rfl, rfl, rfl, hmasked, hnotices⟩
    obtain ⟨hopened, hreasons⟩ := hjoined.opened (reason := .command) (p := p)
    exact ⟨_, congrArg Host.Outcome.next hp, hopened, hjoined.startTold htells, hreasons, hmade⟩
  case emergency =>
    have hfirst := (State.debounced_alarms hdebounce hlevel).trans (State.joins_first (s := s.filtered .emergency) hnone)
    have hjoined : s.WithReasons ((s.filtered .emergency).onGate
        { s.gate with reasons := { emergency := true, command := false, fault := false } }) _ :=
      ⟨rfl, rfl, rfl, State.filtered_active_ne (by decide), rfl, Nat.le_refl _⟩
    obtain ⟨hopened, hreasons⟩ := hjoined.opened (reason := .emergency) (p := Port.pump _)
    refine ⟨_, congrArg (fun t : State => Host.Outcome.next t.pump) hfirst, hopened, hjoined.startTold fun n hn => Port.mem_pump hn,
      hreasons, ?_⟩
    have haisle := congrArg Footing.aisle (State.enterFreeOpen_footing ((s.filtered .emergency).onGate
      { s.gate with reasons := { emergency := true, command := false, fault := false } }) .emergency)
    have hfiltered : (s.filtered .emergency).aisle.filters.emergency.filtered = true := by
      rw [State.filtered_emergency hdebounce hlevel]
    exact (congrArg (fun x : Aisle => x.filters.emergency.filtered) haisle).trans hfiltered
  case second =>
    have hjoins := (State.debounced_alarms hdebounce hlevel).trans
      (State.joins_more (s := s.filtered .emergency) (reason := .emergency) (.inr hother))
    exact ⟨_, congrArg (fun t : State => Host.Outcome.next t.pump) hjoins, rfl, rfl, rfl⟩
  case stays =>
    have hany : s.gate.reasons.any = true := by
      have hemergency : s.gate.reasons.emergency = true := hemergency
      simp [FreeReasons.any, hemergency]
    have hstays := (State.debounced_stays hdebounce hlevel hemergency hauto).trans
      (State.leaves_keeps (s := s.filtered .emergency) hany (.inr (.inl rfl)))
    exact ⟨_, congrArg (fun t : State => Host.Outcome.next t.pump) hstays, rfl, rfl, rfl⟩

end Sys2Proof.Machine
end
